-- ==== Sys2Proof/Word.lean ====
section
/-! DEFINITION. Words of the mainframe bus and the numbers the manual gives heads, slots, sites, domains and templates (00 Terms, 00 Conventions). -/

namespace Sys2Proof

/-- A word of the mainframe bus, bit 0 least significant (00 Conventions). -/
abbrev Word := BitVec 32

/-- One byte of a head-link frame or a vector of the Attention Unit. -/
abbrev Byte := BitVec 8

/-- A head, 0 to 7. -/
abbrev HeadNo := Fin 8

/-- A probe position within a head, 0 to 31. -/
abbrev SlotNo := Fin 32

/-- A site, head × 32 + slot, 0 to 255. -/
abbrev SiteNo := Fin 256

/-- A repair domain, 0 to 15. -/
abbrev DomainNo := Fin 16

/-- A geometry template, 0 to 7. -/
abbrev TemplateNo := Fin 8

/-- A line address or a raw row: 0 to 65,535. -/
abbrev LineAddr := BitVec 16

/-- A set of the slots 0 to 31 of one head, bit n for slot n (R187). -/
abbrev SlotSet := BitVec 32

/-- A set of the sixteen attention sources, bit n for source n (R184). -/
abbrev SourceSet := BitVec 16

/-- A count of 0 to 65,535 that saturates (R15, R45). -/
abbrev Count16 := BitVec 16

end Sys2Proof
end

