-- ==== Sys2Proof/Syntax.lean ====
section
/-! DEFINITION. The 64 commands, one constructor per row of spec/opcode_table.json, with the operands the rules give them. -/

namespace Sys2Proof

/-- The commands of the part: bus accesses of the host, the power-on reset input, arrivals, expiries and completions, the service
of each request, and the steps of the engines. A request carries no operand: its parameters stand in the request buffer (R177). -/
inductive Instr where
  /-- POWER_ON_RESET (R43). -/
  | powerOnReset
  /-- SOFT_RESET (R185). -/
  | softReset (value : Word)
  /-- SOFT_RESET_RELEASE (R185). -/
  | softResetRelease (value : Word)
  /-- REQUEST_BUFFER_WRITE (R176). -/
  | requestBufferWrite (index : Fin 16) (value : Word)
  /-- GO (R177). -/
  | go
  /-- RELEASE (R176). -/
  | release
  /-- ACK (R182). -/
  | ack
  /-- EOS (R183). -/
  | eos
  /-- IGNORED_WRITE (R176). -/
  | ignoredWrite (offset : Nat) (value : Word)
  /-- LOAD_TEMPLATE (R9). -/
  | loadTemplate
  /-- QUERY_TEMPLATE (R11). -/
  | queryTemplate
  /-- ARM (R18). -/
  | arm
  /-- STAGE (R20). -/
  | stage
  /-- UNSTAGE (R21). -/
  | unstage
  /-- DISARM (R19). -/
  | disarm
  /-- START_SITES (R23). -/
  | startSites
  /-- CLOSE (R27). -/
  | close
  /-- ABORT (R35). -/
  | abort
  /-- HOLD_SITE (R25). -/
  | holdSite
  /-- RELEASE_HOLD (R25). -/
  | releaseHold
  /-- QUERY_SITE (R42). -/
  | querySite
  /-- TAKE_STOP_NOTICES (R41). -/
  | takeStopNotices
  /-- QUERY_INTEGRITY (R60). -/
  | queryIntegrity
  /-- LOOKUP_LINE (R132). -/
  | lookupLine
  /-- LIST_LINES (R133). -/
  | listLines
  /-- PIN_LINE (R135). -/
  | pinLine
  /-- RETIRE_LINE (R137). -/
  | retireLine
  /-- MARK_SPARE_DEFECTIVE (R138). -/
  | markSpareDefective
  /-- SET_COINCIDENCE (R123). -/
  | setCoincidence
  /-- LIST_COINCIDENCE (R124). -/
  | listCoincidence
  /-- CLEAR_TRIP (R125). -/
  | clearTrip
  /-- QUERY_COINCIDENCE (R126). -/
  | queryCoincidence
  /-- LINK_ENABLE (R144). -/
  | linkEnable
  /-- LINK_RESET (R158). -/
  | linkReset
  /-- QUERY_LINK (R157). -/
  | queryLink
  /-- GIVE_EXPORT_CHAIN (R165). -/
  | giveExportChain
  /-- FLUSH_EXPORT (R170). -/
  | flushExport
  /-- RESUME_EXPORT (R171). -/
  | resumeExport
  /-- ABANDON_BUFFER (R172). -/
  | abandonBuffer
  /-- QUERY_EXPORT (R173). -/
  | queryExport
  /-- SET_LIMITS (R179). -/
  | setLimits
  /-- QUERY_PART (R180). -/
  | queryPart
  /-- SET_ATTENTION (R184). -/
  | setAttention
  /-- HELLO_RECEIVED (R146). -/
  | helloReceived (head : HeadNo) (serial : BitVec 16) (slotCount level : Byte)
  /-- FAIL_RECEIVED (R149). -/
  | failReceived (head : HeadNo) (slot : SlotNo) (domain : DomainNo) (rawRow : LineAddr) (rawColumn : BitVec 12) (runLess1 : Fin 16)
  /-- END_RECEIVED (R149). -/
  | endReceived (head : HeadNo) (slot : SlotNo)
  /-- HOLD_RECEIVED (R149). -/
  | holdReceived (head : HeadNo) (slot : SlotNo) (on : Bool)
  /-- BAD_FRAME_RECEIVED (R148). -/
  | badFrameReceived (head : HeadNo)
  /-- TRAINING_DEADLINE (R145). -/
  | trainingDeadline (head : HeadNo)
  /-- DRAIN_DEADLINE (R29). -/
  | drainDeadline (site : SiteNo)
  /-- BUS_TIMEOUT (R164). -/
  | busTimeout
  /-- FRAME_SENT (R155). -/
  | frameSent (head : HeadNo)
  /-- DESCRIPTOR_READ_ACCEPTED (R163). -/
  | descriptorReadAccepted (data : Word)
  /-- RECORD_WORD_ACCEPTED (R168). -/
  | recordWordAccepted
  /-- WRITE_BACK_ACCEPTED (R169). -/
  | writeBackAccepted
  /-- ASSEMBLY_COMPLETION (R166). -/
  | assemblyCompletion
  /-- WORK_ITEM_COMPLETE (R63). -/
  | workItemComplete
  /-- SWEEP_STEP (R102). -/
  | sweepStep
  /-- SETTLE_STEP (R95). -/
  | settleStep
  /-- FAIL_FRAME_TAKEN (R72). -/
  | failFrameTaken
  /-- END_TAKEN (R81). -/
  | endTaken
  /-- HOLD_TAKEN (R82). -/
  | holdTaken
  /-- LINK_LOST_MARKER_TAKEN (R83). -/
  | linkLostMarkerTaken
  /-- POWER_ON_RESET_RELEASE (R186). -/
  | powerOnResetRelease
  deriving DecidableEq, Repr

end Sys2Proof
end

