-- ==== Sys2Proof/Decode.lean ====
section
/-! DEFINITION. The commands that a word of spec/opcode_table.json spells. -/

namespace Sys2Proof

/-- No row of the table gives bits (its `fields` are empty and it has no `fixed`), so no word spells a command. -/
def decodeTableWord (_nbits _w : Nat) : Option Instr := none

end Sys2Proof
end

