-- ==== Sys2Proof/Machine/Vocabulary.lean ====
section
/-! DEFINITION. The manual's names: states, reasons, kinds and refusals, and the fields a reply word holds. -/

namespace Sys2Proof.Machine

/-- The axis of a line or a spare. -/
inductive Axis where
  | row | column
  deriving DecidableEq, Repr

/-- The states of a site's current context, all but VACANT (R14). -/
inductive Phase where
  | armed | testing | draining | sweeping | held
  deriving DecidableEq, Repr

/-- The six site states (section 2.2). -/
inductive SiteState where
  | vacant | armed | testing | draining | sweeping | held
  deriving DecidableEq, Repr

/-- The stop policy of a context (R14). -/
inductive StopPolicy where
  | stop | continue_
  deriving DecidableEq, Repr

/-- The undetermined reasons (R14, R38). -/
inductive Reason where
  | spill | quota | integrity | aborted
  deriving DecidableEq, Repr

/-- The states of a repair domain (R15). -/
inductive DomainState where
  | opened | failing | unrepairable | clean | repaired
  deriving DecidableEq, Repr

/-- Why an ASSIGNED line holds its spare (R45). -/
inductive Origin where
  | must | sweep | pinned | carried
  deriving DecidableEq, Repr

/-- The states of an in-use line record; the origin is absent in CANDIDATE (R45). -/
inductive LineState where
  | candidate
  | assigned (origin : Origin)
  deriving DecidableEq, Repr

/-- The work that reads line records (R57). -/
inductive Activity where
  | fold | settle | sweep | lookup | assembly
  deriving DecidableEq, Repr

/-- The reasons of a Stop Notice (R40). -/
inductive NoticeReason where
  | earlyStop | spill | quota | integrity | stageFailed | coincidenceHold
  deriving DecidableEq, Repr

/-- The two groups of the engine arbiter (R64). -/
inductive Group where
  | background | intake
  deriving DecidableEq, Repr

/-- The phases of the sweep position (R101). -/
inductive SweepPhase where
  | enter | settle | greedy
  deriving DecidableEq, Repr

/-- The action of the Coincidence Unit (R120). -/
inductive CoAction where
  | notify | hold
  deriving DecidableEq, Repr

/-- The states of a coincidence entry (R117). -/
inductive CoState where
  | counting | tripped
  deriving DecidableEq, Repr

/-- The link states (R143). -/
inductive LinkState where
  | down | training | up | faulted
  deriving DecidableEq, Repr

/-- The link causes (R156). -/
inductive LinkCause where
  | badFrame | overrun | trainingTimeout | faulted | upReached | stray | late | badAddress | badHello
  deriving DecidableEq, Repr

/-- The quality flags (R39). -/
inductive QualityFlag where
  | suspect | drainTimeout | linkLost | badAddress | hostEdited | coincident | earlyStop
  deriving DecidableEq, Repr

/-- The two descriptor slots of the Export Engine (R161). -/
inductive SlotId where
  | current | next
  deriving DecidableEq, Repr

/-- The kinds of a stall (R164). -/
inductive Stall where
  | fetch (slot : SlotId)
  | write
  | writeBack
  deriving DecidableEq, Repr

/-- The reasons a buffer is closed (R169). -/
inductive CloseCause where
  | full | flushed
  deriving DecidableEq, Repr

/-- The engine states that QUERY-EXPORT and QUERY-PART report (R162). -/
inductive EngineState where
  | stalled | assembling | writing | waiting | ready | idle
  deriving DecidableEq, Repr

/-- The port states (R176). -/
inductive PortState where
  | ready | running | replied
  deriving DecidableEq, Repr

/-- The site outcomes (R107). -/
inductive SiteOutcome where
  | pass | repairable | fail | undetermined
  deriving DecidableEq, Repr

/-- The 34 requests, in the order of their codes (R177). -/
inductive Request where
  | loadTemplate | queryTemplate | arm | stage | unstage | disarm | startSites | close | abort
  | holdSite | releaseHold | querySite | takeStopNotices | queryIntegrity
  | lookupLine | listLines | pinLine | retireLine | markSpareDefective
  | setCoincidence | listCoincidence | clearTrip | queryCoincidence
  | linkEnable | linkReset | queryLink
  | giveExportChain | flushExport | resumeExport | abandonBuffer | queryExport
  | setLimits | queryPart | setAttention
  deriving DecidableEq, Repr

/-- The refusal reasons (R178). -/
inductive Refuse where
  | badRequest | badSite | badTemplate | badField | badGeometry | badCarryIn | outOfRange
  | templateInvalid | badState | already | siteClosing | linesLost | domainLost
  | stagedFull | chainPresent | headBusy | noBuffer | linkNotUp
  | noSpare | storeFull | quota | notFound | lineAssigned | integrity
  deriving DecidableEq, Repr

/-- The status word of a reply (R178). -/
inductive ReplyStatus where
  | done
  | refused (why : Refuse)
  deriving DecidableEq, Repr

/-- The result names that replies carry (R9, R20, R132, R165, R170). -/
inductive ResultName where
  | active | pending | promoted | staged | found | notFound | current | next | closed | deferred
  deriving DecidableEq, Repr

/-- A set of quality flags, one Bool each (R39). -/
structure QualityFlags where
  suspect : Bool := false
  drainTimeout : Bool := false
  linkLost : Bool := false
  badAddress : Bool := false
  hostEdited : Bool := false
  coincident : Bool := false
  earlyStop : Bool := false
  deriving DecidableEq, Repr

/-- A link cause set, one Bool each (R156). -/
structure LinkCauses where
  badFrame : Bool := false
  overrun : Bool := false
  trainingTimeout : Bool := false
  faulted : Bool := false
  upReached : Bool := false
  stray : Bool := false
  late : Bool := false
  badAddress : Bool := false
  badHello : Bool := false
  deriving DecidableEq, Repr

/-- One named field of a reply word. The manual names the fields of a word and not their bits (00 Conventions, R178);
`zero` is a field that the rule makes read as 0. -/
inductive ReplyField where
  | zero
  | num (n : Nat)
  | flag (b : Bool)
  | slots (set : SlotSet)
  | status (s : ReplyStatus)
  | result (r : ResultName)
  | templateValid (b : Bool)
  | siteState (s : SiteState)
  | policy (p : StopPolicy)
  | domainState (d : DomainState)
  | lineState (l : LineState)
  | origin (o : Origin)
  | axis (a : Axis)
  | reason (r : Reason)
  | quality (q : QualityFlags)
  | notice (n : NoticeReason)
  | activity (a : Activity)
  | coAction (a : CoAction)
  | coState (c : CoState)
  | linkState (l : LinkState)
  | sending (b : Bool)
  | causes (c : LinkCauses)
  | engineState (e : EngineState)
  | stall (s : Stall)
  | slotHeld
  | slotFetching
  | slotEmpty
  | sources (s : SourceSet)
  deriving DecidableEq, Repr

/-- One reply word: its named fields in the order the rule lists them; an unnamed word holds none and reads as 0 (R178). -/
abbrev ReplyWord := List ReplyField

/-- A reply before it is posted: status and result words from word 1 on (R178). -/
structure Reply where
  status : ReplyStatus
  words : List ReplyWord := []
  deriving DecidableEq, Repr

end Sys2Proof.Machine
end

