-- ==== Sys2Proof/Config.lean ====
section
/-! DEFINITION. What is fixed for the part (its sizes) and the free values, which nothing in Lean can evaluate (log entries 4, 9, 10, 11). -/

namespace Sys2Proof.Config

open Sys2Proof.Machine

/-- The number of line records (R44). -/
abbrev lineRecords : Nat := 12288

/-- The room of an intake FIFO, and the sum of the credit law (R152, R153). -/
abbrev linkCredits : Nat := 64

/-- The urgency threshold of the arbiter (R67). -/
abbrev urgent : Nat := 48

/-- The largest solution record, in words (R113). -/
abbrev maxRecord : Nat := 516

/-- FREE VALUE (log entry 4): how many µs have passed since the last event at which the model looked at the time. -/
opaque elapsed : Nat → Nat

/-- FREE VALUE (log entry 10): which of the free records the Repair Engine takes (R44); used modulo the number of free records. -/
opaque freeRecord : Nat → Nat

/-- FREE VALUE (log entry 9): the bits of a reply word that holds several named fields, whose places the manual does not give. -/
opaque packReplyWord : ReplyWord → Word

/-- FREE VALUE (log entry 21): the bits of the port status word: port state, LOST_GO, WRITE_IGNORED, reset held (R176). -/
opaque packPortStatus : PortState → (lostGo writeIgnored resetHeld : Bool) → Word

/-- FREE VALUE (log entry 21): the bits of the attention status word: the pending set and the mask set (R182). -/
opaque packAttentionStatus : (pendingSet mask : SourceSet) → Word

/-- FREE VALUE (log entry 11): the check code computed over a record's key, state, origin, fail count and cross list (R45, R57). -/
opaque checkCode : (site domain : Nat) → Axis → LineAddr → LineState → Count16 → List LineAddr → BitVec 16

end Sys2Proof.Config
end

