-- ==== Sys2Proof/Machine/State.lean ====
section
/-! DEFINITION. The state of the part, block by block (00 Block Diagram), its values after power-on reset, and the reasons a step can stop. -/

namespace Sys2Proof.Machine

/-- No event of the part stops it: every rule gives its event an effect in every state. -/
inductive Fault where
  deriving DecidableEq, Repr

/-- Why a step has no meaning. -/
inductive Refusal where
  /-- Raised by an arm of exec whose command has no meaning yet; safe. No arm of this model raises it. -/
  | notModelled (mnemonic : String)
  deriving DecidableEq, Repr

/-- A value for each axis. -/
structure PerAxis where
  row : Nat
  column : Nat
  deriving DecidableEq, Repr

/-- A geometry record: the seven fields in the order of R2. -/
structure Geometry where
  domainCount : Nat
  rows : Nat
  columns : Nat
  rowGroup : Nat
  columnGroup : Nat
  spareRows : Nat
  spareColumns : Nat
  deriving DecidableEq, Repr

/-- A template (R1). It is VALID exactly when the active copy is present. -/
structure Template where
  active : Option Geometry
  pendingCopy : Option Geometry
  useCount : Nat
  deriving DecidableEq, Repr

/-- A per-domain record (R15). -/
structure DomainRec where
  state : DomainState
  base : PerAxis
  defective : PerAxis
  assigned : PerAxis
  failTotal : Count16
  deriving DecidableEq, Repr

/-- A carry-in entry (R14). -/
structure CarryIn where
  domain : DomainNo
  axis : Axis
  addr : LineAddr
  deriving DecidableEq, Repr

/-- A staged context (R14), and the fields of an ARM or a STAGE (R18, R20). -/
structure Staged where
  tag : Word
  template : TemplateNo
  policy : StopPolicy
  quota : Option Nat
  carryIn : List CarryIn
  deriving DecidableEq, Repr

/-- The fields of a current context that are absent in VACANT (R14). -/
structure Context where
  phase : Phase
  tag : Word
  template : TemplateNo
  geometry : Geometry
  policy : StopPolicy
  quota : Nat
  reason : Option Reason
  flags : QualityFlags
  doomed : Bool
  domains : List DomainRec
  deriving DecidableEq, Repr

/-- What the Site Table holds for one site (R14): no context in VACANT. -/
structure Site where
  ctx : Option Context
  hostHold : Bool
  staged : Option Staged
  headHold : Bool
  drainDeadline : Option Nat
  deriving DecidableEq, Repr

/-- A line key (R45). -/
structure Key where
  site : SiteNo
  domain : DomainNo
  axis : Axis
  addr : LineAddr
  deriving DecidableEq, Repr

/-- An in-use line record (R45). `syndrome` is the stored check code exclusive-or the code of the fields as they stand, so it is 0
exactly when the stored code matches (R57, log entry 11). -/
structure LineRec where
  index : Nat
  key : Key
  state : LineState
  failCount : Count16
  cross : List LineAddr
  syndrome : BitVec 16
  deriving DecidableEq, Repr

/-- The Integrity Capture when it is full (R59). -/
structure Capture where
  site : SiteNo
  index : Nat
  activity : Activity
  overflow : Bool
  deriving DecidableEq, Repr

/-- The Line Store (R44), with the in-use records in key order (R46); a record not listed is free. -/
structure LineStore where
  lines : List LineRec
  defaultQuota : Nat
  lowWater : Nat
  low : Bool
  capture : Option Capture
  deriving DecidableEq, Repr

/-- A Stop Notice (R40). -/
structure Notice where
  site : SiteNo
  reason : NoticeReason
  tag : Word
  more : Bool
  deriving DecidableEq, Repr

/-- The lists and the limit of the Site Controller (R36, R40, R28); the drain timeout is in units of 10 µs. -/
structure SiteLists where
  sweepQueue : List SiteNo
  stopNotices : List Notice
  drainTimeout : Nat
  deriving DecidableEq, Repr

/-- An entry of the Settle List (R92); cursor START is none. -/
structure SettleEntry where
  site : SiteNo
  domain : DomainNo
  cursor : Option Key
  renew : Bool
  deriving DecidableEq, Repr

/-- The sweep position while it names a site (R101). -/
structure SweepPos where
  site : SiteNo
  domain : DomainNo
  phase : SweepPhase
  cursor : Option Key
  renew : Bool
  deriving DecidableEq, Repr

/-- The work item in progress, between its grant and its completion (R63); a host request keeps the reply it will post. -/
inductive WorkItem where
  | host (reply : Reply)
  | sweep
  | settle
  | intake
  deriving DecidableEq, Repr

/-- The Repair Engine's own state (R63, R92, R101). -/
structure Engine where
  pendingHost : Option Request
  lastGroup : Group
  lastHead : HeadNo
  inProgress : Option WorkItem
  settleList : List SettleEntry
  sweepPos : Option SweepPos
  deriving DecidableEq, Repr

/-- A coincidence key (R116). -/
structure CoKey where
  template : TemplateNo
  domain : DomainNo
  axis : Axis
  coarse : Nat
  deriving DecidableEq, Repr

/-- A coincidence entry in use (R117); members ascend. -/
structure CoEntry where
  key : CoKey
  members : List SiteNo
  state : CoState
  deriving DecidableEq, Repr

/-- The Coincidence Unit (R117, R118). -/
structure CoUnit where
  table : Vector (Option CoEntry) 128
  threshold : Nat
  span : Nat
  action : CoAction
  tableFull : Bool
  deriving DecidableEq, Repr

/-- A counted upstream frame in an intake FIFO (R142). -/
inductive UpFrame where
  | fail (slot : SlotNo) (domain : DomainNo) (rawRow : LineAddr) (rawColumn : BitVec 12) (runLess1 : Fin 16)
  | endFrame (slot : SlotNo)
  | hold (slot : SlotNo) (on : Bool)
  deriving DecidableEq, Repr

/-- A downstream frame (R142). -/
inductive DownFrame where
  | gate (slots : SlotSet)
  | credit (count : Nat)
  | drain (slot : SlotNo)
  deriving DecidableEq, Repr

/-- A Head Link Controller (R142). `transmitter` is none when IDLE and the frame in flight when SENDING; `gateHanded` is the gate
set last handed to it by the Site Controller (R24). -/
structure Link where
  state : LinkState
  trainingDeadline : Option Nat
  serial : BitVec 16
  slotCount : Nat
  balance : Nat
  badCount : Nat
  fifo : List UpFrame
  marker : Bool
  downGate : Option SlotSet
  downCredit : Option Nat
  drains : List SlotNo
  transmitter : Option DownFrame
  causes : LinkCauses
  gateHanded : SlotSet
  deriving DecidableEq, Repr

/-- A held export descriptor (R161). -/
structure Descriptor where
  addr : Word
  bufAddr : Word
  bufLen : Nat
  nextAddr : Option Word
  notify : Bool
  deriving DecidableEq, Repr

/-- A descriptor slot (R161); `got` are the words a fetch has read so far, in the order read (R163). -/
inductive DescSlot where
  | empty
  | fetching (addr : Word) (got : List Word)
  | held (d : Descriptor)
  deriving DecidableEq, Repr

/-- A record in the Record Assembly Buffer (R161). -/
structure Record where
  site : SiteNo
  words : List Word
  deriving DecidableEq, Repr

/-- A write-back entry (R161). -/
structure WriteBack where
  addr : Word
  notify : Bool
  used : Nat
  cause : CloseCause
  deriving DecidableEq, Repr

/-- The three accesses of the bus initiator (R164). -/
inductive AccessKind where
  | read (slot : SlotId) (addr : Word)
  | record (addr data : Word)
  | status (addr data : Word)
  deriving DecidableEq, Repr

/-- An access in flight, with the time at which it times out (R164). -/
structure Access where
  kind : AccessKind
  deadline : Nat
  deriving DecidableEq, Repr

/-- The Export Engine (R161, R164, R111); the bus timeout is in units of 10 µs. -/
structure Exporter where
  current : DescSlot
  fillOffset : Option Nat
  nextSlot : DescSlot
  buffer : Option Record
  assembling : Option SiteNo
  writePos : Option Nat
  writeBacks : List WriteBack
  flushPending : Bool
  stall : Option Stall
  badDescriptor : Bool
  fetchOrder : List SlotId
  access : Option Access
  busTimeout : Nat
  collectionQueue : List SiteNo
  deriving DecidableEq, Repr

/-- The Command Port (R176, R177, R185). -/
structure Port where
  state : PortState
  lostGo : Bool
  writeIgnored : Bool
  requestBuf : Vector Word 16
  replyBuf : Vector ReplyWord 16
  softWord : Word
  deriving DecidableEq, Repr

/-- The Attention Unit (R182). -/
structure Attention where
  pendingSet : SourceSet
  inService : SourceSet
  mask : SourceSet
  vectors : Vector Byte 16
  defaultVector : Byte
  deriving DecidableEq, Repr

/-- The whole part. `pending`, `busRead`, `now` and `freeIx` are the model's own (INVENTORY.md, log entries 3, 4, 10, 18). -/
structure State where
  templates : Vector Template 8
  sites : Vector Site 256
  lists : SiteLists
  store : LineStore
  engine : Engine
  co : CoUnit
  links : Vector Link 8
  trainingTimeout : Nat
  ex : Exporter
  port : Port
  att : Attention
  porHeld : Bool
  pending : List Instr
  busRead : Byte
  now : Nat
  freeIx : Nat
  deriving DecidableEq, Repr

/-- A template after power-on reset (R13). -/
def Template.invalid : Template := { active := none, pendingCopy := none, useCount := 0 }

/-- A site after power-on or soft reset (R43). -/
def Site.vacantSite : Site := { ctx := none, hostHold := false, staged := none, headHold := false, drainDeadline := none }

/-- The Repair Engine after power-on or soft reset (R62, R68, R101). -/
def Engine.idle : Engine :=
  { pendingHost := none, lastGroup := .background, lastHead := 7, inProgress := none, settleList := [], sweepPos := none }

/-- A link after any reset (R160). -/
def Link.down : Link :=
  { state := .down, trainingDeadline := none, serial := 0, slotCount := 0, balance := 0, badCount := 0, fifo := [], marker := false,
    downGate := none, downCredit := none, drains := [], transmitter := none, causes := {}, gateHanded := 0 }

/-- The Export Engine after a reset that leaves its bus timeout at `busTimeout` (R175). -/
def Exporter.idle (busTimeout : Nat) : Exporter :=
  { current := .empty, fillOffset := none, nextSlot := .empty, buffer := none, assembling := none, writePos := none, writeBacks := [],
    flushPending := false, stall := none, badDescriptor := false, fetchOrder := [], access := none, busTimeout, collectionQueue := [] }

/-- The part while the power-on reset input is low (R13, R43, R62, R68, R128, R160, R175, R186). -/
def State.powerOn : State :=
  { templates := Vector.replicate 8 Template.invalid
    sites := Vector.replicate 256 Site.vacantSite
    lists := { sweepQueue := [], stopNotices := [], drainTimeout := 1000 }
    store := { lines := [], defaultQuota := 48, lowWater := 512, low := false, capture := none }
    engine := Engine.idle
    co := { table := Vector.replicate 128 none, threshold := 6, span := 4, action := .notify, tableFull := false }
    links := Vector.replicate 8 Link.down
    trainingTimeout := 50000
    ex := Exporter.idle 20
    port := { state := .ready, lostGo := false, writeIgnored := false, requestBuf := Vector.replicate 16 0,
              replyBuf := Vector.replicate 16 [], softWord := 0 }
    att := { pendingSet := 0, inService := 0, mask := 0xFFFF, vectors := Vector.ofFn fun i => BitVec.ofNat 8 (64 + i.val), defaultVector := 127 }
    porHeld := true
    pending := []
    busRead := 0
    now := 0
    freeIx := 0 }

/-- The part right after reset: power-on values with the reset ended, EXPORT_WANTED (source 12) pending (R186, log entry 5). -/
def State.reset : State :=
  { State.powerOn with att := { State.powerOn.att with pendingSet := 0x1000 }, porHeld := false }

end Sys2Proof.Machine
end

