-- ==== Sys2Proof/Machine/Ops.lean ====
section
/-! DEFINITION. Named operations over the state: the numbers of sites and lines, the accessors of every block, the Line Store's
takes, writes and frees, the free values, notices and attention events. -/

namespace Sys2Proof.Machine

/-! ### Numbers -/

/-- A saturating count goes up by 1 and stays at 65,535 (R15, R48). -/
def satInc (c : Count16) : Count16 := if c = 0xFFFF then c else c + 1

/-- The site of a slot of a head: head × 32 + slot (00 Terms). -/
def siteOf (h : HeadNo) (sl : SlotNo) : SiteNo := ⟨h.val * 32 + sl.val, by omega⟩

/-- The head of a site. -/
def headOf (i : SiteNo) : HeadNo := ⟨i.val / 32, by omega⟩

/-- The slot of a site within its head. -/
def slotOf (i : SiteNo) : SlotNo := ⟨i.val % 32, by omega⟩

/-- The other axis (00 Terms). -/
def Axis.other : Axis → Axis
  | .row => .column
  | .column => .row

/-- ROW comes before COLUMN in key order (R46). -/
def Axis.rank : Axis → Nat
  | .row => 0
  | .column => 1

def PerAxis.get (p : PerAxis) : Axis → Nat
  | .row => p.row
  | .column => p.column

def PerAxis.inc (p : PerAxis) : Axis → PerAxis
  | .row => { p with row := p.row + 1 }
  | .column => { p with column := p.column + 1 }

/-- The place of a key in the fixed key order: site, domain, axis, ascending address (R46). -/
def Key.rank (k : Key) : Nat :=
  ((k.site.val * 16 + k.domain.val) * 2 + k.axis.rank) * 65536 + k.addr.toNat

/-- The set of the members `i` of `0 .. n-1` with `f i`, bit `i` for member `i`. -/
def bitSet (n : Nat) (f : Fin n → Bool) : BitVec n :=
  (BitVec.ofBoolListLE ((List.finRange n).map f)).setWidth n

/-- Put a line address into an ascending cross list, once (R49). -/
def crossInsert (x : LineAddr) : List LineAddr → List LineAddr
  | [] => [x]
  | y :: ys => if x.toNat < y.toNat then x :: y :: ys else if x = y then y :: ys else y :: crossInsert x ys

/-- Put a site into an ascending member list, once (R117, R118). -/
def memberInsert (x : SiteNo) : List SiteNo → List SiteNo
  | [] => [x]
  | y :: ys => if x.val < y.val then x :: y :: ys else if x = y then y :: ys else y :: memberInsert x ys

/-! ### Geometry (R2, R3) -/

/-- Rows per domain divided by the row group size; the same for columns (section 1.2). -/
def Geometry.lineCount (g : Geometry) : Axis → Nat
  | .row => g.rows / g.rowGroup
  | .column => g.columns / g.columnGroup

/-- The base spares of an axis (R4). -/
def Geometry.spares (g : Geometry) : Axis → Nat
  | .row => g.spareRows
  | .column => g.spareColumns

/-- The line address of a raw address: divided by the group size, rounded down (R3). -/
def Geometry.lineOf (g : Geometry) : Axis → Nat → LineAddr
  | .row, r => BitVec.ofNat 16 (r / g.rowGroup)
  | .column, c => BitVec.ofNat 16 (c / g.columnGroup)

/-! ### Accessors -/

def State.template (s : State) (t : TemplateNo) : Template := s.templates[t.val]

def State.setTemplate (s : State) (t : TemplateNo) (x : Template) : State := { s with templates := s.templates.set t.val x }

def State.site (s : State) (i : SiteNo) : Site := s.sites[i.val]

def State.setSite (s : State) (i : SiteNo) (x : Site) : State := { s with sites := s.sites.set i.val x }

def State.modSite (s : State) (i : SiteNo) (f : Site → Site) : State := s.setSite i (f (s.site i))

def State.link (s : State) (h : HeadNo) : Link := s.links[h.val]

def State.setLink (s : State) (h : HeadNo) (x : Link) : State := { s with links := s.links.set h.val x }

def State.modLink (s : State) (h : HeadNo) (f : Link → Link) : State := s.setLink h (f (s.link h))

/-- The current context of a site, none in VACANT (R14). -/
def State.ctx (s : State) (i : SiteNo) : Option Context := (s.site i).ctx

/-- Change the current context of a site; nothing in VACANT. -/
def State.modCtx (s : State) (i : SiteNo) (f : Context → Context) : State :=
  s.modSite i fun x => { x with ctx := x.ctx.map f }

def Phase.siteState : Phase → SiteState
  | .armed => .armed
  | .testing => .testing
  | .draining => .draining
  | .sweeping => .sweeping
  | .held => .held

/-- The site state (section 2.2). -/
def Site.state (x : Site) : SiteState :=
  match x.ctx with
  | none => .vacant
  | some c => c.phase.siteState

def State.siteState (s : State) (i : SiteNo) : SiteState := (s.site i).state

/-- The undetermined reason of a site's context, if one is set (R38). -/
def State.reasonOf (s : State) (i : SiteNo) : Option Reason := (s.ctx i).bind (·.reason)

/-- The per-domain record of a domain of a current context (R4). -/
def State.domain? (s : State) (i : SiteNo) (d : DomainNo) : Option DomainRec := (s.ctx i).bind fun c => c.domains[d.val]?

/-- Change one per-domain record. -/
def State.modDomain (s : State) (i : SiteNo) (d : DomainNo) (f : DomainRec → DomainRec) : State :=
  s.modCtx i fun c => { c with domains := c.domains.modify d.val f }

/-- Available spares: base less defective less assigned (R5). -/
def DomainRec.available (r : DomainRec) (a : Axis) : Nat := r.base.get a - r.defective.get a - r.assigned.get a

/-- Available spares of an axis of a domain, worked out at the point of use; 0 without a record (R5). -/
def State.available (s : State) (i : SiteNo) (d : DomainNo) (a : Axis) : Nat :=
  match s.domain? i d with
  | some r => r.available a
  | none => 0

/-! ### Free values -/

/-- Time has passed by an amount nobody fixes (log entry 4). -/
def State.readClock (s : State) : State := { s with now := s.now + Config.elapsed s.freeIx, freeIx := s.freeIx + 1 }

/-- The record indices that no in-use record has (R44). -/
def freeIndices (lines : List LineRec) : List Nat :=
  (List.range Config.lineRecords).filter fun n => !(lines.any fun r => r.index == n)

/-- The record index taken: some free one, which one is a free value (R44, log entry 10). -/
def State.pickIndex (s : State) : Nat :=
  let free := freeIndices s.store.lines
  free.getD (Config.freeRecord s.freeIx % free.length) 0

/-! ### The Line Store (R44 to R56) -/

/-- The free count (R44). -/
def State.freeCount (s : State) : Nat := Config.lineRecords - s.store.lines.length

/-- The in-use count of a site (R53). -/
def State.inUse (s : State) (i : SiteNo) : Nat := (s.store.lines.filter fun r => r.key.site == i).length

/-- The clear level: mark plus 64, or 12,288 if that sum is greater (R56). -/
def clearLevel (mark : Nat) : Nat := min (mark + 64) Config.lineRecords

/-- The low indication as R56 judges it from the free count, the mark and its last value. A mark set to 0 while the indication is set and the
free count lies below 64 falls under the third bullet, which keeps it set, while the consequence R56 draws says that a mark of 0 leaves it
clear at all times: the model follows the bullets (DESIGN CHOICE, log entry 29). -/
def lowJudged (free mark : Nat) (low : Bool) : Bool :=
  if free < mark then true else if clearLevel mark ≤ free then false else low

/-- Judge the low indication (R56). -/
def State.judgeLow (s : State) : State :=
  { s with store := { s.store with low := lowJudged s.freeCount s.store.lowWater s.store.low } }

/-- Replace the in-use records and judge the low indication: a take or a free (R51, R52, R55). -/
def State.setLines (s : State) (ls : List LineRec) : State := ({ s with store := { s.store with lines := ls } } : State).judgeLow

/-- Look a key up in the Line Index (R46). -/
def State.findLine (s : State) (k : Key) : Option LineRec := s.store.lines.find? fun r => r.key == k

/-- Enter a record into the store in its key's place (R46). -/
def insertLine (r : LineRec) : List LineRec → List LineRec
  | [] => [r]
  | x :: xs => if r.key.rank < x.key.rank then r :: x :: xs else x :: insertLine r xs

/-- Take a free record and write it with a key and a state, fail count 0 and an empty cross list (R47, R51). -/
def State.takeLine (s : State) (k : Key) (st : LineState) : State :=
  let r : LineRec := { index := s.pickIndex, key := k, state := st, failCount := 0, cross := [], syndrome := 0 }
  { s.setLines (insertLine r s.store.lines) with freeIx := s.freeIx + 1 }

/-- Write a present record: its key and index stay, and a fresh check code is stored (R45, R57). -/
def State.writeLine (s : State) (k : Key) (f : LineRec → LineRec) : State :=
  { s with store := { s.store with lines := s.store.lines.map fun r =>
      if r.key = k then { f r with index := r.index, key := r.key, syndrome := 0 } else r } }

/-- Return one record to the free pool (R52). -/
def State.freeLine (s : State) (k : Key) : State := s.setLines (s.store.lines.filter fun r => !(r.key == k))

/-- The in-use lines of one domain of one site, in key order (R46). -/
def State.domainLines (s : State) (i : SiteNo) (d : DomainNo) : List LineRec :=
  s.store.lines.filter fun r => r.key.site == i && r.key.domain == d

def LineRec.isCandidate (r : LineRec) : Bool := r.state == .candidate

/-- The CANDIDATE lines of one domain of one site, in key order. -/
def State.candidates (s : State) (i : SiteNo) (d : DomainNo) : List LineRec := (s.domainLines i d).filter (·.isCandidate)

/-- A key lies above a cursor; every key lies above START (R46, R95). -/
def aboveCursor (cursor : Option Key) (k : Key) : Bool :=
  match cursor with
  | none => true
  | some c => c.rank < k.rank

/-- The outcome of the demand for n records (R51). -/
inductive Demand where
  | met | wantOfStore | wantOfQuota
  deriving DecidableEq, Repr

/-- Judge a demand for n records of a site: first the free count, then the site's quota (R51). -/
def State.demand (s : State) (i : SiteNo) (n : Nat) : Demand :=
  if s.freeCount < n then .wantOfStore
  else if ((s.ctx i).map (·.quota)).getD 0 < s.inUse i + n then .wantOfQuota
  else .met

/-! ### Settle List and sweep position -/

/-- Remove the Settle List entries that satisfy `p` (R94). -/
def State.dropSettle (s : State) (p : SettleEntry → Bool) : State :=
  { s with engine := { s.engine with settleList := s.engine.settleList.filter fun e => !p e } }

/-- Append a domain to the Settle List (R93). -/
def settleAppend (i : SiteNo) (d : DomainNo) (l : List SettleEntry) : List SettleEntry :=
  if l.any fun e => e.site == i && e.domain == d then
    l.map fun e => if e.site = i ∧ e.domain = d ∧ e.cursor.isSome then { e with renew := true } else e
  else l ++ [{ site := i, domain := d, cursor := none, renew := false }]

def State.appendSettle (s : State) (i : SiteNo) (d : DomainNo) : State :=
  { s with engine := { s.engine with settleList := settleAppend i d s.engine.settleList } }

def State.setSweepPos (s : State) (p : Option SweepPos) : State := { s with engine := { s.engine with sweepPos := p } }

/-! ### Stop Notices (R40) -/

/-- Post a notice: a new entry at the tail, or the "more" flag of the entry the site has (R40). -/
def noticePosted (i : SiteNo) (why : NoticeReason) (tag : Word) (l : List Notice) : List Notice :=
  if l.any fun n => n.site == i then l.map fun n => if n.site = i then { n with more := true } else n
  else l ++ [{ site := i, reason := why, tag, more := false }]

def State.postNoticeTag (s : State) (i : SiteNo) (why : NoticeReason) (tag : Word) : State :=
  { s with lists := { s.lists with stopNotices := noticePosted i why tag s.lists.stopNotices } }

/-- Post a notice that names the current context's DUT tag (R40). -/
def State.postNotice (s : State) (i : SiteNo) (why : NoticeReason) : State :=
  s.postNoticeTag i why (((s.ctx i).map (·.tag)).getD 0)

/-! ### Attention events (R181, R182) -/

/-- Source n as a set of one. -/
def sourceBit (n : Nat) : SourceSet := 1#16 <<< n

/-- An event source becomes pending at its event (R182). -/
def State.raise (s : State) (n : Nat) : State := { s with att := { s.att with pendingSet := s.att.pendingSet ||| sourceBit n } }

/-! ### Parts of the part -/

/-- The part is held in reset: by the power-on reset input or by the soft-reset word (R185, log entry 6). -/
def State.isHeld (s : State) : Bool := s.porHeld || s.port.softWord.getLsbD 0

/-- A work item goes on, or has stopped itself at a spill, an integrity failure or its end (R63). -/
inductive Run where
  | more (s : State)
  | halt (s : State)

def Run.andThen (r : Run) (f : State → Run) : Run :=
  match r with
  | .more s => f s
  | .halt s => .halt s

def Run.state : Run → State
  | .more s => s
  | .halt s => s

end Sys2Proof.Machine
end

