-- ==== Sys2Proof/Machine/Flags.lean ====
section
/-! DEFINITION. Quality flags, link causes, the attention sets and every computation on them. -/

namespace Sys2Proof.Machine

/-! ### Quality flags (R39) -/

def QualityFlags.set (q : QualityFlags) : QualityFlag → QualityFlags
  | .suspect => { q with suspect := true }
  | .drainTimeout => { q with drainTimeout := true }
  | .linkLost => { q with linkLost := true }
  | .badAddress => { q with badAddress := true }
  | .hostEdited => { q with hostEdited := true }
  | .coincident => { q with coincident := true }
  | .earlyStop => { q with earlyStop := true }

/-- A flag is set in a site's current context (R39). -/
def State.addFlag (s : State) (i : SiteNo) (f : QualityFlag) : State := s.modCtx i fun c => { c with flags := c.flags.set f }

/-- The flags as bits 8 to 14 of a record's header word 2 (R190). -/
def QualityFlags.bits (q : QualityFlags) : Word :=
  (BitVec.ofBoolListLE [q.suspect, q.drainTimeout, q.linkLost, q.badAddress, q.hostEdited, q.coincident, q.earlyStop]).setWidth 32 <<< 8

/-! ### Link causes (R156) -/

def LinkCauses.add (c : LinkCauses) : LinkCause → LinkCauses
  | .badFrame => { c with badFrame := true }
  | .overrun => { c with overrun := true }
  | .trainingTimeout => { c with trainingTimeout := true }
  | .faulted => { c with faulted := true }
  | .upReached => { c with upReached := true }
  | .stray => { c with stray := true }
  | .late => { c with late := true }
  | .badAddress => { c with badAddress := true }
  | .badHello => { c with badHello := true }

/-- The set holds some cause (R156). -/
def LinkCauses.nonempty (c : LinkCauses) : Bool :=
  c.badFrame || c.overrun || c.trainingTimeout || c.faulted || c.upReached || c.stray || c.late || c.badAddress || c.badHello

/-- A cause enters a head's link cause set (R156). -/
def State.addCause (s : State) (h : HeadNo) (c : LinkCause) : State := s.modLink h fun l => { l with causes := l.causes.add c }

/-! ### Attention (R181 to R183) -/

/-- The condition of each level source; the event sources have none (R181). -/
def State.levelCondition (s : State) (n : Fin 16) : Bool :=
  match n.val with
  | 1 => s.ex.stall.isSome
  | 2 => (s.link 0).causes.nonempty
  | 3 => (s.link 1).causes.nonempty
  | 4 => (s.link 2).causes.nonempty
  | 5 => (s.link 3).causes.nonempty
  | 6 => (s.link 4).causes.nonempty
  | 7 => (s.link 5).causes.nonempty
  | 8 => (s.link 6).causes.nonempty
  | 9 => (s.link 7).causes.nonempty
  | 10 => s.co.table.toList.any fun e => match e with | some e => e.state == .tripped | none => false
  | 11 => !s.lists.stopNotices.isEmpty
  | 12 => s.ex.nextSlot == .empty
  | 14 => s.store.low
  | _ => false

/-- Sources 0, 13 and 15 are events; the others are levels (R181). -/
def isEventSource (n : Nat) : Bool := n == 0 || n == 13 || n == 15

/-- The pending set as R182 has it: an event source stays as it is, a level source is pending while its condition holds and the
source is not in service. -/
def State.pendingJudged (s : State) : SourceSet :=
  bitSet 16 fun n =>
    if isEventSource n.val then s.att.pendingSet.getLsbD n.val else s.levelCondition n && !s.att.inService.getLsbD n.val

def State.judgeAttention (s : State) : State := { s with att := { s.att with pendingSet := s.pendingJudged } }

/-- The lowest-numbered, so highest-priority, source of a set (R181). -/
def highest (b : SourceSet) : Option (Fin 16) := (List.finRange 16).find? fun n => b.getLsbD n.val

/-- The source that asserts the line: the highest-priority pending unmasked source, when it outranks every in-service source (R182). -/
def Attention.asserting (a : Attention) : Option (Fin 16) :=
  match highest (a.pendingSet &&& ~~~a.mask) with
  | none => none
  | some n =>
    match highest a.inService with
    | none => some n
    | some m => if n.val < m.val then some n else none

/-- The attention line (R182). -/
def State.attentionLine (s : State) : Bool := s.att.asserting.isSome

/-- The vector of a source (R182). -/
def Attention.vector (a : Attention) (n : Fin 16) : Byte := a.vectors[n.val]

/-- What a read of ACK returns (R182). -/
def Attention.ackVector (a : Attention) : Byte :=
  match a.asserting with
  | some n => a.vector n
  | none => a.defaultVector

/-- What a read of ACK does: the asserting source leaves the pending set and joins the in-service set (R182). -/
def Attention.acknowledge (a : Attention) : Attention :=
  match a.asserting with
  | some n => { a with pendingSet := a.pendingSet &&& ~~~(sourceBit n.val), inService := a.inService ||| sourceBit n.val }
  | none => a

/-- What a write of EOS does: the highest-priority source leaves the in-service set (R183). -/
def Attention.endService (a : Attention) : Attention :=
  match highest a.inService with
  | some n => { a with inService := a.inService &&& ~~~(sourceBit n.val) }
  | none => a

end Sys2Proof.Machine
end

