-- ==== Sys2Proof/Machine/Operands.lean ====
section
/-! DEFINITION. The operands of a request: its code and parameters in the request buffer (R176, R177), the words of ARM and STAGE (R188),
and the model's layout of the other requests' parameters (log entries 7 and 8, DESIGN CHOICE). -/

namespace Sys2Proof.Machine

/-- Word k of the request buffer; word 0 is the request code, words 1 to 15 the parameters (R176). -/
def State.reqWord (s : State) (k : Fin 16) : Word := s.port.requestBuf[k.val]

/-- Parameter k as a number: the whole word (log entry 7). -/
def State.param (s : State) (k : Fin 16) : Nat := (s.reqWord k).toNat

/-- Codes 1 to 34 name the requests (R177). -/
def requestOfCode : Nat → Option Request
  | 1 => some .loadTemplate
  | 2 => some .queryTemplate
  | 3 => some .arm
  | 4 => some .stage
  | 5 => some .unstage
  | 6 => some .disarm
  | 7 => some .startSites
  | 8 => some .close
  | 9 => some .abort
  | 10 => some .holdSite
  | 11 => some .releaseHold
  | 12 => some .querySite
  | 13 => some .takeStopNotices
  | 14 => some .queryIntegrity
  | 15 => some .lookupLine
  | 16 => some .listLines
  | 17 => some .pinLine
  | 18 => some .retireLine
  | 19 => some .markSpareDefective
  | 20 => some .setCoincidence
  | 21 => some .listCoincidence
  | 22 => some .clearTrip
  | 23 => some .queryCoincidence
  | 24 => some .linkEnable
  | 25 => some .linkReset
  | 26 => some .queryLink
  | 27 => some .giveExportChain
  | 28 => some .flushExport
  | 29 => some .resumeExport
  | 30 => some .abandonBuffer
  | 31 => some .queryExport
  | 32 => some .setLimits
  | 33 => some .queryPart
  | 34 => some .setAttention
  | _ => none

/-- A site number of 0 to 255, none above (R177). -/
def siteNo? (n : Nat) : Option SiteNo := if h : n < 256 then some ⟨n, h⟩ else none

/-- A head number of 0 to 7, none above (R177). -/
def headNo? (n : Nat) : Option HeadNo := if h : n < 8 then some ⟨n, h⟩ else none

/-- A template number of 0 to 7, none above (R177). -/
def templateNo? (n : Nat) : Option TemplateNo := if h : n < 8 then some ⟨n, h⟩ else none

/-- A domain number of 0 to 15, none above (R130, R188). -/
def domainNo? (n : Nat) : Option DomainNo := if h : n < 16 then some ⟨n, h⟩ else none

/-- Axis codes 1 ROW, 2 COLUMN (R188; in other requests log entry 8). -/
def axis? : Nat → Option Axis
  | 1 => some .row
  | 2 => some .column
  | _ => none

/-- The axis code of a request word (R188). -/
def Axis.code : Axis → Nat
  | .row => 1
  | .column => 2

/-- Stop policy codes 1 STOP, 2 CONTINUE (R188). -/
def policy? : Nat → Option StopPolicy
  | 1 => some .stop
  | 2 => some .continue_
  | _ => none

/-- Action codes 1 NOTIFY, 2 HOLD (log entry 8). -/
def action? : Nat → Option CoAction
  | 1 => some .notify
  | 2 => some .hold
  | _ => none

/-- Bits `lo` to `lo + len - 1` of a word, as a number (R188). -/
def bitsOf (w : Word) (lo len : Nat) : Nat := (w.toNat / 2 ^ lo) % 2 ^ len

/-- The bits set in a word, as a presence set: item k is present when bit k - 1 is set (log entry 8). R179 and
R184 say nothing of the bits beyond their items: they are ignored (DESIGN CHOICE, log entry 32). -/
def isPresent (w : Word) (k : Nat) : Bool := w.getLsbD (k - 1)

/-- The fields of an ARM or a STAGE as its words give them, not yet judged (R188). -/
structure ArmWords where
  site : Nat
  template : Nat
  policy : Nat
  quota : Option Nat
  carryCount : Nat
  tag : Word
  deriving DecidableEq, Repr

/-- Words 1 to 3 of an ARM or a STAGE (R188); word 3 is read only when quota present is set. -/
def State.armWords (s : State) : ArmWords :=
  let w := s.reqWord 1
  { site := bitsOf w 0 16, template := bitsOf w 16 4, policy := bitsOf w 20 2,
    quota := if w.getLsbD 22 then some (bitsOf (s.reqWord 3) 0 16) else none,
    carryCount := bitsOf w 24 4, tag := s.reqWord 2 }

/-- A carry-in entry's word: line address, domain (0 to 31) and axis code (R188); none when the domain or axis is refused (R18, check 3). -/
def carryInOf (w : Word) : Option CarryIn :=
  match domainNo? (bitsOf w 16 5), axis? (bitsOf w 24 2) with
  | some d, some a => some { domain := d, axis := a, addr := BitVec.ofNat 16 (bitsOf w 0 16) }
  | _, _ => none

/-- The first `n` carry-in entries, words 4 on; none when one of them is refused (R188). -/
def State.carryInList (s : State) (n : Nat) : Option (List CarryIn) :=
  (((List.finRange 16).drop 4).take n).mapM fun k => carryInOf (s.reqWord k)

/-- A cursor of LIST-LINES: START (0), or an axis code and an address of 0 to 65,535 (R133, log entry 8); none when it is refused. -/
def cursor? (axisCode addr : Nat) : Option (Option (Axis × LineAddr)) :=
  if axisCode = 0 then some none
  else if addr < 65536 then (axis? axisCode).map fun a => some (a, BitVec.ofNat 16 addr)
  else none

/-- A slot set of START-SITES, bit n for slot n (log entry 8). -/
def slotsOf (w : Word) : List SlotNo := (List.finRange 32).filter fun n => w.getLsbD n.val

/-- The geometry record of LOAD-TEMPLATE: parameters 2 to 8, in the order of R2 (R9, log entry 7). -/
def State.geometryParams (s : State) : Geometry :=
  { domainCount := s.param 2, rows := s.param 3, columns := s.param 4, rowGroup := s.param 5, columnGroup := s.param 6,
    spareRows := s.param 7, spareColumns := s.param 8 }

/-- Byte `k` of a word, byte 0 lowest (R184). -/
def byteOf (w : Word) (k : Nat) : Byte := w.extractLsb' (8 * k) 8

end Sys2Proof.Machine
end

