-- ==== Sys2Proof/Machine/Coincidence.lean ====
section
/-! DEFINITION. The Coincidence Unit: joining, tripping and leaving entries, and its four requests (R116 to R128). -/

namespace Sys2Proof.Machine

/-- The coincidence key of a line under a span (R116). -/
def coKeyOf (t : TemplateNo) (d : DomainNo) (a : Axis) (addr : LineAddr) (span : Nat) : CoKey :=
  { template := t, domain := d, axis := a, coarse := addr.toNat / span }

def State.setCoEntry (s : State) (n : Fin 128) (e : Option CoEntry) : State :=
  { s with co := { s.co with table := s.co.table.set n.val e } }

/-- The entry in use that holds a key (R117). -/
def CoUnit.find (c : CoUnit) (k : CoKey) : Option (Fin 128) :=
  (List.finRange 128).find? fun n => match c.table[n.val] with | some e => e.key == k | none => false

/-- The lowest free entry (R117). -/
def CoUnit.lowestFree (c : CoUnit) : Option (Fin 128) := (List.finRange 128).find? fun n => c.table[n.val].isNone

/-- A host hold asked for by the HOLD action: a TESTING site whose host hold is clear is held, and a notice is posted (R120). -/
def State.coHold (s : State) (i : SiteNo) : State :=
  if s.siteState i = .testing ∧ (s.site i).hostHold = false then
    (s.modSite i fun x => { x with hostHold := true }).postNotice i .coincidenceHold
  else s

/-- COINCIDENT and the action in force reach the given sites, in ascending order (R119, R120). -/
def State.coMark (s : State) (sites : List SiteNo) : State :=
  let s := sites.foldl (fun s i => s.addFlag i .coincident) s
  match s.co.action with
  | .notify => s
  | .hold => sites.foldl (fun s i => s.coHold i) s

/-- What follows the addition of site i that made entry n what it is: the entry trips at the threshold, or the added site joins a
TRIPPED entry (R119, R120). -/
def State.coAdded (s : State) (n : Fin 128) (i : SiteNo) (e : CoEntry) : State :=
  match e.state with
  | .tripped => (s.setCoEntry n (some e)).coMark [i]
  | .counting =>
    if s.co.threshold ≤ e.members.length then (s.setCoEntry n (some { e with state := .tripped })).coMark e.members
    else s.setCoEntry n (some e)

/-- The Coincidence Unit is told of a MUST assignment (R118). -/
def State.coJoin (s : State) (i : SiteNo) (d : DomainNo) (a : Axis) (addr : LineAddr) : State :=
  match s.ctx i with
  | none => s
  | some c =>
    let k := coKeyOf c.template d a addr s.co.span
    match s.co.find k with
    | some n =>
      match s.co.table[n.val] with
      | some e => if e.members.contains i then s else s.coAdded n i { e with members := memberInsert i e.members }
      | none => s
    | none =>
      match s.co.lowestFree with
      | some n => s.coAdded n i { key := k, members := [i], state := .counting }
      | none => { s with co := { s.co with tableFull := true } }

/-- An entry without a site; freed when no member is left (R121). -/
def CoEntry.without (i : SiteNo) (e : CoEntry) : Option CoEntry :=
  let m := e.members.filter fun x => !(x == i)
  if m.isEmpty then none else some { e with members := m }

/-- A site leaves every entry (R121). -/
def State.coLeave (s : State) (i : SiteNo) : State :=
  { s with co := { s.co with table := s.co.table.map fun e => e.bind (CoEntry.without i) } }

def CoEntry.isTripped : Option CoEntry → Bool
  | some e => e.state == .tripped
  | none => false

/-- The number of entries that satisfy `p`. -/
def CoUnit.count (c : CoUnit) (p : Option CoEntry → Bool) : Nat := (c.table.toList.filter p).length

/-- SET-COINCIDENCE (R123): threshold, span, action. -/
def serveSetCoincidence (s : State) : State × Reply :=
  let th := s.param 1
  let sp := s.param 2
  if !(2 ≤ th && th ≤ 32) || !(sp == 1 || sp == 2 || sp == 4 || sp == 8 || sp == 16) then (s, { status := .refused .badField })
  else
    match action? (s.param 3) with
    | none => (s, { status := .refused .badField })
    | some a =>
      let changed := sp != s.co.span
      let freed := if changed then s.co.count (·.isSome) else 0
      ({ s with co := { s.co with threshold := th, span := sp, action := a, table := if changed then Vector.replicate 128 none else s.co.table } },
       { status := .done, words := [[.num th], [.num sp], [.coAction a], [.num freed]] })

/-- The three words of a listed entry (R124). -/
def coEntryWords (n : Fin 128) (e : CoEntry) : List ReplyWord :=
  [[.num n.val, .coState e.state, .num e.members.length],
   [.num e.key.template.val, .num e.key.domain.val, .axis e.key.axis, .num e.key.coarse],
   [.num (((e.members.take 4).zipIdx).foldl (fun acc (m, k) => acc + m.val * 256 ^ k) 0)]]

/-- The entries in use at or above an index, in ascending index (R124). -/
def CoUnit.from (c : CoUnit) (cursor : Nat) : List (Fin 128 × CoEntry) :=
  (List.finRange 128).filterMap fun n => if cursor ≤ n.val then (c.table[n.val]).map fun e => (n, e) else none

/-- LIST-COINCIDENCE (R124). -/
def serveListCoincidence (s : State) : State × Reply :=
  if 127 < s.param 1 then (s, { status := .refused .badField })
  else
    let page := (s.co.from (s.param 1)).take 3
    let next := match page.getLast? with | some (n, _) => n.val + 1 | none => 128
    let next := if (s.co.from next).isEmpty then 128 else next
    (s, { status := .done,
          words := [.num page.length, .num next, .flag (s.co.from next).isEmpty] :: page.flatMap fun (n, e) => coEntryWords n e })

/-- A cleared entry: COUNTING, with its key and members (R125). -/
def CoEntry.cleared (e : CoEntry) : CoEntry := { e with state := .counting }

/-- Clear the TRIPPED entries that satisfy `p`, and count them (R125). -/
def State.clearTrips (s : State) (p : CoEntry → Bool) : State × Reply :=
  let hit : Option CoEntry → Bool := fun e => match e with | some e => e.state == .tripped && p e | none => false
  ({ s with co := { s.co with table := s.co.table.map fun e => if hit e then e.map CoEntry.cleared else e } },
   { status := .done, words := [[.num (s.co.count hit)]] })

/-- CLEAR-TRIP (R125): form 1 ONE with entry index and key, 2 TEMPLATE, 3 ALL (log entry 8); another form is refused (log entry 23).
A template number above 7 is BAD_FIELD in form TEMPLATE, as R125 says, where R177 says BAD_TEMPLATE; in the key of form ONE it is a key that
no entry holds, NOT_FOUND, since R125 does not say which forms its BAD_FIELD is for (both DESIGN CHOICE, log entry 30). -/
def serveClearTrip (s : State) : State × Reply :=
  match s.param 1 with
  | 1 =>
    if h : s.param 2 < 128 then
      match s.co.table[s.param 2] with
      | none => (s, { status := .refused .notFound })
      | some e =>
        if e.key.template.val = s.param 3 ∧ e.key.domain.val = s.param 4 ∧ e.key.axis.code = s.param 5 ∧ e.key.coarse = s.param 6 then
          (s.setCoEntry ⟨s.param 2, h⟩ (some e.cleared), { status := .done, words := [[.num (if e.state = .tripped then 1 else 0)]] })
        else (s, { status := .refused .notFound })
    else (s, { status := .refused .badField })
  | 2 =>
    match templateNo? (s.param 2) with
    | none => (s, { status := .refused .badField })
    | some t => s.clearTrips fun e => e.key.template == t
  | 3 => s.clearTrips fun _ => true
  | _ => (s, { status := .refused .badField })

/-- QUERY-COINCIDENCE (R126): serving it clears TABLE_FULL. -/
def serveQueryCoincidence (s : State) : State × Reply :=
  ({ s with co := { s.co with tableFull := false } },
   { status := .done,
     words := [[.num s.co.threshold], [.num s.co.span], [.coAction s.co.action], [.num (s.co.count (·.isSome))],
               [.num (s.co.count CoEntry.isTripped)], [.flag s.co.tableFull]] })

end Sys2Proof.Machine
end

