-- ==== Sys2Proof/Machine/Templates.lean ====
section
/-! DEFINITION. The Template Table: geometry checks, use counts, LOAD-TEMPLATE and QUERY-TEMPLATE (R1 to R13). -/

namespace Sys2Proof.Machine

/-- Group sizes are 1, 2, 4 or 8 (R2). -/
def isGroupSize (n : Nat) : Bool := n == 1 || n == 2 || n == 4 || n == 8

/-- The number of the first field that fails R10: the ranges of R2 in order, then the two divisibility conditions (fields 2 and 3). -/
def Geometry.badField (g : Geometry) : Option Nat :=
  if !(1 ≤ g.domainCount && g.domainCount ≤ 16) then some 1
  else if !(256 ≤ g.rows && g.rows ≤ 65536) then some 2
  else if !(64 ≤ g.columns && g.columns ≤ 4096) then some 3
  else if !isGroupSize g.rowGroup then some 4
  else if !isGroupSize g.columnGroup then some 5
  else if !(g.spareRows ≤ 15) then some 6
  else if !(g.spareColumns ≤ 15) then some 7
  else if !(g.rows % g.rowGroup == 0) then some 2
  else if !(g.columns % g.columnGroup == 0) then some 3
  else none

/-- A context becomes current on a template: its use count rises (R6). -/
def Template.use (t : Template) : Template := { t with useCount := t.useCount + 1 }

/-- A context leaves the counted states: the use count falls, and at 0 the pending copy, if present, is promoted (R6, R8). -/
def Template.unuse (t : Template) : Template :=
  if t.useCount - 1 = 0 then
    match t.pendingCopy with
    | some g => { active := some g, pendingCopy := none, useCount := 0 }
    | none => { t with useCount := 0 }
  else { t with useCount := t.useCount - 1 }

/-- A loaded record becomes the active copy at use count 0 and the pending copy above it (R9). -/
def Template.load (t : Template) (g : Geometry) : Template :=
  if t.useCount = 0 then { t with active := some g } else { t with pendingCopy := some g }

/-- What a soft reset leaves of a template (R13). -/
def Template.softReset (t : Template) : Template := { t with pendingCopy := none, useCount := 0 }

/-- LOAD-TEMPLATE (R9, R10): the template number, then the fields, then the write. R9 gives the three reply fields no words: each takes one of
its own, from word 1 on (DESIGN CHOICE, log entry 9). -/
def serveLoadTemplate (s : State) : State × Reply :=
  match templateNo? (s.param 1) with
  | none => (s, { status := .refused .badTemplate })
  | some t =>
    let g := s.geometryParams
    match g.badField with
    | some n => (s, { status := .refused .badGeometry, words := [[.num n]] })
    | none =>
      let x := s.template t
      (s.setTemplate t (x.load g),
       { status := .done,
         words := [[.result (if x.useCount = 0 then .active else .pending)], [.flag (x.useCount != 0 && x.pendingCopy.isSome)], [.num x.useCount]] })

/-- The seven fields of a copy, one per word; an absent copy reads as 0 (R11). -/
def geometryWords : Option Geometry → List ReplyWord
  | some g => [[.num g.domainCount], [.num g.rows], [.num g.columns], [.num g.rowGroup], [.num g.columnGroup], [.num g.spareRows], [.num g.spareColumns]]
  | none => List.replicate 7 []

/-- QUERY-TEMPLATE (R11). -/
def serveQueryTemplate (s : State) : State × Reply :=
  match templateNo? (s.param 1) with
  | none => (s, { status := .refused .badTemplate })
  | some t =>
    let x := s.template t
    (s, { status := .done,
          words := [.templateValid x.active.isSome, .flag x.pendingCopy.isSome, .num x.useCount] :: geometryWords x.active ++ geometryWords x.pendingCopy })

end Sys2Proof.Machine
end

