-- ==== Sys2Proof/Machine/Sites.lean ====
section
/-! DEFINITION. The Site Controller: the transitions of a site, holds and gate sets, losses of lines, release and promotion (R14 to R40). -/

namespace Sys2Proof.Machine

/-! ### Gate sets (R24) -/

/-- A slot's gate bit: link UP, site TESTING, neither hold set (R24). -/
def State.gateBit (s : State) (h : HeadNo) (sl : SlotNo) : Bool :=
  (s.link h).state == .up && s.siteState (siteOf h sl) == .testing && !(s.site (siteOf h sl)).hostHold && !(s.site (siteOf h sl)).headHold

/-- The gate set of a head (R24); empty while the link is not UP. -/
def State.gateSet (s : State) (h : HeadNo) : SlotSet :=
  if (s.link h).state = .up then bitSet 32 (s.gateBit h) else 0

/-! ### Transitions -/

/-- A site enters SWEEPING and joins the Sweep Queue; a deadline it had is dropped (R29, R36). -/
def State.toSweeping (s : State) (i : SiteNo) : State :=
  let s := s.modSite i fun x => { x with ctx := x.ctx.map fun c => { c with phase := .sweeping }, drainDeadline := none }
  { s with lists := { s.lists with sweepQueue := s.lists.sweepQueue ++ [i] } }

/-- A site leaves the Sweep Queue, enters HELD and joins the Collection Queue; a sweep position that names it returns to none (R36, R101, R111). -/
def State.toHeld (s : State) (i : SiteNo) : State :=
  let s := s.modCtx i fun c => { c with phase := .held }
  { s with
    lists := { s.lists with sweepQueue := s.lists.sweepQueue.filter fun x => !(x == i) }
    ex := { s.ex with collectionQueue := s.ex.collectionQueue ++ [i] }
    engine := { s.engine with sweepPos := s.engine.sweepPos.filter fun p => !(p.site == i) } }

/-- A DRAIN request joins a link's downlink queue while the link is UP, unless one for the slot is pending (R28, R154). -/
def Link.addDrain (l : Link) (sl : SlotNo) : Link :=
  if l.state = .up then (if l.drains.contains sl then l else { l with drains := l.drains ++ [sl] }) else l

/-- A TESTING site moves to DRAINING: deadline, DRAIN request (R28). -/
def State.enterDraining (s : State) (i : SiteNo) : State :=
  let s := s.readClock
  let s := s.modSite i fun x =>
    { x with ctx := x.ctx.map fun c => { c with phase := .draining }, drainDeadline := some (s.now + s.lists.drainTimeout * 10) }
  s.modLink (headOf i) fun l => l.addDrain (slotOf i)

/-! ### Freeing a site's lines (R55) -/

/-- Every record of the site returns to the pool, its Settle List entries go and it leaves every coincidence entry (R55, R121). -/
def State.freeSite (s : State) (i : SiteNo) : State :=
  ((s.setLines (s.store.lines.filter fun r => !(r.key.site == i))).dropSettle fun e => e.site == i).coLeave i

/-- The reason is set unless one is set already: the first reason is kept (R38). -/
def State.setReason (s : State) (i : SiteNo) (r : Reason) : State := s.modCtx i fun c => { c with reason := c.reason.orElse fun _ => some r }

/-- Where a site that has lost its lines goes (R34). -/
def State.moveLost (s : State) (i : SiteNo) : State :=
  match s.siteState i with
  | .armed => s.toSweeping i
  | .testing => s.enterDraining i
  | .sweeping => s.toHeld i
  | .vacant | .draining | .held => s

/-- A loss of the site's lines: free, reason, Stop Notice, move (R34, R38, R80). -/
def State.loseLines (s : State) (i : SiteNo) (r : Reason) (why : NoticeReason) : State :=
  (((s.freeSite i).setReason i r).postNotice i why).moveLost i

/-- The Integrity Capture takes an error and raises INTEGRITY when it is empty, and sets OVERFLOW when it is full (R59). -/
def State.captureError (s : State) (i : SiteNo) (index : Nat) (act : Activity) : State :=
  match s.store.capture with
  | none => ({ s with store := { s.store with capture := some { site := i, index, activity := act, overflow := false } } } : State).raise 0
  | some c => { s with store := { s.store with capture := some { c with overflow := true } } }

/-- An integrity failure of a site at the read of a lost record (R58). -/
def State.integrityFailure (s : State) (i : SiteNo) (r : LineRec) (act : Activity) : State :=
  (s.loseLines i .integrity .integrity).captureError i r.index act

/-- A read recomputes the check code and compares (R57): the work goes on, or stops at the failing read (R58). -/
def State.readLine (s : State) (i : SiteNo) (act : Activity) (r : LineRec) : Run :=
  if r.syndrome = 0 then .more s else .halt (s.integrityFailure i r act)

/-! ### A domain lost to repair (R33, R90) -/

/-- The doomed mark, and the early stop of a TESTING site with policy STOP (R33). -/
def State.doom (s : State) (i : SiteNo) : State :=
  let s := s.modCtx i fun c => { c with doomed := true }
  if s.siteState i = .testing ∧ (s.ctx i).map (·.policy) = some .stop then
    ((s.addFlag i .earlyStop).enterDraining i).postNotice i .earlyStop
  else s

/-- A domain becomes UNREPAIRABLE (R90): state, CANDIDATE lines freed unread, Settle List entry removed, low water judged, site doomed. -/
def State.loseDomain (s : State) (i : SiteNo) (d : DomainNo) : State :=
  let s := s.modDomain i d fun r => { r with state := .unrepairable }
  let s := s.setLines (s.store.lines.filter fun r => !(r.key.site == i && r.key.domain == d && r.isCandidate))
  let s := s.dropSettle fun e => e.site == i && e.domain == d
  s.doom i

/-! ### Becoming current (R16, R17) -/

/-- The per-domain records of a fresh context (R4, R15). -/
def freshDomains (g : Geometry) : List DomainRec :=
  List.replicate g.domainCount
    { state := .opened, base := ⟨g.spareRows, g.spareColumns⟩, defective := ⟨0, 0⟩, assigned := ⟨0, 0⟩, failTotal := 0 }

/-- One carry-in entry: an ASSIGNED line of origin CARRIED, and the assigned count of its domain and axis (R17). -/
def State.carryIn (s : State) (i : SiteNo) (e : CarryIn) : State :=
  (s.takeLine ⟨i, e.domain, e.axis, e.addr⟩ (.assigned .carried)).modDomain i e.domain fun r => { r with assigned := r.assigned.inc e.axis }

/-- A context becomes current on the active copy g (R6, R7, R16, R17). -/
def State.makeCurrent (s : State) (i : SiteNo) (x : Staged) (g : Geometry) : State :=
  let s := s.setTemplate x.template (s.template x.template).use
  let c : Context :=
    { phase := .armed, tag := x.tag, template := x.template, geometry := g, policy := x.policy,
      quota := x.quota.getD s.store.defaultQuota, reason := none, flags := {}, doomed := false, domains := freshDomains g }
  let s := s.modSite i fun y => { y with ctx := some c, hostHold := false, drainDeadline := none }
  x.carryIn.foldl (fun s e => s.carryIn i e) s

/-- Every carry-in entry lies inside the geometry (R18 check 7, R22 check 1). -/
def carryInside (g : Geometry) (l : List CarryIn) : Bool :=
  l.all fun e => decide (e.domain.val < g.domainCount) && decide (e.addr.toNat < g.lineCount e.axis)

/-- No domain and axis is named by more entries than its base spares (R18 check 8, R22 check 2). -/
def carrySpared (g : Geometry) (l : List CarryIn) : Bool :=
  l.all fun e => decide ((l.filter fun f => f.domain == e.domain && f.axis == e.axis).length ≤ g.spares e.axis)

/-- The promotion of a staged context at release (R22). -/
def State.promote (s : State) (i : SiteNo) : State :=
  match (s.site i).staged with
  | none => s
  | some x =>
    let s := s.modSite i fun y => { y with staged := none }
    match (s.template x.template).active with
    | some g =>
      if carryInside g x.carryIn && carrySpared g x.carryIn && decide (x.carryIn.length ≤ s.freeCount) then s.makeCurrent i x g
      else s.postNoticeTag i .stageFailed x.tag
    | none => s.postNoticeTag i .stageFailed x.tag

/-- A context stops being current: its fields become absent (R19, R37). -/
def State.dropContext (s : State) (i : SiteNo) : State := s.modSite i fun x => { x with ctx := none, drainDeadline := none }

/-- The template of a site's context loses one use (R6). -/
def State.unuseTemplate (s : State) (i : SiteNo) : State :=
  match s.ctx i with
  | none => s
  | some c => s.setTemplate c.template (s.template c.template).unuse

/-- The release of a HELD site (R37), in the order of the rule. -/
def State.release (s : State) (i : SiteNo) : State :=
  let s := s.freeSite i
  let s : State := { s with ex := { s.ex with collectionQueue := s.ex.collectionQueue.filter fun x => !(x == i) } }
  let s := s.unuseTemplate i
  let s := s.dropContext i
  let s := s.modSite i fun x => { x with hostHold := false }
  s.promote i

/-! ### A link leaves UP; its marker is taken (R31, R32) -/

/-- The sites of a head, in ascending slot order. -/
def sitesOf (h : HeadNo) : List SiteNo := (List.finRange 32).map fun sl => siteOf h sl

/-- TESTING and DRAINING sites gain a flag (R31, R148). -/
def State.flagTested (s : State) (h : HeadNo) (f : QualityFlag) : State :=
  (sitesOf h).foldl (fun s i => if s.siteState i = .testing ∨ s.siteState i = .draining then s.addFlag i f else s) s

/-- Every head hold of a head is cleared (R26). -/
def State.clearHeadHolds (s : State) (h : HeadNo) : State :=
  (sitesOf h).foldl (fun s i => s.modSite i fun x => { x with headHold := false }) s

/-- The link has left UP: LINK_LOST, head holds cleared, the gate set is empty (R31). -/
def State.linkLeftUp (s : State) (h : HeadNo) : State :=
  ((s.flagTested h .linkLost).clearHeadHolds h).modLink h fun l => { l with gateHanded := 0 }

/-- The link-lost marker is taken: LINK_LOST sites in TESTING or DRAINING move to SWEEPING in ascending slot order (R32). -/
def State.linkLostCompletion (s : State) (h : HeadNo) : State :=
  (sitesOf h).foldl (fun s i =>
    match s.ctx i with
    | some c => if c.flags.linkLost ∧ (c.phase = .testing ∨ c.phase = .draining) then s.toSweeping i else s
    | none => s) s

end Sys2Proof.Machine
end

