-- ==== Sys2Proof/Machine/Links.lean ====
section
/-! DEFINITION. The Head Link Controllers: training, frames received, credits, faults, the downlink queue and the link requests (R142 to R160). -/

namespace Sys2Proof.Machine

/-! ### The downlink queue (R154, R155) -/

/-- One credit is added to the pending CREDIT (R154). -/
def Link.returnCredit (l : Link) : Link := { l with downCredit := some (l.downCredit.getD 0 + 1) }

/-- The pending credit count (R153). -/
def Link.pendingCredit (l : Link) : Nat := l.downCredit.getD 0

/-- The IDLE transmitter of an UP link takes the GATE, else the oldest DRAIN, else the CREDIT, whose count joins the balance (R155). -/
def Link.takeDownlink (l : Link) : Link :=
  if l.state = .up ∧ l.transmitter = none then
    match l.downGate with
    | some g => { l with downGate := none, transmitter := some (.gate g) }
    | none =>
      match l.drains with
      | sl :: rest => { l with drains := rest, transmitter := some (.drain sl) }
      | [] =>
        match l.downCredit with
        | some n => { l with downCredit := none, transmitter := some (.credit n), balance := l.balance + n }
        | none => l
  else l

/-- A gate set that differs from the last one handed over replaces the pending GATE or joins the queue, while the link is UP (R24, R154). -/
def Link.handGate (l : Link) (set : SlotSet) : Link :=
  if l.state = .up ∧ l.gateHanded ≠ set then { l with downGate := some set, gateHanded := set } else l

/-! ### Faults (R150) -/

/-- The link controller's part of a fault from UP (R150). -/
def Link.faulted (l : Link) : Link :=
  { l with state := .faulted, downGate := none, downCredit := none, drains := [], transmitter := none, balance := 0, marker := true }

/-- A link faults from UP: the link's part, then the Site Controller's (R150, R31). -/
def State.linkFault (s : State) (h : HeadNo) : State := (s.modLink h Link.faulted).linkLeftUp h

/-! ### Frames received (R146 to R149) -/

/-- A HELLO is valid when its protocol level is 1 and its slot count lies between 1 and 32 (R146). -/
def helloValid (slotCount level : Byte) : Bool := level == 1 && decide (1 ≤ slotCount.toNat) && decide (slotCount.toNat ≤ 32)

/-- A valid HELLO brings the link UP (R146). -/
def State.enterUp (s : State) (h : HeadNo) (serial : BitVec 16) (slotCount : Byte) : State :=
  let s := s.modLink h fun l =>
    { l with state := .up, trainingDeadline := none, serial, slotCount := slotCount.toNat, balance := 0, badCount := 0,
             downCredit := some Config.linkCredits, causes := l.causes.add .upReached }
  s.modLink h fun l => { l with downGate := some (s.gateSet h), gateHanded := s.gateSet h }

/-- A good HELLO arrives (R146, R147). -/
def State.receiveHello (s : State) (h : HeadNo) (serial : BitVec 16) (slotCount level : Byte) : State :=
  match (s.link h).state with
  | .training => if helloValid slotCount level then s.enterUp h serial slotCount else s.addCause h .badHello
  | .up => (s.addCause h .badHello).modLink h fun l => { l with badCount := 0 }
  | .down | .faulted => s

/-- A good counted frame arrives (R147, R149). -/
def State.receiveCounted (s : State) (h : HeadNo) (f : UpFrame) : State :=
  match (s.link h).state with
  | .up =>
    let s := s.modLink h fun l => { l with badCount := 0 }
    if 0 < (s.link h).balance then s.modLink h fun l => { l with balance := l.balance - 1, fifo := l.fifo ++ [f] }
    else ((s.addCause h .overrun).addCause h .faulted).linkFault h
  | .down | .training | .faulted => s

/-- A bad frame that does not fault the link takes and returns one credit (R148). -/
def Link.badFrameCredit (l : Link) : Link :=
  if 0 < l.balance then ({ l with balance := l.balance - 1 } : Link).returnCredit else l

/-- A bad frame arrives (R147, R148). -/
def State.receiveBad (s : State) (h : HeadNo) : State :=
  match (s.link h).state with
  | .training => s.addCause h .badFrame
  | .up =>
    let s := ((s.addCause h .badFrame).flagTested h .suspect).modLink h fun l => { l with badCount := l.badCount + 1 }
    if (s.link h).badCount < 4 then s.modLink h Link.badFrameCredit else (s.addCause h .faulted).linkFault h
  | .down | .faulted => s

/-- The training deadline passes while the link is TRAINING (R145). -/
def State.trainingExpired (s : State) (h : HeadNo) : State :=
  if (s.link h).state = .training then
    ((s.modLink h fun l => { l with state := .faulted, trainingDeadline := none }).addCause h .trainingTimeout).addCause h .faulted
  else s

/-- A downlink frame has been sent (R155). -/
def State.frameDone (s : State) (h : HeadNo) : State := s.modLink h fun l => { l with transmitter := none }

/-! ### Requests (R144, R157, R158) -/

/-- A DOWN link enters TRAINING: its deadline is the time of the request plus the training timeout in force (R144). -/
def State.startTraining (s : State) (h : HeadNo) : State :=
  s.readClock.modLink h fun l =>
    { l with state := .training, trainingDeadline := some (s.readClock.now + s.trainingTimeout), badCount := 0 }

/-- LINK-ENABLE (R144). -/
def serveLinkEnable (s : State) : State × Reply :=
  match headNo? (s.param 1) with
  | none => (s, { status := .refused .badSite })
  | some h =>
    match (s.link h).state with
    | .down => (s.startTraining h, { status := .done })
    | .training | .up => (s, { status := .refused .already })
    | .faulted => (s, { status := .refused (if (s.link h).marker then .headBusy else .badState) })

/-- Some site of the head is TESTING or DRAINING (R158). -/
def State.headTests (s : State) (h : HeadNo) : Bool :=
  (sitesOf h).any fun i => s.siteState i == .testing || s.siteState i == .draining

/-- LINK-RESET (R158). The rule gives the two reply fields no words: each takes one of its own, from word 1 on (DESIGN CHOICE, log entry 9). -/
def serveLinkReset (s : State) : State × Reply :=
  match headNo? (s.param 1) with
  | none => (s, { status := .refused .badSite })
  | some h =>
    let l := s.link h
    if l.marker || (l.state == .up && s.headTests h) then (s, { status := .refused .headBusy })
    else
      let s := if l.state = .up then s.linkLeftUp h else s
      ((s.clearHeadHolds h).setLink h Link.down, { status := .done, words := [[.linkState l.state], [.num l.fifo.length]] })

/-- QUERY-LINK (R157): serving it empties the cause set. -/
def serveQueryLink (s : State) : State × Reply :=
  match headNo? (s.param 1) with
  | none => (s, { status := .refused .badSite })
  | some h =>
    let l := s.link h
    (s.setLink h { l with causes := {} },
     { status := .done,
       words := [[.linkState l.state, .num l.slotCount, .flag l.marker, .num l.badCount, .sending l.transmitter.isSome],
                 [.num l.serial.toNat], [.num l.fifo.length, .num l.pendingCredit, .num l.balance], [.causes l.causes]] })

end Sys2Proof.Machine
end

