-- ==== Sys2Proof/Machine/Repair.lean ====
section
/-! DEFINITION. The Repair Engine's work: spare assignment, the fold of a run, the settle step and the sweep step (R57, R72 to R107). -/

namespace Sys2Proof.Machine

/-! ### Taking crosses apart (R87, R137) -/

/-- One partner loses its entry for the line `k`; it is freed when its list is left empty (R87, R137). A look-up that finds no key
reads no record (R46). -/
def State.uncross (s : State) (act : Activity) (k : Key) (x : LineAddr) : Run :=
  let p : Key := { k with axis := k.axis.other, addr := x }
  match s.findLine p with
  | none => .more s
  | some r =>
    (s.readLine k.site act r).andThen fun s =>
      let rest := r.cross.filter fun y => !(y == k.addr)
      if rest.isEmpty then .more (s.freeLine p) else .more (s.writeLine p fun r => { r with cross := rest })

/-- The partners named in a cross list, in ascending order (R87, R137). -/
def State.uncrossAll (act : Activity) (k : Key) : List LineAddr → State → Run
  | [], s => .more s
  | x :: xs, s => (s.uncross act k x).andThen fun s => State.uncrossAll act k xs s

/-! ### Assignment (R86 to R88) -/

/-- The claims of an assignment: the Settle List, but not from a sweep step, and the Coincidence Unit for origin MUST (R88). -/
def State.assignClaims (s : State) (act : Activity) (k : Key) (o : Origin) : State :=
  let s := if act = .sweep then s else s.appendSettle k.site k.domain
  if o = .must then s.coJoin k.site k.domain k.axis k.addr else s

/-- The line `k`, present with cross list `cross`, is assigned a spare of its axis; the requester has found one available (R86). -/
def State.assign (s : State) (act : Activity) (o : Origin) (k : Key) (cross : List LineAddr) : Run :=
  let s := s.modDomain k.site k.domain fun r => { r with assigned := r.assigned.inc k.axis }
  (State.uncrossAll act k cross s).andThen fun s =>
    .more ((s.writeLine k fun r => { r with state := .assigned o, cross := [] }).assignClaims act k o)

/-! ### The fold (R72 to R80) -/

/-- The fail total of a domain rises by 1, and an OPEN domain whose total was 0 becomes FAILING (R73). -/
def DomainRec.countFail (r : DomainRec) : DomainRec :=
  { r with failTotal := satInc r.failTotal, state := if r.failTotal = 0 ∧ r.state = .opened then .failing else r.state }

/-- A must-repair assignment asked by a fold: assigned when the line's axis has a spare, the domain lost otherwise (R77 to R79). -/
def State.foldAssign (s : State) (k : Key) (cross : List LineAddr) : Run :=
  if 1 ≤ s.available k.site k.domain k.axis then s.assign .fold .must k cross else .more (s.loseDomain k.site k.domain)

/-- A CANDIDATE line that holds an empty cross list is freed (R49, R79). -/
def State.freeIfEmpty (s : State) (k : Key) : State :=
  match s.findLine k with
  | some r => if r.isCandidate ∧ r.cross.isEmpty then s.freeLine k else s
  | none => s

/-- The cross list of a present line, empty otherwise. -/
def State.crossOf (s : State) (k : Key) : List LineAddr := ((s.findLine k).map (·.cross)).getD []

/-- The must-repair part of a fold: row side, then column side (R77, R78). Both lines are present and CANDIDATE. -/
def State.foldJudge (s : State) (kr kc : Key) : Run :=
  let rowCross := s.crossOf kr
  if s.available kr.site kr.domain .column < rowCross.length then
    (s.foldAssign kr rowCross).andThen fun s => .more (s.freeIfEmpty kc)
  else
    let s := s.writeLine kr fun r => { r with cross := crossInsert kc.addr r.cross }
    let s := s.writeLine kc fun r => { r with cross := crossInsert kr.addr r.cross }
    if s.available kr.site kr.domain .column < (s.crossOf kr).length then s.foldAssign kr (s.crossOf kr)
    else if s.available kr.site kr.domain .row < (s.crossOf kc).length then s.foldAssign kc (s.crossOf kc)
    else .more s

/-- A line's fail count rises by 1 (R48). -/
def State.countLine (s : State) (k : Key) : State := s.writeLine k fun r => { r with failCount := satInc r.failCount }

/-- Create the line as CANDIDATE when it is absent (R76). -/
def State.createAbsent (s : State) (k : Key) : State := if (s.findLine k).isSome then s else s.takeLine k .candidate

/-- A look-up that reads the record it finds (R57, R74). -/
def State.readIfPresent (s : State) (i : SiteNo) (act : Activity) (k : Key) : Run :=
  match s.findLine k with
  | none => .more s
  | some r => s.readLine i act r

def isAssigned : Option LineRec → Bool
  | some r => !r.isCandidate
  | none => false

/-- The fold of a cell that lies on no ASSIGNED line: the demand, the records, the counts, the repeat test, the judgment (R75 to R78, R80). -/
def State.foldUncovered (s : State) (kr kc : Key) : Run :=
  let need := (if (s.findLine kr).isSome then 0 else 1) + (if (s.findLine kc).isSome then 0 else 1)
  match (if need = 0 then Demand.met else s.demand kr.site need) with
  | .wantOfStore => .halt (s.loseLines kr.site .spill .spill)
  | .wantOfQuota => .halt (s.loseLines kr.site .quota .quota)
  | .met =>
    let s := (s.createAbsent kr).createAbsent kc
    let s := (s.countLine kr).countLine kc
    if (s.crossOf kr).contains kc.addr then .more s else s.foldJudge kr kc

/-- The fold of one position: its cell is row line `r`, column line `c` of domain `d` (R73 to R80). -/
def State.foldCell (s : State) (i : SiteNo) (d : DomainNo) (r c : LineAddr) : Run :=
  let s := s.modDomain i d DomainRec.countFail
  if (s.domain? i d).map (·.state) = some .unrepairable then .more s
  else
    let kr : Key := ⟨i, d, .row, r⟩
    let kc : Key := ⟨i, d, .column, c⟩
    (s.readIfPresent i .fold kr).andThen fun s =>
      (s.readIfPresent i .fold kc).andThen fun s =>
        if isAssigned (s.findLine kr) then .more (s.countLine kr)
        else if isAssigned (s.findLine kc) then .more (s.countLine kc)
        else s.foldUncovered kr kc

/-- The fold of a run, position by position (R72). -/
def State.foldRun (i : SiteNo) (d : DomainNo) (r : LineAddr) : List LineAddr → State → Run
  | [], s => .more s
  | c :: cs, s => (s.foldCell i d r c).andThen fun s => State.foldRun i d r cs s

/-- The column lines of a run's positions, in ascending raw column (R72). -/
def runColumns (g : Geometry) (rawColumn len : Nat) : List LineAddr := (List.range len).map fun k => g.lineOf .column (rawColumn + k)

/-! ### The settle step (R95 to R97) -/

/-- The first CANDIDATE line above a cursor (R95). -/
def State.nextCandidate (s : State) (i : SiteNo) (d : DomainNo) (cursor : Option Key) : Option LineRec :=
  (s.candidates i d).find? fun r => aboveCursor cursor r.key

/-- The cross count of a CANDIDATE line exceeds the available spares of the other axis (R5, R95). -/
def State.overBudget (s : State) (r : LineRec) : Bool := s.available r.key.site r.key.domain r.key.axis.other < r.cross.length

/-- The entry of a domain takes a cursor, and renew when the step assigned (R95). -/
def State.moveCursor (s : State) (i : SiteNo) (d : DomainNo) (k : Key) (renew : Bool) : State :=
  { s with engine := { s.engine with settleList := s.engine.settleList.map fun e =>
      if e.site = i ∧ e.domain = d then { e with cursor := some k, renew := e.renew || renew } else e } }

/-- The end of a pass: the entry goes to the tail when renew is set and leaves otherwise (R96). -/
def endPass (e : SettleEntry) (rest : List SettleEntry) : List SettleEntry :=
  if e.renew then rest ++ [{ e with cursor := none, renew := false }] else rest

/-- One settle step of the entry at the head of the Settle List (R95). -/
def State.settleStep (s : State) : State :=
  match s.engine.settleList with
  | [] => s
  | e :: rest =>
    match s.nextCandidate e.site e.domain e.cursor with
    | none => { s with engine := { s.engine with settleList := endPass e rest } }
    | some r =>
      ((s.readLine e.site .settle r).andThen fun s =>
        if s.overBudget r then
          if 1 ≤ s.available e.site e.domain r.key.axis then
            (s.assign .settle .must r.key r.cross).andThen fun s => .more (s.moveCursor e.site e.domain r.key true)
          else .more (s.loseDomain e.site e.domain)
        else .more (s.moveCursor e.site e.domain r.key false)).state

/-! ### The sweep step (R102 to R107) -/

/-- The domain state at its conclusion (R106). -/
def DomainRec.concluded (r : DomainRec) : DomainState :=
  if r.state = .unrepairable then .unrepairable
  else if r.failTotal = 0 ∧ r.assigned.row = 0 ∧ r.assigned.column = 0 then .clean
  else .repaired

/-- Domain d is concluded; the position moves on, and after the last domain the site is concluded (R106, R107). -/
def State.concludeDomain (s : State) (i : SiteNo) (d : DomainNo) : State :=
  let s := s.modDomain i d fun r => { r with state := r.concluded }
  if h : d.val + 1 < 16 then
    if d.val + 1 < ((s.ctx i).map (·.geometry.domainCount)).getD 0 then
      s.setSweepPos (some { site := i, domain := ⟨d.val + 1, h⟩, phase := .enter, cursor := none, renew := false })
    else s.toHeld i
  else s.toHeld i

/-- The assignment of a sweep step, after which the step ends with the position as given (R102). -/
def State.sweepAssign (s : State) (o : Origin) (r : LineRec) (p : SweepPos) : State :=
  ((s.setSweepPos (some p)).assign .sweep o r.key r.cross).state

/-- The best of some CANDIDATE lines in key order: the most cross entries, the first of those (R105). -/
def bestLine : List LineRec → Option LineRec
  | [] => none
  | r :: rs =>
    match bestLine rs with
    | none => some r
    | some b => if r.cross.length < b.cross.length then some b else some r

/-- Phase GREEDY (R105). -/
def State.sweepGreedy (s : State) (p : SweepPos) : State :=
  let ls := s.candidates p.site p.domain
  match ls.find? fun r => r.syndrome != 0 with
  | some r => s.integrityFailure p.site r .sweep
  | none =>
    match bestLine ls with
    | none => s.concludeDomain p.site p.domain
    | some b =>
      if 1 ≤ s.available p.site p.domain b.key.axis then s.sweepAssign .sweep b p
      else
        match bestLine (ls.filter fun r => r.key.axis == b.key.axis.other) with
        | some o =>
          if 1 ≤ s.available p.site p.domain o.key.axis then s.sweepAssign .sweep o p
          else (s.loseDomain p.site p.domain).concludeDomain p.site p.domain
        | none => (s.loseDomain p.site p.domain).concludeDomain p.site p.domain

/-- What a settle pass of the sweep comes to: a line that ends the step, or the end of the pass with its last cursor (R104). -/
inductive PassEnd where
  | stopAt (r : LineRec)
  | passed (cursor : Option Key)
  deriving DecidableEq, Repr

/-- Run one pass over the lines above the cursor: it stops at the first whose check fails or which is over budget (R104). -/
def State.sweepPass (s : State) (p : SweepPos) : PassEnd :=
  let ls := (s.candidates p.site p.domain).filter fun r => aboveCursor p.cursor r.key
  match ls.find? fun r => r.syndrome != 0 || s.overBudget r with
  | some r => .stopAt r
  | none => .passed (match ls.getLast? with | some r => some r.key | none => p.cursor)

/-- The step ends at a line: a failed check, an assignment, or the loss of the domain (R104, R110). -/
def State.sweepStop (s : State) (p : SweepPos) (r : LineRec) : State :=
  if r.syndrome ≠ 0 then s.integrityFailure p.site r .sweep
  else if 1 ≤ s.available p.site p.domain r.key.axis then
    s.sweepAssign .must r { p with phase := .settle, cursor := some r.key, renew := true }
  else (s.loseDomain p.site p.domain).concludeDomain p.site p.domain

/-- Phase SETTLE: a pass, a fresh pass when it ends with renew set, then GREEDY (R104). A fresh pass that assigns nothing leaves renew
clear, so a step makes at most two. -/
def State.sweepSettle (s : State) (p : SweepPos) : State :=
  match s.sweepPass p with
  | .stopAt r => s.sweepStop p r
  | .passed c =>
    if p.renew then
      let q := { p with cursor := none, renew := false }
      match s.sweepPass q with
      | .stopAt r => s.sweepStop q r
      | .passed c => (s.setSweepPos (some { q with phase := .greedy, cursor := c })).sweepGreedy { q with phase := .greedy, cursor := c }
    else (s.setSweepPos (some { p with phase := .greedy, cursor := c })).sweepGreedy { p with phase := .greedy, cursor := c }

/-- Phase ENTER (R103). -/
def State.sweepEnter (s : State) (p : SweepPos) : State :=
  if (s.domain? p.site p.domain).map (·.state) = some .unrepairable then s.concludeDomain p.site p.domain
  else
    let s := s.dropSettle fun e => e.site == p.site && e.domain == p.domain
    s.sweepSettle { p with phase := .settle, cursor := none, renew := false }

/-- The position a step for site i works from (R101). -/
def State.sweepPosFor (s : State) (i : SiteNo) : SweepPos :=
  let fresh : SweepPos := { site := i, domain := 0, phase := .enter, cursor := none, renew := false }
  match s.engine.sweepPos with
  | some p => if p.site = i then p else fresh
  | none => fresh

/-- One sweep step of the oldest site in the Sweep Queue (R102). -/
def State.sweepStep (s : State) : State :=
  match s.lists.sweepQueue with
  | [] => s
  | i :: _ =>
    if (s.reasonOf i).isSome then s.toHeld i
    else
      let p := s.sweepPosFor i
      let s := s.setSweepPos (some p)
      match p.phase with
      | .enter => s.sweepEnter p
      | .settle => s.sweepSettle p
      | .greedy => s.sweepGreedy p

end Sys2Proof.Machine
end

