-- ==== Sys2Proof/Machine/Intake.lean ====
section
/-! DEFINITION. The items of the intake group: FAIL, END and HOLD frames and the link-lost marker, taken at an intake grant (R69 to R83). -/

namespace Sys2Proof.Machine

/-- The address check of a run (R71). -/
def Geometry.runInside (g : Geometry) (d : DomainNo) (rawRow : LineAddr) (rawColumn : BitVec 12) (runLess1 : Fin 16) : Bool :=
  decide (d.val < g.domainCount) && decide (rawRow.toNat < g.rows) && decide (rawColumn.toNat + runLess1.val < g.columns)

/-- A FAIL frame whose site is TESTING or DRAINING with context `c` (R70 to R72). -/
def State.takeFailOpen (s : State) (h : HeadNo) (i : SiteNo) (c : Context) (d : DomainNo) (rawRow : LineAddr) (rawColumn : BitVec 12)
    (runLess1 : Fin 16) : State :=
  if c.reason.isSome then s
  else if c.geometry.runInside d rawRow rawColumn runLess1 then
    (State.foldRun i d (c.geometry.lineOf .row rawRow.toNat) (runColumns c.geometry rawColumn.toNat (runLess1.val + 1)) s).state
  else (s.addFlag i .badAddress).addCause h .badAddress

/-- A FAIL frame is taken: the site state, the reason, the address, the fold (R70 to R72). -/
def State.takeFail (s : State) (h : HeadNo) (slot : SlotNo) (d : DomainNo) (rawRow : LineAddr) (rawColumn : BitVec 12) (runLess1 : Fin 16) : State :=
  match s.ctx (siteOf h slot) with
  | none => s.addCause h .stray
  | some c =>
    match c.phase with
    | .armed | .held => s.addCause h .stray
    | .sweeping => s.addCause h .late
    | .testing | .draining => s.takeFailOpen h (siteOf h slot) c d rawRow rawColumn runLess1

/-- An END frame is taken: a drain completion, or discarded as LATE or STRAY (R30, R81). -/
def State.takeEnd (s : State) (h : HeadNo) (slot : SlotNo) : State :=
  match s.siteState (siteOf h slot) with
  | .draining => s.toSweeping (siteOf h slot)
  | .sweeping | .held => s.addCause h .late
  | .vacant | .armed | .testing => s.addCause h .stray

/-- A HOLD frame is taken: the head hold is set or cleared in every site state (R26, R82). -/
def State.takeHold (s : State) (h : HeadNo) (slot : SlotNo) (on : Bool) : State :=
  s.modSite (siteOf h slot) fun x => { x with headHold := on }

/-- A frame leaves the FIFO and returns its credit while the link is UP (R69, R152). -/
def Link.popFrame (l : Link) : Link :=
  let l := { l with fifo := l.fifo.tail }
  if l.state = .up then l.returnCredit else l

/-- The item at the head of a head's FIFO is taken: a frame, or the link-lost marker behind all frames (R69, R83, R151). -/
def State.takeItem (s : State) (h : HeadNo) : State :=
  match (s.link h).fifo with
  | .fail slot d row col len :: _ => (s.modLink h Link.popFrame).takeFail h slot d row col len
  | .endFrame slot :: _ => (s.modLink h Link.popFrame).takeEnd h slot
  | .hold slot on :: _ => (s.modLink h Link.popFrame).takeHold h slot on
  | [] => if (s.link h).marker then (s.modLink h fun l => { l with marker := false }).linkLostCompletion h else s

end Sys2Proof.Machine
end

