-- ==== Sys2Proof/Machine/Export.lean ====
section
/-! DEFINITION. The Export Engine: descriptors, record assembly and writing, closes, stalls and the export requests (R112 to R114, R161 to R175, R189, R190). -/

namespace Sys2Proof.Machine

/-! ### Slots and descriptors (R163, R189) -/

def Exporter.slot (e : Exporter) : SlotId → DescSlot
  | .current => e.current
  | .next => e.nextSlot

def Exporter.setSlot (e : Exporter) (i : SlotId) (x : DescSlot) : Exporter :=
  match i with
  | .current => { e with current := x }
  | .next => { e with nextSlot := x }

/-- A slot becomes FETCHING an address, behind the fetches already due (R163, R164). -/
def Exporter.startFetch (e : Exporter) (i : SlotId) (addr : Word) : Exporter :=
  { e.setSlot i (.fetching addr []) with fetchOrder := e.fetchOrder ++ [i] }

/-- A fetch is no longer due. -/
def Exporter.endFetch (e : Exporter) (i : SlotId) : Exporter := { e with fetchOrder := e.fetchOrder.filter fun x => !(x == i) }

/-- A descriptor becomes current with fill offset 0, and its next address is fetched when the next slot is EMPTY (R163). -/
def Exporter.makeCurrent (e : Exporter) (d : Descriptor) : Exporter :=
  let e := { e with current := .held d, fillOffset := some 0 }
  match d.nextAddr with
  | some a => if e.nextSlot = .empty then e.startFetch .next a else e
  | none => e

/-- When the current slot is EMPTY while the next slot is HELD, the next descriptor becomes current (R163). -/
def Exporter.promoteNext (e : Exporter) : Exporter :=
  match e.current, e.nextSlot with
  | .empty, .held d => ({ e with nextSlot := .empty } : Exporter).makeCurrent d
  | _, _ => e

/-- The present-set word names what is needed and holds no refused encoding (R163, R189). -/
def presentSetOk (p : Word) : Bool := p.getLsbD 0 && p.getLsbD 1 && p.toNat / 16 == 0

/-- Word-aligned (00 Conventions). -/
def isAligned (a : Word) : Bool := a.toNat % 4 == 0

/-- The buffer tests of R163 and R189. -/
def bufferOk (addr : Word) (len : Nat) : Bool :=
  isAligned addr && decide (528 ≤ len) && decide (len ≤ 1048576) && decide (addr.toNat + 4 * len ≤ 2 ^ 32)

/-- What the words read so far come to (R163, R189). -/
inductive FetchEnd where
  | reading
  | refused
  | taken (d : Descriptor)
  deriving DecidableEq, Repr

/-- Judge the words read: the present-set word, buffer address, buffer length and, when named, the next address (R163, R189). -/
def judgeFetch (addr : Word) : List Word → FetchEnd
  | [] => .reading
  | [p] => if presentSetOk p then .reading else .refused
  | [_, _] => .reading
  | [p, b, n] =>
    if p.getLsbD 2 then .reading
    else if bufferOk b n.toNat then .taken { addr, bufAddr := b, bufLen := n.toNat, nextAddr := none, notify := p.getLsbD 3 }
    else .refused
  | p :: b :: n :: x :: _ =>
    if bufferOk b n.toNat && isAligned x then .taken { addr, bufAddr := b, bufLen := n.toNat, nextAddr := some x, notify := p.getLsbD 3 }
    else .refused

/-- The address of a fetch's next read: words 0, 2, 3 and 4 of the descriptor (R163, R189). -/
def fetchAddress (addr : Word) (got : List Word) : Word :=
  match got.length with
  | 0 => addr
  | 1 => addr + 8
  | 2 => addr + 12
  | _ => addr + 16

/-- A read of a fetch has been accepted (R163). -/
def Exporter.readAccepted (e : Exporter) (i : SlotId) (data : Word) : Exporter :=
  match e.slot i with
  | .fetching addr got =>
    match judgeFetch addr (got ++ [data]) with
    | .reading => e.setSlot i (.fetching addr (got ++ [data]))
    | .refused => ({ (e.endFetch i).setSlot i .empty with badDescriptor := true } : Exporter).promoteNext
    | .taken d =>
      match i with
      | .current => ((e.endFetch i).makeCurrent d).promoteNext
      | .next => ((e.endFetch i).setSlot i (.held d)).promoteNext
  | _ => e

/-! ### Solution records (R107, R112 to R114, R190) -/

/-- The site outcome (R107). -/
def Context.outcome (c : Context) : SiteOutcome :=
  if c.reason.isSome then .undetermined
  else if c.domains.any (·.state == .unrepairable) then .fail
  else if c.domains.all (·.state == .clean) then .pass
  else .repairable

def SiteOutcome.code : SiteOutcome → Nat
  | .pass => 0 | .repairable => 1 | .fail => 2 | .undetermined => 3

def reasonCode : Option Reason → Nat
  | none => 0 | some .spill => 1 | some .quota => 2 | some .integrity => 3 | some .aborted => 4

/-- The domain outcome field; a concluded domain is CLEAN, REPAIRED or UNREPAIRABLE (R190). The codes of OPEN and FAILING are the model's, in
states that no run reaches (log entry 27). -/
def DomainState.code : DomainState → Nat
  | .clean => 0 | .repaired => 1 | .unrepairable => 2 | .opened => 0 | .failing => 1

def Origin.code : Origin → Nat
  | .must => 0 | .sweep => 1 | .pinned => 2 | .carried => 3

/-- A word made of fields, each a value at a bit (R190). -/
def packBits (fs : List (Nat × Nat)) : Word := BitVec.ofNat 32 (fs.foldl (fun acc (v, lo) => acc + v * 2 ^ lo) 0)

/-- The word of an ASSIGNED line (R190). -/
def lineWord (r : LineRec) : Word :=
  packBits [(r.key.addr.toNat, 0), (r.key.axis.rank, 16), ((match r.state with | .assigned o => o.code | .candidate => 0), 20)]

/-- A domain section: two words and one word for each ASSIGNED line in key order (R113, R190). -/
def domainSection (d : DomainRec) (lines : List LineRec) : List Word :=
  packBits [(d.state.code, 0), (d.assigned.row, 8), (d.assigned.column, 12), (d.defective.row, 16), (d.defective.column, 20)]
    :: packBits [(d.failTotal.toNat, 0)] :: lines.map lineWord

/-- The four header words for a record of `n` words (R112, R190). -/
def headerWords (i : SiteNo) (c : Context) (n : Nat) : List Word :=
  [packBits [(i.val, 0)], c.tag,
   packBits [(c.outcome.code, 0), (reasonCode c.reason, 4), (c.geometry.domainCount, 16)] ||| c.flags.bits, packBits [(n, 0)]]

/-- The ASSIGNED lines of a site, in key order. -/
def State.assignedLines (s : State) (i : SiteNo) : List LineRec := s.store.lines.filter fun r => r.key.site == i && !r.isCandidate

/-- The domain sections in ascending domain order (R113). -/
def recordSections (c : Context) (lines : List LineRec) : List Word :=
  c.domains.zipIdx.flatMap fun (d, n) => domainSection d (lines.filter fun r => r.key.domain.val == n)

/-- The record of a site: the header alone when the reason is set (R112 to R114). -/
def State.recordOf (s : State) (i : SiteNo) : List Word :=
  match s.ctx i with
  | none => []
  | some c =>
    let body := if c.reason.isSome then [] else recordSections c (s.assignedLines i)
    headerWords i c (4 + body.length) ++ body

/-- The completion of an assembly (R166): the lines are read in key order with activity ASSEMBLY, and the record is placed. -/
def State.completeAssembly (s : State) : State :=
  match s.ex.assembling with
  | none => s
  | some i =>
    let s := match (s.assignedLines i).find? fun r => r.syndrome != 0 with
      | some r => if (s.reasonOf i).isNone then s.integrityFailure i r .assembly else s
      | none => s
    { s with ex := { s.ex with assembling := none, buffer := some { site := i, words := s.recordOf i } } }

/-! ### Closing and writing (R167 to R169) -/

/-- A current descriptor is closed (R169). -/
def Exporter.close (e : Exporter) (cause : CloseCause) : Exporter :=
  match e.current with
  | .held d =>
    ({ e with writeBacks := e.writeBacks ++ [{ addr := d.addr, notify := d.notify, used := e.fillOffset.getD 0, cause }],
              current := .empty, fillOffset := none } : Exporter).promoteNext
  | _ => e

/-- The length of the current buffer, 0 when none is held. -/
def DescSlot.bufLen : DescSlot → Nat
  | .held d => d.bufLen
  | _ => 0

/-- Steps 2 to 5 of the acceptance of a record's last word (R168). -/
def Exporter.recordDone (e : Exporter) (words : Nat) : Exporter :=
  let used := e.fillOffset.getD 0 + words
  let e := { e with fillOffset := some used, buffer := none, writePos := none }
  let e :=
    if e.current.bufLen < used + Config.maxRecord then e.close .full
    else if e.flushPending then e.close .flushed
    else e
  { e with flushPending := false }

/-- A record word has been accepted: the next word, or the release of the site and the end of the record (R167, R168). -/
def State.recordWordDone (s : State) : State :=
  match s.ex.buffer, s.ex.writePos with
  | some r, some n =>
    if n + 1 < r.words.length then { s with ex := { s.ex with writePos := some (n + 1) } }
    else
      let s := s.release r.site
      { s with ex := s.ex.recordDone r.words.length }
  | _, _ => s

/-- The status word of a close (R189). -/
def WriteBack.status (w : WriteBack) : Word :=
  packBits [(w.used, 0), ((match w.cause with | .full => 1 | .flushed => 3), 24), (1, 31)]

/-- A record that is not being written begins to be written when a descriptor is current (R167). -/
def Exporter.beginWrite (e : Exporter) : Exporter :=
  match e.buffer, e.writePos, e.current with
  | some _, none, .held _ => { e with writePos := some 0 }
  | _, _, _ => e

/-- An assembly begins (R166). -/
def Exporter.beginAssembly (e : Exporter) : Exporter :=
  match e.collectionQueue, e.buffer, e.assembling, e.stall with
  | i :: _, none, none, none => { e with assembling := some i }
  | _, _, _, _ => e

/-! ### The bus initiator (R164) -/

/-- The next access in the order of preference of R164: write-back, fetch, record word. -/
def Exporter.nextAccess (e : Exporter) : Option AccessKind :=
  match e.writeBacks with
  | w :: _ => some (.status (w.addr + 4) w.status)
  | [] =>
    match e.fetchOrder with
    | i :: _ =>
      match e.slot i with
      | .fetching addr got => some (.read i (fetchAddress addr got))
      | _ => none
    | [] =>
      match e.buffer, e.writePos, e.current, e.fillOffset with
      | some r, some n, .held d, some f => some (.record (d.bufAddr + BitVec.ofNat 32 (4 * (f + n))) (r.words.getD n 0))
      | _, _, _, _ => none

/-- The free initiator takes the next access unless STALLED; the bus timeout in force applies to it (R164). -/
def State.takeAccess (s : State) : State :=
  if s.ex.access.isSome || s.ex.stall.isSome then s
  else
    match s.ex.nextAccess with
    | none => s
    | some k =>
      let s := s.readClock
      { s with ex := { s.ex with access := some { kind := k, deadline := s.now + s.ex.busTimeout * 10 } } }

/-- The kind of a stall at an access (R164). -/
def AccessKind.stall : AccessKind → Stall
  | .read i _ => .fetch i
  | .record _ _ => .write
  | .status _ _ => .writeBack

/-- The engine state (R162). -/
def Exporter.engineState (e : Exporter) : EngineState :=
  if e.stall.isSome then .stalled
  else if e.assembling.isSome then .assembling
  else
    match e.buffer, e.current with
    | some _, .held _ => .writing
    | some _, _ => .waiting
    | none, .held _ => .ready
    | none, _ => .idle

/-! ### Requests (R165, R170 to R173) -/

/-- GIVE-EXPORT-CHAIN (R165). -/
def serveGiveExportChain (s : State) : State × Reply :=
  let a := s.reqWord 1
  if !isAligned a then (s, { status := .refused .badField })
  else if s.ex.current = .empty then ({ s with ex := s.ex.startFetch .current a }, { status := .done, words := [[.result .current]] })
  else if s.ex.nextSlot = .empty then ({ s with ex := s.ex.startFetch .next a }, { status := .done, words := [[.result .next]] })
  else (s, { status := .refused .chainPresent })

/-- FLUSH-EXPORT (R170). -/
def serveFlushExport (s : State) : State × Reply :=
  match s.ex.current with
  | .held _ =>
    if s.ex.writePos.isSome then ({ s with ex := { s.ex with flushPending := true } }, { status := .done, words := [[.result .deferred]] })
    else ({ s with ex := s.ex.close .flushed }, { status := .done, words := [[.result .closed]] })
  | _ => (s, { status := .refused .noBuffer })

/-- A fetch begins again from its first read (R171). -/
def Exporter.restartFetch (e : Exporter) (i : SlotId) : Exporter :=
  match e.slot i with
  | .fetching a _ => e.setSlot i (.fetching a [])
  | _ => e

/-- What RESUME-EXPORT does to the engine (R171). -/
def Exporter.resume (e : Exporter) (k : Stall) : Exporter :=
  let e := { e with stall := none }
  match k with
  | .fetch i => e.restartFetch i
  | .write => { e with writePos := some 0 }
  | .writeBack => e

/-- RESUME-EXPORT (R171). -/
def serveResumeExport (s : State) : State × Reply :=
  match s.ex.stall with
  | none => (s, { status := .refused .badState })
  | some k => ({ s with ex := s.ex.resume k }, { status := .done, words := [[.stall k]] })

/-- What ABANDON-BUFFER does to the engine (R172). -/
def Exporter.abandon (e : Exporter) (k : Stall) : Exporter :=
  let e := { e with stall := none }
  match k with
  | .write => ({ e with current := .empty, fillOffset := none, buffer := none, writePos := none, flushPending := false } : Exporter).promoteNext
  | .fetch i => ((e.endFetch i).setSlot i .empty).promoteNext
  | .writeBack => { e with writeBacks := e.writeBacks.tail }

/-- ABANDON-BUFFER (R172). -/
def serveAbandonBuffer (s : State) : State × Reply :=
  match s.ex.stall with
  | none => (s, { status := .refused .badState })
  | some k => ({ s with ex := s.ex.abandon k }, { status := .done, words := [[.stall k]] })

def DescSlot.field : DescSlot → ReplyField
  | .empty => .slotEmpty
  | .fetching _ _ => .slotFetching
  | .held _ => .slotHeld

/-- The address a slot holds or fetches, 0 when EMPTY (R173). -/
def DescSlot.address : DescSlot → Nat
  | .empty => 0
  | .fetching a _ => a.toNat
  | .held d => d.addr.toNat

/-- QUERY-EXPORT (R173): serving it clears BAD_DESCRIPTOR. The rule does not say what word 6 shows for a write position that is absent, nor
what word 1 shows as stall kind and slot when there is no stall: the model shows 0 for both (DESIGN CHOICE, log entry 31). -/
def serveQueryExport (s : State) : State × Reply :=
  let e := s.ex
  ({ s with ex := { e with badDescriptor := false } },
   { status := .done,
     words := [[.engineState e.engineState, (match e.stall with | some k => .stall k | none => .zero), e.current.field, e.nextSlot.field,
                .flag e.flushPending, .num e.writeBacks.length, .flag e.badDescriptor],
               [.num e.current.address],
               [.num e.current.bufLen, .num (e.fillOffset.getD 0)],
               [.num e.nextSlot.address],
               [.num e.collectionQueue.length, .num (match e.collectionQueue with | i :: _ => i.val | [] => 0)],
               [.num (match e.buffer with | some r => r.words.length | none => 0), .num (e.writePos.getD 0)]] })

end Sys2Proof.Machine
end

