-- ==== Sys2Proof/Machine/HostRecords.lean ====
section
/-! DEFINITION. The five host record requests: LOOKUP-LINE, LIST-LINES, PIN-LINE, RETIRE-LINE, MARK-SPARE-DEFECTIVE (R129 to R141). -/

namespace Sys2Proof.Machine

/-! ### Checks (R130) -/

/-- Checks 3 to 8 of R130 for a request on domain `d` of site `i`: `edit` for the three edits, `lost` for the two that DOMAIN_LOST
concerns, `line` for those that name a line. -/
def State.recordRefusal (s : State) (edit lost : Bool) (line : Option (Axis × Nat)) (i : SiteNo) (d : DomainNo) : Option Refuse :=
  match s.ctx i with
  | none => if edit then some .badState else none
  | some c =>
    if edit && (c.phase == .sweeping || c.phase == .held) then some .siteClosing
    else if edit && c.reason.isSome then some .linesLost
    else if c.geometry.domainCount ≤ d.val then some .outOfRange
    else if (match line with | some (a, n) => decide (c.geometry.lineCount a ≤ n) | none => false) then some .outOfRange
    else if lost && (s.domain? i d).map (·.state) == some .unrepairable then some .domainLost
    else none

/-- The checks of R130 in order for a request with site, domain, axis and, when `named`, line address in parameters 1 to 4;
then `f` goes on. -/
def State.onRecord (s : State) (edit lost named : Bool) (f : SiteNo → DomainNo → Axis → State × Reply) : State × Reply :=
  match siteNo? (s.param 1) with
  | none => (s, { status := .refused .badSite })
  | some i =>
    match domainNo? (s.param 2), axis? (s.param 3) with
    | some d, some a =>
      match s.recordRefusal edit lost (if named then some (a, s.param 4) else none) i d with
      | some why => (s, { status := .refused why })
      | none => f i d a
    | _, _ => (s, { status := .refused .badField })

/-- The key of a line request that has passed the checks. -/
def State.paramKey (s : State) (i : SiteNo) (d : DomainNo) (a : Axis) : Key := ⟨i, d, a, BitVec.ofNat 16 (s.param 4)⟩

/-- The site suffers an integrity failure with activity LOOKUP and the request is refused with no line data (R139). -/
def State.lookupFailed (s : State) (i : SiteNo) (r : LineRec) : State × Reply :=
  (s.integrityFailure i r .lookup, { status := .refused .integrity })

/-- The domain state field. R132 gives 0 when no context is current for LOOKUP-LINE; for LIST-LINES (R133) that 0 is log entry 24's (DEDUCED). -/
def State.domainField (s : State) (i : SiteNo) (d : DomainNo) : ReplyField :=
  match s.domain? i d with
  | some r => .domainState r.state
  | none => .zero

/-- The origin field (R132, R133). R45 has the origin absent in CANDIDATE, and no rule says what the reply then shows: the model shows 0
(DESIGN CHOICE, log entry 33). -/
def LineState.originField : LineState → ReplyField
  | .candidate => .zero
  | .assigned o => .origin o

/-! ### Reading lines (R132, R133) -/

/-- Words 3 to 10: the cross list, two addresses to a word, 0 beyond the cross count (R132). -/
def crossWords (cross : List LineAddr) : List ReplyWord :=
  (List.range 8).map fun k => [.num (cross.getD (2 * k) 0).toNat, .num (cross.getD (2 * k + 1) 0).toNat]

/-- The words of LOOKUP-LINE's reply (R132). -/
def State.lookupWords (s : State) (i : SiteNo) (d : DomainNo) : Option LineRec → List ReplyWord
  | some r =>
    [.result .found, .siteState (s.siteState i), s.domainField i d, .lineState r.state, r.state.originField, .num r.cross.length]
      :: [.num r.failCount.toNat] :: crossWords r.cross
  | none => [.result .notFound, .siteState (s.siteState i), s.domainField i d, .zero, .zero, .zero] :: [.num 0] :: crossWords []

/-- The line of a key whose address is a parameter; no line has an address above 65,535 (R130, R132). -/
def State.lineAt (s : State) (i : SiteNo) (d : DomainNo) (a : Axis) (addr : Nat) : Option LineRec :=
  if addr < 65536 then s.findLine ⟨i, d, a, BitVec.ofNat 16 addr⟩ else none

/-- LOOKUP-LINE (R132). -/
def serveLookupLine (s : State) : State × Reply :=
  s.onRecord false false true fun i d a =>
    match s.lineAt i d a (s.param 4) with
    | none => (s, { status := .done, words := s.lookupWords i d none })
    | some r => if r.syndrome = 0 then (s, { status := .done, words := s.lookupWords i d (some r) }) else s.lookupFailed i r

/-- The lines of a domain above a cursor, in key order (R133). -/
def State.linesAbove (s : State) (i : SiteNo) (d : DomainNo) (cursor : Option Key) : List LineRec :=
  (s.domainLines i d).filter fun r => aboveCursor cursor r.key

/-- The two words of a listed line (R133). -/
def listedWords (r : LineRec) : List ReplyWord :=
  [[.axis r.key.axis, .num r.key.addr.toNat, .lineState r.state, r.state.originField, .num r.cross.length], [.num r.failCount.toNat]]

/-- A cursor in a reply: the axis and the address, 0 for START (R133, log entry 24). -/
def cursorWord : Option Key → ReplyWord
  | some k => [.axis k.axis, .num k.addr.toNat]
  | none => [.zero, .zero]

/-- A page of LIST-LINES: up to 6 lines, each read (R133, R139). -/
def State.listPage (s : State) (i : SiteNo) (d : DomainNo) (cursor : Option Key) : State × Reply :=
  let page := (s.linesAbove i d cursor).take 6
  match page.find? fun r => r.syndrome != 0 with
  | some r => s.lookupFailed i r
  | none =>
    let next := match page.getLast? with | some r => some r.key | none => cursor
    let lines := page.flatMap listedWords
    (s, { status := .done,
          words := [.num page.length, .flag (s.linesAbove i d next).isEmpty, .siteState (s.siteState i), s.domainField i d]
                     :: cursorWord next :: lines ++ List.replicate (12 - lines.length) []
                     ++ [[.num (s.available i d .row), .num (s.available i d .column)]] })

/-- LIST-LINES (R133): site, domain, and the cursor's axis and address in parameters 1 to 4 (log entries 7 and 8). -/
def serveListLines (s : State) : State × Reply :=
  match siteNo? (s.param 1) with
  | none => (s, { status := .refused .badSite })
  | some i =>
    match domainNo? (s.param 2), cursor? (s.param 3) (s.param 4) with
    | some d, some cur =>
      match s.recordRefusal false false none i d with
      | some why => (s, { status := .refused why })
      | none => s.listPage i d (cur.map fun c => ⟨i, d, c.1, c.2⟩)
    | _, _ => (s, { status := .refused .badField })

/-! ### Edits (R131, R135 to R138) -/

/-- How many lines a work item has freed (R135, R137). -/
def State.linesFreed (before after : State) : Nat := before.store.lines.length - after.store.lines.length

/-- The reply of a PIN-LINE that is taken (R135). -/
def pinReply (s : State) (k : Key) (created : Bool) (freed : Nat) (count : Count16) : State × Reply :=
  (s.addFlag k.site .hostEdited,
   { status := .done, words := [[.flag created], [.num freed], [.num count.toNat], [.num (s.available k.site k.domain k.axis)]] })

/-- PIN-LINE on a present CANDIDATE line: assigned with origin PINNED (R135, case 3). -/
def State.pinPresent (s : State) (r : LineRec) : State × Reply :=
  match s.assign .lookup .pinned r.key r.cross with
  | .halt t => (t, { status := .refused .integrity })
  | .more t => pinReply t r.key false (s.linesFreed t) r.failCount

/-- PIN-LINE on an absent line: one record is demanded and written ASSIGNED (R135 case 4, R136). -/
def State.pinAbsent (s : State) (k : Key) : State × Reply :=
  match s.demand k.site 1 with
  | .wantOfStore => (s, { status := .refused .storeFull })
  | .wantOfQuota => (s, { status := .refused .quota })
  | .met =>
    let t := ((s.takeLine k (.assigned .pinned)).modDomain k.site k.domain fun r => { r with assigned := r.assigned.inc k.axis }).appendSettle k.site k.domain
    pinReply t k true 0 0

/-- PIN-LINE (R135). -/
def servePinLine (s : State) : State × Reply :=
  s.onRecord true true true fun i d a =>
    let k := s.paramKey i d a
    match s.findLine k with
    | none => if s.available i d a = 0 then (s, { status := .refused .noSpare }) else s.pinAbsent k
    | some r =>
      if r.syndrome ≠ 0 then s.lookupFailed i r
      else
        match r.state with
        | .assigned o => (s, { status := .refused .already, words := [[.origin o]] })
        | .candidate => if s.available i d a = 0 then (s, { status := .refused .noSpare }) else s.pinPresent r

/-- RETIRE-LINE on a CANDIDATE line (R137). -/
def State.retire (s : State) (r : LineRec) : State × Reply :=
  match State.uncrossAll .lookup r.key r.cross s with
  | .halt t => (t, { status := .refused .integrity })
  | .more t =>
    ((t.freeLine r.key).addFlag r.key.site .hostEdited,
     { status := .done, words := [[.num r.cross.length], [.num (s.linesFreed t)], [.num r.failCount.toNat]] })

/-- RETIRE-LINE (R137). -/
def serveRetireLine (s : State) : State × Reply :=
  s.onRecord true false true fun i d a =>
    match s.findLine (s.paramKey i d a) with
    | none => (s, { status := .refused .notFound })
    | some r =>
      if r.syndrome ≠ 0 then s.lookupFailed i r
      else if r.isCandidate then s.retire r
      else (s, { status := .refused .lineAssigned })

/-- MARK-SPARE-DEFECTIVE (R138). -/
def serveMarkSpareDefective (s : State) : State × Reply :=
  s.onRecord true true false fun i d a =>
    if s.available i d a = 0 then (s, { status := .refused .noSpare })
    else
      let t := ((s.modDomain i d fun r => { r with defective := r.defective.inc a }).appendSettle i d).addFlag i .hostEdited
      (t, { status := .done, words := [[.num (((t.domain? i d).map fun r => r.defective.get a).getD 0)], [.num (t.available i d a)]] })

end Sys2Proof.Machine
end

