-- ==== Sys2Proof/Machine/SiteRequests.lean ====
section
/-! DEFINITION. The Site Controller's requests, and QUERY-INTEGRITY: arming, staging, starting, holds, closing, aborting and querying (R18 to R27, R35, R41, R42, R60). -/

namespace Sys2Proof.Machine

/-! ### ARM and STAGE (R18, R20) -/

/-- Two entries with the same domain, axis and line address (R18, check 4). -/
def carryRepeats : List CarryIn → Bool
  | [] => false
  | e :: es => es.contains e || carryRepeats es

/-- The quota is absent or lies in 8 to 12,288 (R18, check 3). -/
def quotaOk : Option Nat → Bool
  | none => true
  | some q => decide (8 ≤ q) && decide (q ≤ Config.lineRecords)

/-- Checks 1 to 5 of R18, which ARM and STAGE share (R20). -/
def State.armFields (s : State) : Except Refuse (SiteNo × Staged) :=
  let w := s.armWords
  match siteNo? w.site with
  | none => .error .badSite
  | some i =>
    match templateNo? w.template with
    | none => .error .badTemplate
    | some t =>
      match policy? w.policy, quotaOk w.quota && decide (w.carryCount ≤ 8), s.carryInList w.carryCount with
      | some p, true, some l =>
        if carryRepeats l then .error .badCarryIn
        else if (s.template t).active.isNone then .error .templateInvalid
        else .ok (i, { tag := w.tag, template := t, policy := p, quota := w.quota, carryIn := l })
      | _, _, _ => .error .badField

/-- Checks 7 to 9 of R18, then the context becomes current (R16); `words` are the result fields before the use count. -/
def State.armVacant (s : State) (i : SiteNo) (x : Staged) (words : List ReplyWord) : State × Reply :=
  match (s.template x.template).active with
  | none => (s, { status := .refused .templateInvalid })
  | some g =>
    if !carryInside g x.carryIn then (s, { status := .refused .badCarryIn })
    else if !carrySpared g x.carryIn then (s, { status := .refused .noSpare })
    else if s.freeCount < x.carryIn.length then (s, { status := .refused .storeFull })
    else
      let t := s.makeCurrent i x g
      (t, { status := .done, words := words ++ [[.num (t.template x.template).useCount]] })

/-- ARM (R18). -/
def serveArm (s : State) : State × Reply :=
  match s.armFields with
  | .error why => (s, { status := .refused why })
  | .ok (i, x) => if s.siteState i = .vacant then s.armVacant i x [] else (s, { status := .refused .badState })

/-- STAGE (R20), judged by the site state when it is served (R65). -/
def serveStage (s : State) : State × Reply :=
  match s.armFields with
  | .error why => (s, { status := .refused why })
  | .ok (i, x) =>
    if s.siteState i = .vacant then s.armVacant i x [[.result .promoted]]
    else if (s.site i).staged.isSome then (s, { status := .refused .stagedFull })
    else (s.modSite i fun y => { y with staged := some x }, { status := .done, words := [[.result .staged]] })

/-! ### Requests on one site -/

/-- A request on the site in parameter 1; a number above 255 is refused (R177). -/
def State.onSite (s : State) (f : SiteNo → State × Reply) : State × Reply :=
  match siteNo? (s.param 1) with
  | none => (s, { status := .refused .badSite })
  | some i => f i

/-- UNSTAGE (R21). -/
def serveUnstage (s : State) : State × Reply :=
  s.onSite fun i =>
    (s.modSite i fun y => { y with staged := none },
     { status := .done, words := [[.flag (s.site i).staged.isSome], [.num (match (s.site i).staged with | some x => x.tag.toNat | none => 0)]] })

/-- What a DISARM does to an ARMED site, in the order of R19. -/
def State.disarm (s : State) (i : SiteNo) : State :=
  (((s.freeSite i).unuseTemplate i).modSite i fun y => { y with staged := none }).dropContext i

/-- DISARM (R19). -/
def serveDisarm (s : State) : State × Reply :=
  s.onSite fun i =>
    if s.siteState i = .armed then
      (s.disarm i, { status := .done, words := [[.num (s.inUse i)], [.flag (s.site i).staged.isSome]] })
    else (s, { status := .refused .badState })

/-- CLOSE (R27). -/
def serveClose (s : State) : State × Reply :=
  s.onSite fun i =>
    match s.siteState i with
    | .vacant => (s, { status := .refused .badState })
    | .armed => (s.toSweeping i, { status := .done, words := [[.siteState .sweeping]] })
    | .testing => (s.enterDraining i, { status := .done, words := [[.siteState .draining]] })
    | .draining | .sweeping | .held => (s, { status := .refused .already })

/-- The reply of an ABORT that is taken: the site's state and reason after the grant (R35). -/
def abortReply (s : State) (i : SiteNo) : State × Reply :=
  (s, { status := .done, words := [[.siteState (s.siteState i)], [match s.reasonOf i with | some r => .reason r | none => .zero]] })

/-- ABORT (R35). -/
def serveAbort (s : State) : State × Reply :=
  s.onSite fun i =>
    match s.siteState i with
    | .vacant | .armed | .held => (s, { status := .refused .badState })
    | .testing => abortReply (((s.freeSite i).setReason i .aborted).enterDraining i) i
    | .draining => abortReply ((s.freeSite i).setReason i .aborted) i
    | .sweeping => abortReply (((s.freeSite i).setReason i .aborted).toHeld i) i

/-- HOLD-SITE (R25). -/
def serveHoldSite (s : State) : State × Reply :=
  s.onSite fun i =>
    if s.siteState i = .vacant then (s, { status := .refused .badState })
    else (s.modSite i fun y => { y with hostHold := true }, { status := .done, words := [[.flag (s.site i).hostHold]] })

/-- RELEASE-HOLD (R25). -/
def serveReleaseHold (s : State) : State × Reply :=
  s.onSite fun i => (s.modSite i fun y => { y with hostHold := false }, { status := .done, words := [[.flag (s.site i).hostHold]] })

/-! ### START-SITES (R23) -/

/-- How a slot named by START-SITES is judged (R23). -/
inductive StartJudged where
  | started | noSlot | badState
  deriving DecidableEq, Repr

def State.judgeStart (s : State) (h : HeadNo) (sl : SlotNo) : StartJudged :=
  if (s.link h).slotCount ≤ sl.val then .noSlot
  else if s.siteState (siteOf h sl) = .armed then .started
  else .badState

/-- The slots of a set that are judged so, as a slot set (R23). -/
def State.startSet (s : State) (h : HeadNo) (set : SlotSet) (j : StartJudged) : SlotSet :=
  bitSet 32 fun sl => set.getLsbD sl.val && s.judgeStart h sl == j

/-- An ARMED site enters TESTING; no other field of the context changes (R23). -/
def State.startSite (s : State) (i : SiteNo) : State := s.modCtx i fun c => { c with phase := .testing }

/-- START-SITES (R23): head in parameter 1, slot set in parameter 2. -/
def serveStartSites (s : State) : State × Reply :=
  match headNo? (s.param 1) with
  | none => (s, { status := .refused .badSite })
  | some h =>
    if (s.link h).state ≠ .up then (s, { status := .refused .linkNotUp })
    else
      let set := s.reqWord 2
      (((slotsOf set).filter fun sl => s.judgeStart h sl == .started).foldl (fun t sl => t.startSite (siteOf h sl)) s,
       { status := .done,
         words := [[.slots (s.startSet h set .started)], [.slots (s.startSet h set .noSlot)], [.slots (s.startSet h set .badState)]] })

/-! ### Queries and notices (R41, R42, R60) -/

/-- Word 13 and word 14 of QUERY-SITE: the named domain, 0 when absent (R42). -/
def domainWords : Option DomainRec → List ReplyWord
  | some r =>
    [[.domainState r.state, .num r.base.row, .num r.base.column, .num r.defective.row, .num r.defective.column, .num r.assigned.row, .num r.assigned.column],
     [.num r.failTotal.toNat]]
  | none => [[], []]

/-- Words 1 to 14 of QUERY-SITE but for the drain time (R42). -/
def Site.viewHead (x : Site) (inUse : Nat) : List ReplyWord :=
  match x.ctx with
  | some c =>
    [[.siteState x.state, .num c.template.val, .policy c.policy, .flag x.staged.isSome, .flag x.hostHold, .flag x.headHold, .flag c.doomed],
     [.num c.tag.toNat], [.num c.quota, .num inUse], [match c.reason with | some r => .reason r | none => .zero, .quality c.flags]]
  | none => [[.siteState .vacant, .zero, .zero, .flag x.staged.isSome, .flag x.hostHold, .flag x.headHold, .zero], [], [], []]

/-- The fifteen words of QUERY-SITE (R42). -/
def Site.view (x : Site) (inUse now domain : Nat) : List ReplyWord :=
  x.viewHead inUse ++ [[.num (match x.ctx, x.drainDeadline with | some _, some t => t - now | _, _ => 0)]] ++ geometryWords (x.ctx.map (·.geometry))
    ++ domainWords (x.ctx.bind fun c => c.domains[domain]?) ++ [[.num (match x.staged with | some y => y.tag.toNat | none => 0)]]

/-- QUERY-SITE (R42); the model looks at the time for word 5 (log entry 4). -/
def serveQuerySite (s : State) : State × Reply :=
  s.onSite fun i =>
    let t := s.readClock
    (t, { status := .done, words := (s.site i).view (s.inUse i) t.now (s.param 2) })

/-- The two words of a Stop Notice (R41). -/
def noticeWords (n : Notice) : List ReplyWord := [[.num n.site.val, .notice n.reason, .flag n.more], [.num n.tag.toNat]]

/-- TAKE-STOP-NOTICES (R41). -/
def serveTakeStopNotices (s : State) : State × Reply :=
  let taken := s.lists.stopNotices.take 7
  let left := s.lists.stopNotices.drop 7
  ({ s with lists := { s.lists with stopNotices := left } },
   { status := .done, words := [.num taken.length, .num left.length] :: taken.flatMap noticeWords })

/-- QUERY-INTEGRITY (R60): serving it empties the capture. -/
def serveQueryIntegrity (s : State) : State × Reply :=
  ({ s with store := { s.store with capture := none } },
   { status := .done,
     words := match s.store.capture with
       | some c => [[.flag true], [.num c.site.val], [.num c.index], [.activity c.activity], [.flag c.overflow]]
       | none => [[.flag false], [.num 0], [.num 0], [.zero], [.flag false]] })

end Sys2Proof.Machine
end

