-- ==== Sys2Proof/Machine/Port.lean ====
section
/-! DEFINITION. The Command Port: buffer words, GO and RELEASE, routing, replies, its own requests, and the service of every request (R176 to R180, R184). -/

namespace Sys2Proof.Machine

/-! ### The port's own requests (R179, R180, R184) -/

/-- The number of the first present limit outside its range (R179). -/
def State.badLimit (s : State) : Option Nat :=
  let p := isPresent (s.reqWord 1)
  let out (n lo hi : Nat) : Bool := !(decide (lo ≤ n) && decide (n ≤ hi))
  if p 1 && out (s.param 2) 1 65535 then some 1
  else if p 2 && out (s.param 3) 1000 1000000 then some 2
  else if p 3 && out (s.param 4) 1 255 then some 3
  else if p 4 && out (s.param 5) 8 Config.lineRecords then some 4
  else if p 5 && out (s.param 6) 0 Config.lineRecords then some 5
  else none

/-- The present limits take effect together, and the low indication is judged again (R179, R56). -/
def State.setLimits (s : State) : State :=
  let pick (k : Nat) (new old : Nat) : Nat := if isPresent (s.reqWord 1) k then new else old
  ({ s with
     lists := { s.lists with drainTimeout := pick 1 (s.param 2) s.lists.drainTimeout }
     trainingTimeout := pick 2 (s.param 3) s.trainingTimeout
     ex := { s.ex with busTimeout := pick 3 (s.param 4) s.ex.busTimeout }
     store := { s.store with defaultQuota := pick 4 (s.param 5) s.store.defaultQuota, lowWater := pick 5 (s.param 6) s.store.lowWater } } : State).judgeLow

/-- The five limits in force, in their units of setting (R179, log entry 9). -/
def State.limitWords (s : State) : List ReplyWord :=
  [[.num s.lists.drainTimeout], [.num s.trainingTimeout], [.num s.ex.busTimeout], [.num s.store.defaultQuota], [.num s.store.lowWater]]

/-- SET-LIMITS (R179). -/
def serveSetLimits (s : State) : State × Reply :=
  match s.badLimit with
  | some n => (s, { status := .refused .badField, words := [[.num n]] })
  | none => (s.setLimits, { status := .done, words := s.setLimits.limitWords })

/-- QUERY-PART (R180). -/
def serveQueryPart (s : State) : State × Reply :=
  (s, { status := .done,
        words := [[.num s.freeCount, .flag s.store.low], s.links.toList.map fun l => .linkState l.state,
                  [.engineState s.ex.engineState, .num s.ex.collectionQueue.length, .num s.lists.sweepQueue.length],
                  [.num s.lists.stopNotices.length]] })

/-- The Attention Unit's settings as SET-ATTENTION leaves them (R184): presence items 1 the vector table, 2 the mask set, 3 the default
vector (log entry 8). The rule is silent on bits 16 to 31 of parameter 6 and bits 8 to 31 of parameter 7: they are ignored, as are the other
bits of the presence set (DESIGN CHOICE, log entry 32). -/
def State.newAttention (s : State) : Attention :=
  let p := isPresent (s.reqWord 1)
  { s.att with
    vectors := if p 1 then Vector.ofFn fun n => byteOf (s.reqWord ⟨2 + n.val / 4, by omega⟩) (n.val % 4) else s.att.vectors
    mask := if p 2 then (s.reqWord 6).setWidth 16 else s.att.mask
    defaultVector := if p 3 then byteOf (s.reqWord 7) 0 else s.att.defaultVector }

/-- SET-ATTENTION (R184). -/
def serveSetAttention (s : State) : State × Reply :=
  ({ s with att := s.newAttention }, { status := .done, words := [[.sources s.newAttention.mask], [.num s.newAttention.defaultVector.toNat]] })

/-! ### Service (R177) -/

/-- The owner of a request serves it (R177). -/
def serve (r : Request) (s : State) : State × Reply :=
  match r with
  | .loadTemplate => serveLoadTemplate s
  | .queryTemplate => serveQueryTemplate s
  | .arm => serveArm s
  | .stage => serveStage s
  | .unstage => serveUnstage s
  | .disarm => serveDisarm s
  | .startSites => serveStartSites s
  | .close => serveClose s
  | .abort => serveAbort s
  | .holdSite => serveHoldSite s
  | .releaseHold => serveReleaseHold s
  | .querySite => serveQuerySite s
  | .takeStopNotices => serveTakeStopNotices s
  | .queryIntegrity => serveQueryIntegrity s
  | .lookupLine => serveLookupLine s
  | .listLines => serveListLines s
  | .pinLine => servePinLine s
  | .retireLine => serveRetireLine s
  | .markSpareDefective => serveMarkSpareDefective s
  | .setCoincidence => serveSetCoincidence s
  | .listCoincidence => serveListCoincidence s
  | .clearTrip => serveClearTrip s
  | .queryCoincidence => serveQueryCoincidence s
  | .linkEnable => serveLinkEnable s
  | .linkReset => serveLinkReset s
  | .queryLink => serveQueryLink s
  | .giveExportChain => serveGiveExportChain s
  | .flushExport => serveFlushExport s
  | .resumeExport => serveResumeExport s
  | .abandonBuffer => serveAbandonBuffer s
  | .queryExport => serveQueryExport s
  | .setLimits => serveSetLimits s
  | .queryPart => serveQueryPart s
  | .setAttention => serveSetAttention s

/-- The requests marked "grant"; STAGE is routed by the site state at the GO (R65, R177). R65 and R177 route a STAGE by the state of its site
and say nothing of a site number above 255, which has none: the model has it served directly, so BAD_SITE comes without a grant
(DESIGN CHOICE, log entry 28). -/
def State.needsGrant (s : State) : Request → Bool
  | .arm | .disarm | .abort | .lookupLine | .listLines | .pinLine | .retireLine | .markSpareDefective => true
  | .stage =>
    match siteNo? s.armWords.site with
    | some i => s.siteState i == .vacant
    | none => false
  | _ => false

/-! ### Replies, GO and RELEASE (R176 to R178) -/

/-- The sixteen reply words: the status word, the result fields, and 0 (R178). -/
def Reply.buffer (r : Reply) : Vector ReplyWord 16 := Vector.ofFn fun n => ([.status r.status] :: r.words).getD n.val []

/-- A reply is posted: the port enters REPLIED and COMMAND_DONE is raised (R178). -/
def State.postReply (s : State) (r : Reply) : State :=
  ({ s with port := { s.port with state := .replied, replyBuf := r.buffer } } : State).raise 15

/-- A request is handed to its owner at the GO event: it becomes the Repair Engine's pending host request, or its owner serves it at that
event and the reply is posted (R177, R178). -/
def State.route (s : State) (r : Request) : State :=
  if s.needsGrant r then { s with engine := { s.engine with pendingHost := some r } }
  else
    let (t, reply) := serve r s
    t.postReply reply

/-- In READY a GO hands request `r` to an owner that serves it directly (R177). -/
def State.goServes (s : State) (r : Request) : Bool :=
  s.port.state == .ready && requestOfCode (s.param 0) == some r && !s.needsGrant r

/-- A GO (R176, R177). -/
def State.goWritten (s : State) : State :=
  match s.port.state with
  | .ready =>
    let s : State := { s with port := { s.port with state := .running } }
    match requestOfCode (s.param 0) with
    | some r => s.route r
    | none => s.postReply { status := .refused .badRequest }
  | .running | .replied => { s with port := { s.port with lostGo := true } }

/-- A RELEASE (R176). -/
def State.releaseWritten (s : State) : State :=
  match s.port.state with
  | .ready | .replied => { s with port := { s.port with state := .ready, lostGo := false, writeIgnored := false } }
  | .running => { s with port := { s.port with writeIgnored := true } }

/-- A write of a request buffer word (R176). -/
def State.requestWordWritten (s : State) (k : Fin 16) (v : Word) : State :=
  match s.port.state with
  | .ready | .replied => { s with port := { s.port with requestBuf := s.port.requestBuf.set k.val v } }
  | .running => { s with port := { s.port with writeIgnored := true } }

end Sys2Proof.Machine
end

