-- ==== Sys2Proof/Machine/Arbiter.lean ====
section
/-! DEFINITION. The engine arbiter, the grant that is due, and what every event does before and after its own effect (R63 to R67, R24, R155, R164,
R166, R167, R182; log entries 1 and 12). -/

namespace Sys2Proof.Machine

/-! ### The end of an event (log entry 12) -/

def heads : List HeadNo := List.finRange 8

/-- The gate sets that have changed are handed over (R24). -/
def State.handGates (s : State) : State := { s with links := Vector.ofFn fun h => (s.link h).handGate (s.gateSet h) }

/-- Every IDLE transmitter takes its next entry (R155). -/
def State.takeDownlinks (s : State) : State := { s with links := s.links.map Link.takeDownlink }

/-- What the end of an event makes of a link whose head has gate set `g` (R24, R155). -/
def Link.finished (l : Link) (g : SlotSet) : Link := (l.handGate g).takeDownlink

/-- A waiting record begins to be written, and an assembly begins (R166, R167). -/
def State.exportBegins (s : State) : State := { s with ex := s.ex.beginWrite.beginAssembly }

/-- What follows in every event from the conditions its own effect leaves: gate sets, transmitters, the Export Engine, the pending set. -/
def State.finish (s : State) : State := (s.handGates.takeDownlinks.exportBegins.takeAccess).judgeAttention

/-! ### What waits (R64) -/

/-- A head's FIFO holds an item (R64). -/
def Link.hasItem (l : Link) : Bool := !l.fifo.isEmpty || l.marker

/-- A head is urgent (R67). -/
def Link.isUrgent (l : Link) : Bool := decide (Config.urgent ≤ l.fifo.length)

/-- The heads in the order of R67: last head served + 1 and so on, wrapping, the last head served itself last. -/
def rotation (last : HeadNo) : List HeadNo := heads.map fun k => k + last + 1

/-- The head an intake grant chooses: among the urgent heads if there are any, else among all with an item, the first in rotation (R67). -/
def State.chooseHead (s : State) : Option HeadNo :=
  match (rotation s.engine.lastHead).find? fun h => (s.link h).isUrgent with
  | some h => some h
  | none => (rotation s.engine.lastHead).find? fun h => (s.link h).hasItem

/-- The grant that is due (R63, R65, R66). -/
inductive Due where
  | nothing
  | host (r : Request)
  | sweep
  | settle
  | intake (h : HeadNo)
  deriving DecidableEq, Repr

/-- The background group's work: SW whenever it waits, else ST (R66). -/
def State.backgroundDue (s : State) : Due :=
  if !s.lists.sweepQueue.isEmpty then .sweep else if !s.engine.settleList.isEmpty then .settle else .nothing

/-- The next grant while no item is in progress (R65, R66). -/
def State.nextGrant (s : State) : Due :=
  match s.engine.pendingHost with
  | some r => .host r
  | none =>
    match s.backgroundDue, s.chooseHead with
    | .nothing, none => .nothing
    | .nothing, some h => .intake h
    | b, none => b
    | b, some h => if s.engine.lastGroup = .background then .intake h else b

/-- The grant that is due now: none while an item is in progress (R63) or the part is held in reset (R185). -/
def State.due (s : State) : Due := if s.isHeld || s.engine.inProgress.isSome then .nothing else s.nextGrant

/-! ### Grants -/

/-- A grant of the host-request class: the pending host request is served whole; its reply waits for the item's completion (R65). -/
def State.grantHost (s : State) (r : Request) : State :=
  let (t, reply) := serve r { s with engine := { s.engine with pendingHost := none } }
  { t with engine := { t.engine with inProgress := some (.host reply) } }

/-- A grant of the background group (R66). -/
def State.grantBackground (s : State) (w : WorkItem) (f : State → State) : State :=
  let t := f s
  { t with engine := { t.engine with inProgress := some w, lastGroup := .background } }

/-- A grant of the intake group (R66, R67, R69). -/
def State.grantIntake (s : State) (h : HeadNo) : State :=
  let t := s.takeItem h
  { t with engine := { t.engine with inProgress := some .intake, lastGroup := .intake, lastHead := h } }

/-- The effect of the grant that is due. -/
def State.perform (s : State) : Due → State
  | .nothing => s
  | .host r => s.grantHost r
  | .sweep => s.grantBackground .sweep State.sweepStep
  | .settle => s.grantBackground .settle State.settleStep
  | .intake h => s.grantIntake h

/-- The grant that is due is made, as one event; nothing happens when none is due. A grant leaves an item in progress, so no second one is
due after it (R63, log entry 1). -/
def State.catchUp (s : State) : State :=
  match s.due with
  | .nothing => s
  | d => (s.perform d).finish

/-! ### Events -/

/-- An event of its own: the grant that is due comes first, then the event's effect, then what follows from it. While the part is held in reset
nothing happens (R185, log entry 6). -/
def State.atEvent (f : State → State) (s : State) : State := if s.isHeld then s else (f s.catchUp).finish

/-- The row of a request served directly: the GO that hands it to its owner, who serves it at that event (R177, log entry 2). -/
def State.directRow (r : Request) (s : State) : State := if s.catchUp.goServes r then s.atEvent State.goWritten else s

/-- The row of a grant: the grant, when the next one is of that kind (R63 to R67, log entry 2). -/
def State.grantRow (p : State → Due → Bool) (s : State) : State := if p s s.due then s.catchUp else s

/-- The row of a request served at a grant. -/
def State.hostRow (r : Request) (s : State) : State := s.grantRow fun _ d => d == .host r

/-- The completion of the work item in progress: a host request's reply is posted (R63, R65). -/
def State.workItemDone (s : State) : State :=
  match s.engine.inProgress with
  | some (.host reply) => ({ s with engine := { s.engine with inProgress := none } } : State).postReply reply
  | _ => { s with engine := { s.engine with inProgress := none } }

end Sys2Proof.Machine
end

