-- ==== Sys2Proof/Machine/EngineCommands.lean ====
section
/-! DEFINITION. The grants and completions of the Repair Engine as commands: sweep and settle steps, and the items of the intake group (R63 to R67, R69, R95, R102). -/

namespace Sys2Proof.Machine

/-- The item an intake grant of head h would take. -/
def State.itemAt (s : State) (h : HeadNo) : Option UpFrame := (s.link h).fifo.head?

def isFail : Option UpFrame → Bool
  | some (.fail ..) => true
  | _ => false

def isEnd : Option UpFrame → Bool
  | some (.endFrame _) => true
  | _ => false

def isHold : Option UpFrame → Bool
  | some (.hold _ _) => true
  | _ => false

/-- The next grant is of the intake group and takes an item that satisfies `p` (R67, R69). -/
def State.takesItem (p : Option UpFrame → Bool) (s : State) : Due → Bool
  | .intake h => p (s.itemAt h)
  | _ => false

/-- WORK_ITEM_COMPLETE (R63, R65). -/
def execWorkItemComplete (s : State) : Host.Outcome State Fault Refusal := .next (s.atEvent State.workItemDone)

/-- SWEEP_STEP (R102). -/
def execSweepStep (s : State) : Host.Outcome State Fault Refusal := .next (s.grantRow fun _ d => d == .sweep)

/-- SETTLE_STEP (R95). -/
def execSettleStep (s : State) : Host.Outcome State Fault Refusal := .next (s.grantRow fun _ d => d == .settle)

/-- FAIL_FRAME_TAKEN (R69 to R80). -/
def execFailFrameTaken (s : State) : Host.Outcome State Fault Refusal := .next (s.grantRow (State.takesItem isFail))

/-- END_TAKEN (R81). -/
def execEndTaken (s : State) : Host.Outcome State Fault Refusal := .next (s.grantRow (State.takesItem isEnd))

/-- HOLD_TAKEN (R82). -/
def execHoldTaken (s : State) : Host.Outcome State Fault Refusal := .next (s.grantRow (State.takesItem isHold))

/-- LINK_LOST_MARKER_TAKEN (R83). -/
def execLinkLostMarkerTaken (s : State) : Host.Outcome State Fault Refusal := .next (s.grantRow (State.takesItem Option.isNone))

end Sys2Proof.Machine
end

