-- ==== Sys2Proof/Machine/LinkCommands.lean ====
section
/-! DEFINITION. The commands of the head links and of the timers of links and sites: frames received and sent, and deadlines (R29, R145 to R150, R155). -/

namespace Sys2Proof.Machine

/-- The clock stands at or after a deadline that has passed (log entry 4). -/
def State.clockAt (s : State) (deadline : Nat) : State := { s with now := max s.now deadline }

/-- HELLO_RECEIVED (R146, R147). -/
def execHelloReceived (head : HeadNo) (serial : BitVec 16) (slotCount level : Byte) (s : State) : Host.Outcome State Fault Refusal :=
  .next (s.atEvent fun s => s.receiveHello head serial slotCount level)

/-- FAIL_RECEIVED (R147, R149). -/
def execFailReceived (head : HeadNo) (slot : SlotNo) (domain : DomainNo) (rawRow : LineAddr) (rawColumn : BitVec 12) (runLess1 : Fin 16) (s : State) :
    Host.Outcome State Fault Refusal :=
  .next (s.atEvent fun s => s.receiveCounted head (.fail slot domain rawRow rawColumn runLess1))

/-- END_RECEIVED (R147, R149). -/
def execEndReceived (head : HeadNo) (slot : SlotNo) (s : State) : Host.Outcome State Fault Refusal :=
  .next (s.atEvent fun s => s.receiveCounted head (.endFrame slot))

/-- HOLD_RECEIVED (R147, R149). -/
def execHoldReceived (head : HeadNo) (slot : SlotNo) (on : Bool) (s : State) : Host.Outcome State Fault Refusal :=
  .next (s.atEvent fun s => s.receiveCounted head (.hold slot on))

/-- BAD_FRAME_RECEIVED (R147, R148). -/
def execBadFrameReceived (head : HeadNo) (s : State) : Host.Outcome State Fault Refusal := .next (s.atEvent fun s => s.receiveBad head)

/-- The training deadline of a TRAINING link passes (R145). -/
def State.trainingPassed (s : State) (h : HeadNo) : State :=
  match (s.link h).trainingDeadline with
  | some t => (s.clockAt t).trainingExpired h
  | none => s

/-- TRAINING_DEADLINE (R145). -/
def execTrainingDeadline (head : HeadNo) (s : State) : Host.Outcome State Fault Refusal := .next (s.atEvent fun s => s.trainingPassed head)

/-- The drain deadline of a DRAINING site passes (R29). -/
def State.drainPassed (s : State) (i : SiteNo) : State :=
  match (s.site i).drainDeadline with
  | some t => if s.siteState i = .draining then ((s.clockAt t).addFlag i .drainTimeout).toSweeping i else s
  | none => s

/-- DRAIN_DEADLINE (R29). -/
def execDrainDeadline (site : SiteNo) (s : State) : Host.Outcome State Fault Refusal := .next (s.atEvent fun s => s.drainPassed site)

/-- FRAME_SENT (R155). -/
def execFrameSent (head : HeadNo) (s : State) : Host.Outcome State Fault Refusal := .next (s.atEvent fun s => s.frameDone head)

end Sys2Proof.Machine
end

