-- ==== Sys2Proof/Machine/ExportCommands.lean ====
section
/-! DEFINITION. The commands of the Export Engine: the bus initiator's acceptances and its timeout, and the completion of an assembly (R163, R164, R166, R168, R169). -/

namespace Sys2Proof.Machine

/-- The access in flight is over. -/
def State.clearAccess (s : State) : State := { s with ex := { s.ex with access := none } }

/-- An access is not accepted within its timeout: it is given up and the engine is STALLED with its kind (R164). -/
def State.busExpired (s : State) : State :=
  match s.ex.access with
  | some a => (({ s with ex := { s.ex with access := none, stall := some a.kind.stall } } : State)).clockAt a.deadline
  | none => s

/-- BUS_TIMEOUT (R164). -/
def execBusTimeout (s : State) : Host.Outcome State Fault Refusal := .next (s.atEvent State.busExpired)

/-- A descriptor read in flight is accepted with the word read (R163). -/
def State.descriptorRead (s : State) (data : Word) : State :=
  match s.ex.access with
  | some { kind := .read i _, .. } => { s with ex := s.clearAccess.ex.readAccepted i data }
  | _ => s

/-- DESCRIPTOR_READ_ACCEPTED (R163). -/
def execDescriptorReadAccepted (data : Word) (s : State) : Host.Outcome State Fault Refusal := .next (s.atEvent fun s => s.descriptorRead data)

/-- A record word in flight is accepted (R168). -/
def State.recordWordIn (s : State) : State :=
  match s.ex.access with
  | some { kind := .record _ _, .. } => s.clearAccess.recordWordDone
  | _ => s

/-- RECORD_WORD_ACCEPTED (R168). -/
def execRecordWordAccepted (s : State) : Host.Outcome State Fault Refusal := .next (s.atEvent State.recordWordIn)

/-- The oldest write-back entry leaves the list, and BUFFER_CLOSED is raised when its notify flag was set (R169). -/
def State.writeBackDone (s : State) : State :=
  match s.ex.writeBacks with
  | w :: rest =>
    let s : State := { s with ex := { s.ex with writeBacks := rest } }
    if w.notify then s.raise 13 else s
  | [] => s

/-- A status write-back in flight is accepted (R169). -/
def State.statusWordIn (s : State) : State :=
  match s.ex.access with
  | some { kind := .status _ _, .. } => s.clearAccess.writeBackDone
  | _ => s

/-- WRITE_BACK_ACCEPTED (R169). -/
def execWriteBackAccepted (s : State) : Host.Outcome State Fault Refusal := .next (s.atEvent State.statusWordIn)

/-- ASSEMBLY_COMPLETION (R166). -/
def execAssemblyCompletion (s : State) : Host.Outcome State Fault Refusal := .next (s.atEvent State.completeAssembly)

end Sys2Proof.Machine
end

