-- ==== Sys2Proof/Machine/Resets.lean ====
section
/-! DEFINITION. Power-on reset and soft reset, and the release of each (R13, R43, R62, R68, R128, R160, R175, R185, R186; log entries 5, 6, 17). -/

namespace Sys2Proof.Machine

/-- The power-on reset input is low: every block at its power-on values. The queue, the clock and the counter of free values are the
model's own and go on. -/
def State.powerOnReset (s : State) : State := { State.powerOn with pending := s.pending, now := s.now, freeIx := s.freeIx }

/-- Every block takes its soft-reset values in one event (R185): the active copies, the limits, the coincidence settings, the buffers and
the vectors are kept (R13, R43, R62, R128, R160, R175, R186). -/
def State.softResetValues (s : State) : State :=
  { s with
    templates := s.templates.map Template.softReset
    sites := Vector.replicate 256 Site.vacantSite
    lists := { s.lists with sweepQueue := [], stopNotices := [] }
    store := { s.store with lines := [], low := false, capture := none }
    engine := Engine.idle
    co := { s.co with table := Vector.replicate 128 none, tableFull := false }
    links := Vector.replicate 8 Link.down
    ex := Exporter.idle s.ex.busTimeout
    port := { s.port with state := .ready, lostGo := false, writeIgnored := false }
    att := { s.att with pendingSet := 0, inService := 0, mask := 0xFFFF } }

def State.setSoftWord (s : State) (v : Word) : State := { s with port := { s.port with softWord := v } }

/-- A write of the soft-reset word (R185): bit 0 set while it is clear begins a soft reset, bit 0 clear while it is set releases it, and
otherwise the write changes the word alone. While the power-on reset input is low the write is ignored (log entry 6). -/
def State.softWordWritten (s : State) (v : Word) : State :=
  if s.porHeld then s
  else if s.port.softWord.getLsbD 0 then
    if v.getLsbD 0 then s.setSoftWord v else (s.setSoftWord v).finish
  else if v.getLsbD 0 then s.catchUp.softResetValues.setSoftWord v
  else (s.catchUp.setSoftWord v).finish

/-- The power-on reset input rises: the reset ends (R186). -/
def State.powerOnRelease (s : State) : State := if s.porHeld then ({ s with porHeld := false } : State).finish else s

end Sys2Proof.Machine
end

