-- ==== Sys2Proof/Machine/RequestCommands.lean ====
section
/-! DEFINITION. The service of each request as a command: directly by its owner at the GO that hands it over, or at a grant of the host-request class (R65, R177; log entries 1 and 2). -/

namespace Sys2Proof.Machine

/-- LOAD_TEMPLATE (R9), served directly at its GO (R177). -/
def execLoadTemplate (s : State) : Host.Outcome State Fault Refusal := .next (s.directRow .loadTemplate)

/-- QUERY_TEMPLATE (R11), served directly at its GO (R177). -/
def execQueryTemplate (s : State) : Host.Outcome State Fault Refusal := .next (s.directRow .queryTemplate)

/-- ARM (R18), served at its grant (R65). -/
def execArm (s : State) : Host.Outcome State Fault Refusal := .next (s.hostRow .arm)

/-- STAGE (R20): served directly at the GO, or at a grant when the GO routed it to a VACANT site (R65, R177). -/
def execStage (s : State) : Host.Outcome State Fault Refusal :=
  .next (if s.catchUp.goServes .stage then s.directRow .stage else s.hostRow .stage)

/-- UNSTAGE (R21), served directly at its GO (R177). -/
def execUnstage (s : State) : Host.Outcome State Fault Refusal := .next (s.directRow .unstage)

/-- DISARM (R19), served at its grant (R65). -/
def execDisarm (s : State) : Host.Outcome State Fault Refusal := .next (s.hostRow .disarm)

/-- START_SITES (R23), served directly at its GO (R177). -/
def execStartSites (s : State) : Host.Outcome State Fault Refusal := .next (s.directRow .startSites)

/-- CLOSE (R27), served directly at its GO (R177). -/
def execClose (s : State) : Host.Outcome State Fault Refusal := .next (s.directRow .close)

/-- ABORT (R35), served at its grant (R65). -/
def execAbort (s : State) : Host.Outcome State Fault Refusal := .next (s.hostRow .abort)

/-- HOLD_SITE (R25), served directly at its GO (R177). -/
def execHoldSite (s : State) : Host.Outcome State Fault Refusal := .next (s.directRow .holdSite)

/-- RELEASE_HOLD (R25), served directly at its GO (R177). -/
def execReleaseHold (s : State) : Host.Outcome State Fault Refusal := .next (s.directRow .releaseHold)

/-- QUERY_SITE (R42), served directly at its GO (R177). -/
def execQuerySite (s : State) : Host.Outcome State Fault Refusal := .next (s.directRow .querySite)

/-- TAKE_STOP_NOTICES (R41), served directly at its GO (R177). -/
def execTakeStopNotices (s : State) : Host.Outcome State Fault Refusal := .next (s.directRow .takeStopNotices)

/-- QUERY_INTEGRITY (R60), served directly at its GO (R177). -/
def execQueryIntegrity (s : State) : Host.Outcome State Fault Refusal := .next (s.directRow .queryIntegrity)

/-- LOOKUP_LINE (R132), served at its grant (R65). -/
def execLookupLine (s : State) : Host.Outcome State Fault Refusal := .next (s.hostRow .lookupLine)

/-- LIST_LINES (R133), served at its grant (R65). -/
def execListLines (s : State) : Host.Outcome State Fault Refusal := .next (s.hostRow .listLines)

/-- PIN_LINE (R135), served at its grant (R65). -/
def execPinLine (s : State) : Host.Outcome State Fault Refusal := .next (s.hostRow .pinLine)

/-- RETIRE_LINE (R137), served at its grant (R65). -/
def execRetireLine (s : State) : Host.Outcome State Fault Refusal := .next (s.hostRow .retireLine)

/-- MARK_SPARE_DEFECTIVE (R138), served at its grant (R65). -/
def execMarkSpareDefective (s : State) : Host.Outcome State Fault Refusal := .next (s.hostRow .markSpareDefective)

/-- SET_COINCIDENCE (R123), served directly at its GO (R177). -/
def execSetCoincidence (s : State) : Host.Outcome State Fault Refusal := .next (s.directRow .setCoincidence)

/-- LIST_COINCIDENCE (R124), served directly at its GO (R177). -/
def execListCoincidence (s : State) : Host.Outcome State Fault Refusal := .next (s.directRow .listCoincidence)

/-- CLEAR_TRIP (R125), served directly at its GO (R177). -/
def execClearTrip (s : State) : Host.Outcome State Fault Refusal := .next (s.directRow .clearTrip)

/-- QUERY_COINCIDENCE (R126), served directly at its GO (R177). -/
def execQueryCoincidence (s : State) : Host.Outcome State Fault Refusal := .next (s.directRow .queryCoincidence)

/-- LINK_ENABLE (R144), served directly at its GO (R177). -/
def execLinkEnable (s : State) : Host.Outcome State Fault Refusal := .next (s.directRow .linkEnable)

/-- LINK_RESET (R158), served directly at its GO (R177). -/
def execLinkReset (s : State) : Host.Outcome State Fault Refusal := .next (s.directRow .linkReset)

/-- QUERY_LINK (R157), served directly at its GO (R177). -/
def execQueryLink (s : State) : Host.Outcome State Fault Refusal := .next (s.directRow .queryLink)

/-- GIVE_EXPORT_CHAIN (R165), served directly at its GO (R177). -/
def execGiveExportChain (s : State) : Host.Outcome State Fault Refusal := .next (s.directRow .giveExportChain)

/-- FLUSH_EXPORT (R170), served directly at its GO (R177). -/
def execFlushExport (s : State) : Host.Outcome State Fault Refusal := .next (s.directRow .flushExport)

/-- RESUME_EXPORT (R171), served directly at its GO (R177). -/
def execResumeExport (s : State) : Host.Outcome State Fault Refusal := .next (s.directRow .resumeExport)

/-- ABANDON_BUFFER (R172), served directly at its GO (R177). -/
def execAbandonBuffer (s : State) : Host.Outcome State Fault Refusal := .next (s.directRow .abandonBuffer)

/-- QUERY_EXPORT (R173), served directly at its GO (R177). -/
def execQueryExport (s : State) : Host.Outcome State Fault Refusal := .next (s.directRow .queryExport)

/-- SET_LIMITS (R179), served directly at its GO (R177). -/
def execSetLimits (s : State) : Host.Outcome State Fault Refusal := .next (s.directRow .setLimits)

/-- QUERY_PART (R180), served directly at its GO (R177). -/
def execQueryPart (s : State) : Host.Outcome State Fault Refusal := .next (s.directRow .queryPart)

/-- SET_ATTENTION (R184), served directly at its GO (R177). -/
def execSetAttention (s : State) : Host.Outcome State Fault Refusal := .next (s.directRow .setAttention)

end Sys2Proof.Machine
end

