-- ==== Sys2Proof/Machine/Window.lean ====
section
/-! DEFINITION. The register window: which command a host write is, and what a host read returns (section 11, R176, R182, R183, R185). -/

namespace Sys2Proof.Machine

/-- The command that a host write of the window word at a byte offset is (R176, R183, R185). Port control takes a value with bit 1 set
as RELEASE, else with bit 0 set as GO, and ignores any other. -/
def commandOfWrite (offset : Nat) (v : Word) : Instr :=
  if h : offset / 4 < 16 then .requestBufferWrite ⟨offset / 4, h⟩ v
  else if offset = 0x80 then if v.getLsbD 1 then .release else if v.getLsbD 0 then .go else .ignoredWrite offset v
  else if offset = 0x88 then if v.getLsbD 0 then .softReset v else .softResetRelease v
  else if offset = 0x90 then .eos
  else .ignoredWrite offset v

/-- A field of a reply word that reads as 0 whatever its place (R178). -/
def ReplyField.readsZero : ReplyField → Bool
  | .zero | .num 0 | .flag false => true
  | _ => false

/-- The bits of a reply word (log entry 9): 0 when every field reads as 0, the number itself when it is the word's one field, and a free
packing otherwise. -/
def ReplyWord.bits (w : ReplyWord) : Word :=
  if w.all ReplyField.readsZero then 0
  else
    match w with
    | [.num n] => BitVec.ofNat 32 n
    | [.slots b] => b
    | w => Config.packReplyWord w

/-- What a host read of a window word other than ACK returns (R176, R182, R183, R185); it changes nothing. ACK is a command. -/
def State.readWindow (s : State) (offset : Nat) : Word :=
  if h : offset / 4 < 16 then s.port.requestBuf[offset / 4]
  else if h : offset / 4 - 16 < 16 then ReplyWord.bits s.port.replyBuf[offset / 4 - 16]
  else if offset = 0x84 then Config.packPortStatus s.port.state s.port.lostGo s.port.writeIgnored (s.port.softWord.getLsbD 0)
  else if offset = 0x88 then s.port.softWord
  else if offset = 0x90 then s.att.inService.setWidth 32
  else if offset = 0x94 then Config.packAttentionStatus s.att.pendingSet s.att.mask
  else 0

/-- What a host read of the window returns: the read finds the grant that is due made, as any event does (log entries 1 and 22). -/
def State.hostRead (s : State) (offset : Nat) : Word := s.catchUp.readWindow offset

/-- The attention line as the host sees it, with the grant that is due made (R182, log entry 1). -/
def State.attentionPin (s : State) : Bool := s.catchUp.attentionLine

end Sys2Proof.Machine
end

