-- ==== Sys2Proof/Machine/WindowCommands.lean ====
section
/-! DEFINITION. The commands of the window and of the two reset inputs: POWER_ON_RESET to IGNORED_WRITE, and POWER_ON_RESET_RELEASE (R176, R177, R182, R183, R185, R186). -/

namespace Sys2Proof.Machine

/-- POWER_ON_RESET (R13, R43, R62, R68, R128, R160, R175, R186). -/
def execPowerOnReset (s : State) : Host.Outcome State Fault Refusal := .next s.powerOnReset

/-- POWER_ON_RESET_RELEASE (R186). -/
def execPowerOnResetRelease (s : State) : Host.Outcome State Fault Refusal := .next s.powerOnRelease

/-- SOFT_RESET: a host write of the soft-reset word with bit 0 set (R185). -/
def execSoftReset (value : Word) (s : State) : Host.Outcome State Fault Refusal := .next (s.softWordWritten value)

/-- SOFT_RESET_RELEASE: a host write of the soft-reset word with bit 0 clear (R185). -/
def execSoftResetRelease (value : Word) (s : State) : Host.Outcome State Fault Refusal := .next (s.softWordWritten value)

/-- REQUEST_BUFFER_WRITE (R176). -/
def execRequestBufferWrite (index : Fin 16) (value : Word) (s : State) : Host.Outcome State Fault Refusal :=
  .next (s.atEvent fun s => s.requestWordWritten index value)

/-- GO (R176, R177). -/
def execGo (s : State) : Host.Outcome State Fault Refusal := .next (s.atEvent State.goWritten)

/-- RELEASE (R176). -/
def execRelease (s : State) : Host.Outcome State Fault Refusal := .next (s.atEvent State.releaseWritten)

/-- A read of ACK: the vector returned stands in `busRead`, and the acknowledged source joins the in-service set (R182). -/
def State.ackRead (s : State) : State := { s with busRead := s.att.ackVector, att := s.att.acknowledge }

/-- ACK (R182); the default vector while the part is held in reset (R185). -/
def execAck (s : State) : Host.Outcome State Fault Refusal :=
  if s.isHeld then .next { s with busRead := s.att.defaultVector } else .next (s.atEvent State.ackRead)

/-- EOS (R183). -/
def execEos (s : State) : Host.Outcome State Fault Refusal := .next (s.atEvent fun s => { s with att := s.att.endService })

/-- IGNORED_WRITE: the write changes nothing (R176, R182, R185). -/
def execIgnoredWrite (_offset : Nat) (_value : Word) (s : State) : Host.Outcome State Fault Refusal := .next (s.atEvent fun s => s)

end Sys2Proof.Machine
end

