-- ==== Sys2Proof/Machine/Dispatch.lean ====
section
/-! DEFINITION. One arm for each command: its meaning, on everything but the queue. -/

namespace Sys2Proof.Machine

def exec (i : Instr) (s : State) : Host.Outcome State Fault Refusal :=
  match i with
  | .powerOnReset => Sys2Proof.Machine.execPowerOnReset s
  | .softReset value => Sys2Proof.Machine.execSoftReset value s
  | .softResetRelease value => Sys2Proof.Machine.execSoftResetRelease value s
  | .requestBufferWrite index value => Sys2Proof.Machine.execRequestBufferWrite index value s
  | .go => Sys2Proof.Machine.execGo s
  | .release => Sys2Proof.Machine.execRelease s
  | .ack => Sys2Proof.Machine.execAck s
  | .eos => Sys2Proof.Machine.execEos s
  | .ignoredWrite offset value => Sys2Proof.Machine.execIgnoredWrite offset value s
  | .loadTemplate => Sys2Proof.Machine.execLoadTemplate s
  | .queryTemplate => Sys2Proof.Machine.execQueryTemplate s
  | .arm => Sys2Proof.Machine.execArm s
  | .stage => Sys2Proof.Machine.execStage s
  | .unstage => Sys2Proof.Machine.execUnstage s
  | .disarm => Sys2Proof.Machine.execDisarm s
  | .startSites => Sys2Proof.Machine.execStartSites s
  | .close => Sys2Proof.Machine.execClose s
  | .abort => Sys2Proof.Machine.execAbort s
  | .holdSite => Sys2Proof.Machine.execHoldSite s
  | .releaseHold => Sys2Proof.Machine.execReleaseHold s
  | .querySite => Sys2Proof.Machine.execQuerySite s
  | .takeStopNotices => Sys2Proof.Machine.execTakeStopNotices s
  | .queryIntegrity => Sys2Proof.Machine.execQueryIntegrity s
  | .lookupLine => Sys2Proof.Machine.execLookupLine s
  | .listLines => Sys2Proof.Machine.execListLines s
  | .pinLine => Sys2Proof.Machine.execPinLine s
  | .retireLine => Sys2Proof.Machine.execRetireLine s
  | .markSpareDefective => Sys2Proof.Machine.execMarkSpareDefective s
  | .setCoincidence => Sys2Proof.Machine.execSetCoincidence s
  | .listCoincidence => Sys2Proof.Machine.execListCoincidence s
  | .clearTrip => Sys2Proof.Machine.execClearTrip s
  | .queryCoincidence => Sys2Proof.Machine.execQueryCoincidence s
  | .linkEnable => Sys2Proof.Machine.execLinkEnable s
  | .linkReset => Sys2Proof.Machine.execLinkReset s
  | .queryLink => Sys2Proof.Machine.execQueryLink s
  | .giveExportChain => Sys2Proof.Machine.execGiveExportChain s
  | .flushExport => Sys2Proof.Machine.execFlushExport s
  | .resumeExport => Sys2Proof.Machine.execResumeExport s
  | .abandonBuffer => Sys2Proof.Machine.execAbandonBuffer s
  | .queryExport => Sys2Proof.Machine.execQueryExport s
  | .setLimits => Sys2Proof.Machine.execSetLimits s
  | .queryPart => Sys2Proof.Machine.execQueryPart s
  | .setAttention => Sys2Proof.Machine.execSetAttention s
  | .helloReceived head serial slotCount level => Sys2Proof.Machine.execHelloReceived head serial slotCount level s
  | .failReceived head slot domain rawRow rawColumn runLess1 => Sys2Proof.Machine.execFailReceived head slot domain rawRow rawColumn runLess1 s
  | .endReceived head slot => Sys2Proof.Machine.execEndReceived head slot s
  | .holdReceived head slot on => Sys2Proof.Machine.execHoldReceived head slot on s
  | .badFrameReceived head => Sys2Proof.Machine.execBadFrameReceived head s
  | .trainingDeadline head => Sys2Proof.Machine.execTrainingDeadline head s
  | .drainDeadline site => Sys2Proof.Machine.execDrainDeadline site s
  | .busTimeout => Sys2Proof.Machine.execBusTimeout s
  | .frameSent head => Sys2Proof.Machine.execFrameSent head s
  | .descriptorReadAccepted data => Sys2Proof.Machine.execDescriptorReadAccepted data s
  | .recordWordAccepted => Sys2Proof.Machine.execRecordWordAccepted s
  | .writeBackAccepted => Sys2Proof.Machine.execWriteBackAccepted s
  | .assemblyCompletion => Sys2Proof.Machine.execAssemblyCompletion s
  | .workItemComplete => Sys2Proof.Machine.execWorkItemComplete s
  | .sweepStep => Sys2Proof.Machine.execSweepStep s
  | .settleStep => Sys2Proof.Machine.execSettleStep s
  | .failFrameTaken => Sys2Proof.Machine.execFailFrameTaken s
  | .endTaken => Sys2Proof.Machine.execEndTaken s
  | .holdTaken => Sys2Proof.Machine.execHoldTaken s
  | .linkLostMarkerTaken => Sys2Proof.Machine.execLinkLostMarkerTaken s
  | .powerOnResetRelease => Sys2Proof.Machine.execPowerOnResetRelease s

end Sys2Proof.Machine
end

