-- ==== Sys2Proof/Machine/Frames.lean ====
section
/-! DEFINITION. Head-link frames as bytes: the check byte, the judgment of a received frame as a command, and the downstream frames (R187). -/

namespace Sys2Proof.Machine

/-- A frame as the receiver hands it over: its eight bytes, byte 0 first, and the mark of a framing fault (R187). -/
structure RawFrame where
  bytes : Vector Byte 8
  framingFault : Bool
  deriving DecidableEq, Repr

/-- One bit of the CRC-8 with polynomial x⁸ + x² + x + 1, most significant bit first (R187). -/
def crcBit (c : Byte) : Byte := if c.msb then (c <<< 1) ^^^ 0x07 else c <<< 1

/-- One byte of the CRC-8 (R187). -/
def crcByte (c b : Byte) : Byte := crcBit (crcBit (crcBit (crcBit (crcBit (crcBit (crcBit (crcBit (c ^^^ b))))))))

/-- The check byte over some bytes in the order sent: initial value FFh, no final inversion (R187). -/
def checkByte (bs : List Byte) : Byte := bs.foldl crcByte 0xFF

/-- A frame of seven bytes with its check byte. -/
def frameOf (b0 b1 b2 b3 b4 b5 b6 : Byte) : RawFrame :=
  { bytes := #v[b0, b1, b2, b3, b4, b5, b6, checkByte [b0, b1, b2, b3, b4, b5, b6]], framingFault := false }

/-- The check byte of a frame matches its contents (R142, R187). -/
def RawFrame.checked (f : RawFrame) : Bool :=
  f.bytes[7] == checkByte [f.bytes[0], f.bytes[1], f.bytes[2], f.bytes[3], f.bytes[4], f.bytes[5], f.bytes[6]]

/-- The slot field, bits 0 to 4 of byte 1 (R187). -/
def RawFrame.slot (f : RawFrame) : SlotNo := ⟨f.bytes[1].toNat % 32, by omega⟩

/-- The command that a received frame is (R147, R187): a frame with a framing fault, a wrong check byte or an unknown kind is bad. -/
def commandOfFrame (h : HeadNo) (f : RawFrame) : Instr :=
  if f.framingFault || !f.checked then .badFrameReceived h
  else if f.bytes[0] = 0x01 then .helloReceived h (f.bytes[2] ++ f.bytes[1]) f.bytes[3] f.bytes[4]
  else if f.bytes[0] = 0x02 then
    .failReceived h f.slot ⟨f.bytes[2].toNat % 16, by omega⟩ (f.bytes[4] ++ f.bytes[3]) ((f.bytes[6] ++ f.bytes[5]).setWidth 12)
      ⟨f.bytes[2].toNat / 16, by have := f.bytes[2].isLt; omega⟩
  else if f.bytes[0] = 0x03 then .endReceived h f.slot
  else if f.bytes[0] = 0x04 then .holdReceived h f.slot (f.bytes[2].getLsbD 0)
  else .badFrameReceived h

/-- The frame a head sends for each upstream kind, reserved places 0 (R187). -/
def helloFrame (serial : BitVec 16) (slotCount level : Byte) : RawFrame :=
  frameOf 0x01 (serial.extractLsb' 0 8) (serial.extractLsb' 8 8) slotCount level 0 0

def UpFrame.raw : UpFrame → RawFrame
  | .fail sl d row col len =>
    frameOf 0x02 (BitVec.ofNat 8 sl.val) (BitVec.ofNat 8 (d.val + 16 * len.val)) (row.extractLsb' 0 8) (row.extractLsb' 8 8)
      (col.extractLsb' 0 8) ((col.extractLsb' 8 4).setWidth 8)
  | .endFrame sl => frameOf 0x03 (BitVec.ofNat 8 sl.val) 0 0 0 0 0
  | .hold sl on => frameOf 0x04 (BitVec.ofNat 8 sl.val) (if on then 1 else 0) 0 0 0 0

/-- The bytes the 2480 sends for a downstream frame (R187). -/
def DownFrame.raw : DownFrame → RawFrame
  | .gate set => frameOf 0x81 (set.extractLsb' 0 8) (set.extractLsb' 8 8) (set.extractLsb' 16 8) (set.extractLsb' 24 8) 0 0
  | .credit n => frameOf 0x82 (BitVec.ofNat 8 n) 0 0 0 0 0
  | .drain sl => frameOf 0x83 (BitVec.ofNat 8 sl.val) 0 0 0 0 0

end Sys2Proof.Machine
end

