-- ==== Sys2Proof/Safety.lean ====
section
/-! DEFINITION. What counts as safe, the invariants that the rules state of the part, and the blocks a frame speaks of. -/

namespace Sys2Proof.Machine

/-- No command stops the part. -/
def NeverStops : Prop := ∀ (c : Instr) (s : State), ∃ t, exec c s = .next t

/-- The commands that are events of their own: accesses of the window, arrivals, expiries, acceptances and completions; the others are
the rows of the requests, the grants, and the reset inputs. -/
def isEvent : Instr → Bool
  | .softReset _ | .softResetRelease _ | .requestBufferWrite _ _ | .go | .release | .ack | .eos | .ignoredWrite _ _ => true
  | .helloReceived .. | .failReceived .. | .endReceived .. | .holdReceived .. | .badFrameReceived _ => true
  | .trainingDeadline _ | .drainDeadline _ | .busTimeout | .frameSent _ => true
  | .descriptorReadAccepted _ | .recordWordAccepted | .writeBackAccepted | .assemblyCompletion | .workItemComplete => true
  | _ => false

/-- The row of the opcode table for each request. -/
def requestRow : Request → Instr
  | .loadTemplate => .loadTemplate
  | .queryTemplate => .queryTemplate
  | .arm => .arm
  | .stage => .stage
  | .unstage => .unstage
  | .disarm => .disarm
  | .startSites => .startSites
  | .close => .close
  | .abort => .abort
  | .holdSite => .holdSite
  | .releaseHold => .releaseHold
  | .querySite => .querySite
  | .takeStopNotices => .takeStopNotices
  | .queryIntegrity => .queryIntegrity
  | .lookupLine => .lookupLine
  | .listLines => .listLines
  | .pinLine => .pinLine
  | .retireLine => .retireLine
  | .markSpareDefective => .markSpareDefective
  | .setCoincidence => .setCoincidence
  | .listCoincidence => .listCoincidence
  | .clearTrip => .clearTrip
  | .queryCoincidence => .queryCoincidence
  | .linkEnable => .linkEnable
  | .linkReset => .linkReset
  | .queryLink => .queryLink
  | .giveExportChain => .giveExportChain
  | .flushExport => .flushExport
  | .resumeExport => .resumeExport
  | .abandonBuffer => .abandonBuffer
  | .queryExport => .queryExport
  | .setLimits => .setLimits
  | .queryPart => .queryPart
  | .setAttention => .setAttention

/-- The commands that act while the part is held in reset: the reset inputs and ACK (R185). -/
def reachesHeldPart : Instr → Bool
  | .powerOnReset | .powerOnResetRelease | .softReset _ | .softResetRelease _ | .ack => true
  | _ => false

/-- R182: source n is pending, not masked, and outranks every in-service source and every other pending unmasked one. -/
def Attention.wins (a : Attention) (n : Fin 16) : Prop :=
  a.pendingSet.getLsbD n.val = true ∧ a.mask.getLsbD n.val = false ∧ (∀ m : Fin 16, a.inService.getLsbD m.val = true → n.val < m.val) ∧
    ∀ m : Fin 16, m.val < n.val → a.pendingSet.getLsbD m.val = true → a.mask.getLsbD m.val = true

/-! ### Invariants -/

/-- R153: while the link is UP, FIFO occupancy, pending credit count and credit balance add up to 64. -/
def Link.creditLaw (l : Link) : Prop := l.state = .up → l.fifo.length + l.pendingCredit + l.balance = 64

/-- While the link is not UP nothing waits or is in flight downstream and no credit is held (R150, R154, R155, R158, R160). -/
def Link.quietUnlessUp (l : Link) : Prop :=
  l.state ≠ .up → l.downGate = none ∧ l.downCredit = none ∧ l.drains = [] ∧ l.transmitter = none ∧ l.balance = 0

/-- Every link obeys the credit law and is quiet unless UP, and a DOWN or TRAINING link holds no frame and no marker (R146, R153). -/
def Link.ordered (l : Link) : Prop :=
  l.creditLaw ∧ l.quietUnlessUp ∧ (l.state = .down ∨ l.state = .training → l.fifo = [] ∧ l.marker = false)

/-- The training deadline is present exactly in TRAINING (R142, R145). -/
def Link.timedInTraining (l : Link) : Prop := l.trainingDeadline.isSome = true ↔ l.state = .training

/-- R46: the in-use records stand in strictly rising key order, so no two have one key. -/
abbrev keysRise (ls : List LineRec) : Prop := ls.Pairwise fun a b => a.key.rank < b.key.rank

/-- R56: the low indication stands as judged, and the mark lies in its range. -/
structure State.LowStands (s : State) : Prop where
  mark : s.store.lowWater ≤ 12288
  judged : s.store.low = lowJudged s.freeCount s.store.lowWater s.store.low

/-- R44, R46 and R56 with what makes them last: one record to a key and one to a record index of 0 to 12,287, so never more than 12,288 in use,
the low indication as judged, records of sites with a current context alone (R53), and no staged carry-in list that names an entry twice
(R18, R20). -/
structure State.LinesIndexed (s : State) : Prop where
  order : keysRise s.store.lines
  indices : (s.store.lines.map (·.index)).Nodup
  numbered : ∀ r ∈ s.store.lines, r.index < 12288
  room : s.store.lines.length ≤ 12288
  low : s.LowStands
  owned : ∀ r ∈ s.store.lines, s.ctx r.key.site ≠ none
  staged : ∀ (i : SiteNo) (x : Staged), (s.site i).staged = some x → x.carryIn.Nodup

/-- R182: a level source is pending exactly while its condition holds and it is not in service. -/
def State.levelsJudged (s : State) : Prop :=
  ∀ n : Fin 16, isEventSource n.val = false → s.att.pendingSet.getLsbD n.val = (s.levelCondition n && !s.att.inService.getLsbD n.val)

/-- What holds between events while the part runs: every UP link has the gate set handed over (R24), no IDLE transmitter of an UP link
leaves an entry waiting (R155), a record that can be written is being written (R167), no assembly that can begin waits (R166), the
free initiator leaves no access due (R164), and the level sources are judged (R182). -/
structure State.Settled (s : State) : Prop where
  gates : ∀ h, (s.link h).state = .up → (s.link h).gateHanded = s.gateSet h
  transmitters : ∀ h, (s.link h).state = .up → (s.link h).transmitter = none →
    (s.link h).downGate = none ∧ (s.link h).drains = [] ∧ (s.link h).downCredit = none
  write : s.ex.beginWrite = s.ex
  assembly : s.ex.beginAssembly = s.ex
  initiator : s.ex.access = none → s.ex.stall = none → s.ex.nextAccess = none
  levels : s.levelsJudged

/-- The part runs, and nothing is due or waits for its turn: the state in which the next event from outside finds it. -/
structure State.Ready (s : State) : Prop where
  running : s.isHeld = false
  idle : s.due = .nothing
  settled : s.Settled

/-- R36 and R111: a site is in the Sweep Queue, once, exactly while it is SWEEPING, and in the Collection Queue, once, exactly while it
is HELD; the record and the assembly of the Export Engine are of sites in the Collection Queue, never both at once (R166, R168). -/
structure State.QueuesAgree (s : State) : Prop where
  sweepOnce : s.lists.sweepQueue.Nodup
  sweeping : ∀ i, i ∈ s.lists.sweepQueue ↔ s.siteState i = .sweeping
  collectOnce : s.ex.collectionQueue.Nodup
  held : ∀ i, i ∈ s.ex.collectionQueue ↔ s.siteState i = .held
  record : ∀ r, s.ex.buffer = some r → r.site ∈ s.ex.collectionQueue
  assembly : ∀ i, s.ex.assembling = some i → i ∈ s.ex.collectionQueue ∧ s.ex.buffer = none

/-- R65, R176 to R178: the port is RUNNING exactly while a request waits for its grant or a granted one is the work item in progress, and no
request waits beside one in progress. -/
structure State.RequestAgrees (s : State) : Prop where
  running : s.port.state = .running ↔ s.engine.pendingHost ≠ none ∨ ∃ reply, s.engine.inProgress = some (.host reply)
  one : s.engine.pendingHost ≠ none → ∀ reply, s.engine.inProgress ≠ some (.host reply)

/-! ### Frames -/

/-- The parts of the state that a frame names one by one; together they are all of it. -/
inductive Block where
  | templates | sites | sweepQueue | stopNotices | drainTimeout | lines | defaultQuota | lowWater | low | capture
  | pendingHost | rotation | workItem | settleList | sweepPos | coTable | coSettings | tableFull | links | trainingTimeout
  | export_ | collectionQueue | busTimeout | portState | portFlags | requestBuf | replyBuf | softWord
  | pendingSet | inService | mask | vectors | power | queue | busRead | clock
  deriving DecidableEq, Repr

/-- Two states agree on a block; `clock` is the model's time and its counter of free values, `export_` the Export Engine but for its
Collection Queue and its bus timeout. -/
def Block.same (s t : State) : Block → Prop
  | .templates => t.templates = s.templates
  | .sites => t.sites = s.sites
  | .sweepQueue => t.lists.sweepQueue = s.lists.sweepQueue
  | .stopNotices => t.lists.stopNotices = s.lists.stopNotices
  | .drainTimeout => t.lists.drainTimeout = s.lists.drainTimeout
  | .lines => t.store.lines = s.store.lines
  | .defaultQuota => t.store.defaultQuota = s.store.defaultQuota
  | .lowWater => t.store.lowWater = s.store.lowWater
  | .low => t.store.low = s.store.low
  | .capture => t.store.capture = s.store.capture
  | .pendingHost => t.engine.pendingHost = s.engine.pendingHost
  | .rotation => t.engine.lastGroup = s.engine.lastGroup ∧ t.engine.lastHead = s.engine.lastHead
  | .workItem => t.engine.inProgress = s.engine.inProgress
  | .settleList => t.engine.settleList = s.engine.settleList
  | .sweepPos => t.engine.sweepPos = s.engine.sweepPos
  | .coTable => t.co.table = s.co.table
  | .coSettings => t.co.threshold = s.co.threshold ∧ t.co.span = s.co.span ∧ t.co.action = s.co.action
  | .tableFull => t.co.tableFull = s.co.tableFull
  | .links => t.links = s.links
  | .trainingTimeout => t.trainingTimeout = s.trainingTimeout
  | .export_ => { t.ex with collectionQueue := [], busTimeout := 0 } = { s.ex with collectionQueue := [], busTimeout := 0 }
  | .collectionQueue => t.ex.collectionQueue = s.ex.collectionQueue
  | .busTimeout => t.ex.busTimeout = s.ex.busTimeout
  | .portState => t.port.state = s.port.state
  | .portFlags => t.port.lostGo = s.port.lostGo ∧ t.port.writeIgnored = s.port.writeIgnored
  | .requestBuf => t.port.requestBuf = s.port.requestBuf
  | .replyBuf => t.port.replyBuf = s.port.replyBuf
  | .softWord => t.port.softWord = s.port.softWord
  | .pendingSet => t.att.pendingSet = s.att.pendingSet
  | .inService => t.att.inService = s.att.inService
  | .mask => t.att.mask = s.att.mask
  | .vectors => t.att.vectors = s.att.vectors ∧ t.att.defaultVector = s.att.defaultVector
  | .power => t.porHeld = s.porHeld
  | .queue => t.pending = s.pending
  | .busRead => t.busRead = s.busRead
  | .clock => t.now = s.now ∧ t.freeIx = s.freeIx

/-- Every block but the named ones is as it was. -/
def FrameBut (changed : List Block) (s t : State) : Prop := ∀ b, b ∉ changed → b.same s t

/-! ### Answers -/

/-- The port is READY and the request buffer holds request `r`, which a GO hands to an owner that serves it directly (R176, R177). -/
structure State.GoServes (s : State) (r : Request) : Prop where
  ready : s.Ready
  port : s.port.state = .ready
  code : requestOfCode (s.param 0) = some r
  direct : s.needsGrant r = false

/-- The part runs, every event so far has had its consequences, and the next grant is that of the pending host request `r` (R65). -/
structure State.HostDue (s : State) (r : Request) : Prop where
  due : s.due = .host r
  settled : s.Settled

/-- The reply posted in u (R178). -/
structure State.Posted (u : State) (reply : Reply) : Prop where
  state : u.port.state = .replied
  buffer : u.port.replyBuf = reply.buffer
  event : u.att.pendingSet.getLsbD 15 = true

/-- The pending set of u is that of s with the level sources judged anew (R182); the event sources but the named ones are as they were. -/
structure State.SourcesKept (s u : State) (raised : List Nat) : Prop where
  levels : u.levelsJudged
  events : ∀ n : Fin 16, isEventSource n.val = true → n.val ∉ raised → u.att.pendingSet.getLsbD n.val = s.att.pendingSet.getLsbD n.val

/-- From s to u a request served directly is answered with `reply`; of everything else the named blocks alone may change (R177, R178). -/
structure State.Answers (s u : State) (reply : Reply) (changed : List Block) : Prop where
  posted : u.Posted reply
  sources : s.SourcesKept u [15]
  frame : FrameBut ([.portState, .replyBuf, .pendingSet] ++ changed) s u

/-- From s to u the pending host request is granted: it leaves its place and becomes the work item in progress, whose reply waits for the
item's completion; of everything else the named blocks alone may change (R65). -/
structure State.Grants (s u : State) (reply : Reply) (changed : List Block) : Prop where
  item : u.engine.inProgress = some (.host reply)
  taken : u.engine.pendingHost = none
  sources : s.SourcesKept u []
  frame : FrameBut ([.pendingHost, .workItem, .pendingSet] ++ changed) s u

/-- From s to u an event has its effect on the named blocks, and the level sources are judged (R182). -/
structure State.Happens (s u : State) (changed : List Block) : Prop where
  sources : s.SourcesKept u []
  frame : FrameBut (.pendingSet :: changed) s u

/-- From s to u a grant of the engine makes `w` the work item in progress; of everything else the named blocks alone may change (R63, R66). -/
structure State.Works (s u : State) (w : WorkItem) (changed : List Block) : Prop where
  item : u.engine.inProgress = some w
  group : u.engine.lastGroup = (if w = .intake then .intake else .background)
  head : w ≠ .intake → u.engine.lastHead = s.engine.lastHead
  sources : s.SourcesKept u []
  frame : FrameBut ([.workItem, .rotation, .pendingSet] ++ changed) s u

/-- The service of the request at its GO posts a refusal and changes nothing else (R178). -/
def State.Refuses (s : State) (c : Instr) (why : Refuse) (words : List ReplyWord := []) : Prop :=
  ∃ u, exec c s = .next u ∧ s.Answers u { status := .refused why, words } []

/-- The grant of the pending host request comes to a refusal and changes nothing else (R65). -/
def State.GrantRefused (s : State) (c : Instr) (why : Refuse) (words : List ReplyWord := []) : Prop :=
  ∃ u, exec c s = .next u ∧ s.Grants u { status := .refused why, words } []

/-- The Export Engine of u is `e` with what follows in the same event: a waiting record begins to be written, an assembly begins, and the
free initiator takes the next access at the time of u (R164, R166, R167). -/
structure Exporter.Followed (e : Exporter) (u : State) : Prop where
  holdings : { u.ex with access := none } = { e.beginWrite.beginAssembly with access := none }
  access : u.ex.access =
    if e.access.isSome || e.stall.isSome then e.access
    else e.beginWrite.beginAssembly.nextAccess.map fun k => { kind := k, deadline := u.now + e.busTimeout * 10 }

/-- Every head's link of u is `f` of its link in s, with what follows in the same event: a changed gate set is handed over and an IDLE
transmitter takes its next entry (R24, R155). -/
def State.LinksFollow (s u : State) (f : HeadNo → Link → Link) : Prop :=
  ∀ h, u.link h = (f h (s.link h)).finished (u.gateSet h)

/-! ### Effects that several rules share, from s to u -/

/-- A context with one per-domain record edited. -/
abbrev Context.editDomain (c : Context) (d : DomainNo) (f : DomainRec → DomainRec) : Context := { c with domains := c.domains.modify d.val f }

/-- A per-domain record with one more spare of an axis assigned (R86). -/
abbrev DomainRec.oneAssigned (a : Axis) (r : DomainRec) : DomainRec := { r with assigned := r.assigned.inc a }

/-- Of all the sites hold, the context of site i alone may differ: it is `f` of what it was. -/
structure State.ContextEdited (s u : State) (i : SiteNo) (f : Context → Context) : Prop where
  site : u.site i = { s.site i with ctx := (s.ctx i).map f }
  others : ∀ j, j ≠ i → u.site j = s.site j

/-- Every record of site i is freed, its Settle List entries go and it leaves every coincidence entry (R55, R121). -/
structure State.SiteEmptied (s u : State) (i : SiteNo) : Prop where
  lines : u.store.lines = s.store.lines.filter fun r => !(r.key.site == i)
  settle : u.engine.settleList = s.engine.settleList.filter fun e => !(e.site == i)
  coincidence : ∀ n : Fin 128, u.co.table[n.val] = match s.co.table[n.val] with
    | none => none
    | some e => if e.members.filter (fun m => !(m == i)) = [] then none else some { e with members := e.members.filter fun m => !(m == i) }

/-- The low indication is the one that R56 gives for the records in use in u. -/
abbrev State.LowFollows (s u : State) : Prop :=
  u.store.low = lowJudged (Config.lineRecords - u.store.lines.length) s.store.lowWater s.store.low

/-- The low indication after an event that takes `taken` records and then frees some: judged at the lowest free count and at the last, so
unchanged where nothing was taken or freed (R51, R52, R56). Stated where the indication stands as judged before (an invariant, O58). -/
def State.LowAfter (s u : State) (taken : Nat) : Prop :=
  s.LowStands → u.store.low = lowJudged u.freeCount s.store.lowWater (lowJudged (s.freeCount - taken) s.store.lowWater s.store.low)

/-- Site i emptied where the records go at one free, so that the low indication is judged once (R56). -/
structure State.SiteFreed (s u : State) (i : SiteNo) : Prop extends s.SiteEmptied u i where
  low : s.LowFollows u

/-- The move of a site that loses its lines (R34). -/
def phaseAfterLoss : Phase → Phase
  | .armed => .sweeping
  | .testing => .draining
  | .sweeping => .held
  | .draining => .draining
  | .held => .held

/-- Site i has lost its lines for the reason `why`: freed, the first reason kept, the Stop Notice `note` posted, the site moved with its
deadline and its queues (R28, R34, R36, R38, R40, R55). What the work item did to the per-domain records before, `edit`, stands (R58). -/
structure State.LinesLost (s u : State) (i : SiteNo) (why : Reason) (note : NoticeReason) (edit : Context → Context) : Prop
    extends s.SiteEmptied u i where
  site : u.site i = { s.site i with
    ctx := (s.ctx i).map fun c => { edit c with phase := phaseAfterLoss c.phase, reason := some (c.reason.getD why) }
    drainDeadline := match s.siteState i with
      | .testing => some (u.now + 10 * s.lists.drainTimeout)
      | .armed => none
      | _ => (s.site i).drainDeadline }
  others : ∀ j, j ≠ i → u.site j = s.site j
  notice : u.lists.stopNotices = noticePosted i note (((s.ctx i).map (·.tag)).getD 0) s.lists.stopNotices
  sweepQueue : u.lists.sweepQueue = match s.siteState i with
    | .armed => s.lists.sweepQueue ++ [i]
    | .sweeping => s.lists.sweepQueue.filter fun j => !(j == i)
    | _ => s.lists.sweepQueue
  collectionQueue : u.ex.collectionQueue = if s.siteState i = .sweeping then s.ex.collectionQueue ++ [i] else s.ex.collectionQueue

/-- Site i has suffered an integrity failure at the read of the record `index` with activity `act`: its lines are lost, and the Integrity
Capture has taken the error and raised INTEGRITY, or set OVERFLOW (R58, R59). -/
structure State.IntegrityLost (s u : State) (i : SiteNo) (index : Nat) (act : Activity) (edit : Context → Context) : Prop
    extends s.LinesLost u i .integrity .integrity edit where
  capture : u.store.capture = some (match s.store.capture with
    | none => { site := i, index, activity := act, overflow := false }
    | some k => { k with overflow := true })
  raised : u.att.pendingSet.getLsbD 0 = (s.att.pendingSet.getLsbD 0 || s.store.capture.isNone)

/-- A sweep position that names site i returns to none when the site leaves SWEEPING, and stays otherwise (R101, R109, R110). -/
abbrev State.SweepPosLeft (s u : State) (i : SiteNo) : Prop :=
  u.engine.sweepPos = if s.siteState i = .sweeping then s.engine.sweepPos.filter fun p => !(p.site == i) else s.engine.sweepPos

/-- A TESTING site that enters DRAINING asks its UP link for a DRAIN frame, once (R28, R154). -/
def State.drainAsked (s : State) (i : SiteNo) (h : HeadNo) (l : Link) : Link :=
  if h = headOf i ∧ s.siteState i = .testing ∧ l.state = .up ∧ slotOf i ∉ l.drains then { l with drains := l.drains ++ [slotOf i] } else l

/-- From s to u a grant that makes `item` the work in progress ends in an integrity failure of site i; of everything else the blocks `also`
alone may change (R58, R63). -/
structure State.GrantLoses (s u : State) (i : SiteNo) (index : Nat) (act : Activity) (edit : Context → Context) (item : WorkItem)
    (also : List Block) : Prop where
  lost : s.IntegrityLost u i index act edit
  item : u.engine.inProgress = some item
  sources : s.SourcesKept u [0]
  links : s.LinksFollow u (s.drainAsked i)
  export_ : ({ s.ex with collectionQueue := u.ex.collectionQueue } : Exporter).Followed u
  frame : FrameBut ([.sites, .sweepQueue, .stopNotices, .lines, .low, .capture, .settleList, .sweepPos, .coTable, .links, .export_, .collectionQueue,
    .clock, .workItem, .pendingSet] ++ also) s u

/-- The grant of the host request `c` meets the damaged record `index` of site i: the site suffers an integrity failure with activity LOOKUP
and the request is refused with INTEGRITY and no line data (R139); `more` is what else holds of the state it leaves. -/
def State.LookupLoses (s : State) (c : Instr) (i : SiteNo) (index : Nat) (edit : Context → Context) (more : State → Prop) : Prop :=
  ∃ u, exec c s = .next u ∧ s.GrantLoses u i index .lookup edit (.host { status := .refused .integrity }) [.pendingHost] ∧
    u.engine.pendingHost = none ∧ s.SweepPosLeft u i ∧ more u

/-- The partner of line `k` at address `x` of the other axis. -/
def State.partnerAt (s : State) (k : Key) (x : LineAddr) : Option LineRec := s.findLine { k with axis := k.axis.other, addr := x }

/-- Every partner that the addresses `l` name for line `k` passes its check. -/
def State.partnersSound (s : State) (k : Key) (l : List LineAddr) : Prop := ∀ x ∈ l, ∀ p, s.partnerAt k x = some p → p.syndrome = 0

/-- `p` is the first damaged partner that work over the list of line `l` reads (R87). -/
def State.firstBadPartner (s : State) (l p : LineRec) : Prop :=
  ∃ pre x post, l.cross = pre ++ x :: post ∧ s.partnersSound l.key pre ∧ s.partnerAt l.key x = some p ∧ p.syndrome ≠ 0

/-- The Coincidence Unit has been told of the MUST assignment of line `k`: its entries, the flags and host holds of the sites and the Stop
Notices are those that R118 to R120 give (State.coJoin, O23); the context of the line's own site is `edit` of that. -/
structure State.ToldOfMust (s u : State) (k : Key) (edit : Context → Context) : Prop where
  entries : u.co = (s.coJoin k.site k.domain k.axis k.addr).co
  notices : u.lists.stopNotices = (s.coJoin k.site k.domain k.axis k.addr).lists.stopNotices
  sites : (s.coJoin k.site k.domain k.axis k.addr).ContextEdited u k.site edit

/-- Template t loses one use; at use count 0 its pending copy becomes the active one (R6, R8). -/
structure State.TemplateFreed (s u : State) (t : TemplateNo) : Prop where
  counted : 1 < (s.template t).useCount → u.template t = { s.template t with useCount := (s.template t).useCount - 1 }
  last : (s.template t).useCount ≤ 1 → u.template t = match (s.template t).pendingCopy with
    | some g => { active := some g, pendingCopy := none, useCount := 0 }
    | none => { s.template t with useCount := 0 }
  others : ∀ k, k ≠ t → u.template k = s.template k

/-- Context x has become current at site i on the copy g (R6, R7, R16, R17). -/
structure State.MadeCurrent (s u : State) (i : SiteNo) (x : Staged) (g : Geometry) : Prop where
  template : u.template x.template = { s.template x.template with useCount := (s.template x.template).useCount + 1 }
  templates : ∀ t, t ≠ x.template → u.template t = s.template t
  context : ∃ c, u.ctx i = some c ∧ c.phase = .armed ∧ c.tag = x.tag ∧ c.template = x.template ∧ c.geometry = g ∧ c.policy = x.policy ∧
    c.quota = x.quota.getD s.store.defaultQuota ∧ c.reason = none ∧ c.flags = {} ∧ c.doomed = false ∧ c.domains.length = g.domainCount ∧
    ∀ (d : DomainNo) (r : DomainRec), c.domains[d.val]? = some r →
      r = { state := .opened, base := ⟨g.spareRows, g.spareColumns⟩, defective := ⟨0, 0⟩, failTotal := 0,
            assigned := ⟨(x.carryIn.filter fun e => e.domain == d && e.axis == .row).length,
                         (x.carryIn.filter fun e => e.domain == d && e.axis == .column).length⟩ }
  holds : (u.site i).hostHold = false ∧ (u.site i).headHold = (s.site i).headHold ∧ (u.site i).drainDeadline = none
  sites : ∀ j, j ≠ i → u.site j = s.site j
  lines : ∃ rs : List LineRec, u.store.lines.Perm (rs ++ s.store.lines) ∧
    rs.map (·.key) = x.carryIn.map (fun e => ({ site := i, domain := e.domain, axis := e.axis, addr := e.addr } : Key)) ∧
    ∀ r ∈ rs, r.state = .assigned .carried ∧ r.failCount = 0 ∧ r.cross = [] ∧ r.syndrome = 0
  lowAfter : s.LowAfter u x.carryIn.length
  low : if x.carryIn = [] then u.store.low = s.store.low
    else (u.freeCount < s.store.lowWater → u.store.low = true) ∧ (min (s.store.lowWater + 64) 12288 ≤ u.freeCount → s.store.lowWater ≤ u.freeCount → u.store.low = false)

/-- The line `l` of key `k` has been assigned a spare of its axis with origin `o`: its address has left the list of every partner, a partner
left empty is freed, its own list is empty and the assigned count of its axis has risen; no other line has changed (R86, R87). -/
structure State.Assigned (s u : State) (k : Key) (o : Origin) (l : LineRec) : Prop where
  line : u.findLine k = some { l with state := .assigned o, cross := [], syndrome := 0 }
  partners : ∀ x ∈ l.cross, ∀ p, s.findLine { k with axis := k.axis.other, addr := x } = some p →
    u.findLine { k with axis := k.axis.other, addr := x } =
      if p.cross.filter (fun y => !(y == k.addr)) = [] then none else some { p with cross := p.cross.filter fun y => !(y == k.addr), syndrome := 0 }
  others : ∀ q, q ≠ k → (∀ x ∈ l.cross, q ≠ { k with axis := k.axis.other, addr := x }) → u.findLine q = s.findLine q
  spare : u.domain? k.site k.domain = (s.domain? k.site k.domain).map fun r => { r with assigned := r.assigned.inc k.axis }

/-- The loss of a domain stops site i early: it is TESTING and its policy is STOP (R33). -/
abbrev State.stopsEarly (s : State) (i : SiteNo) : Prop := s.siteState i = .testing ∧ (s.ctx i).map (·.policy) = some .stop

/-- An early stop asks the link of site i for a DRAIN frame (R28, R33). -/
def State.earlyDrain (s : State) (i : SiteNo) (h : HeadNo) (l : Link) : Link := if s.stopsEarly i then s.drainAsked i h l else l

/-- Domain d of site i is lost to repair (R90), its record having been `edit` of what it was when the loss came: UNREPAIRABLE and the site
doomed, with the early stop of R33: EARLY_STOP, DRAINING with its deadline, and the Stop Notice. -/
structure State.DomainLost (s u : State) (i : SiteNo) (d : DomainNo) (edit : DomainRec → DomainRec) : Prop where
  site : u.site i = { s.site i with
    ctx := (s.ctx i).map fun c =>
      let doomed : Context := { c.editDomain d fun r => { edit r with state := .unrepairable } with doomed := true }
      if s.stopsEarly i then { doomed with phase := .draining, flags := { c.flags with earlyStop := true } } else doomed
    drainDeadline := if s.stopsEarly i then some (u.now + 10 * s.lists.drainTimeout) else (s.site i).drainDeadline }
  others : ∀ j, j ≠ i → u.site j = s.site j
  settle : u.engine.settleList = s.engine.settleList.filter fun e => !(e.site == i && e.domain == d)
  notices : u.lists.stopNotices =
    if s.stopsEarly i then noticePosted i .earlyStop (((s.ctx i).map (·.tag)).getD 0) s.lists.stopNotices else s.lists.stopNotices

/-- The store as the loss of domain d of site i leaves it: the CANDIDATE lines of the domain are free (R90). -/
abbrev State.withoutCandidates (s : State) (i : SiteNo) (d : DomainNo) : List LineRec :=
  s.store.lines.filter fun r => !(r.key.site == i && r.key.domain == d && r.state == .candidate)

/-- The link of head h has faulted from UP with consecutive-bad count `bad` and causes `c`, and the Site Controller has been told (R31, R150);
`suspect` says whether the frame that caused it was a bad one (R148). -/
structure State.LinkFaults (s u : State) (h : HeadNo) (bad : Nat) (c : LinkCauses) (suspect : Bool) : Prop where
  link : u.link h = { s.link h with state := .faulted, downGate := none, downCredit := none, drains := [], transmitter := none, balance := 0,
                                    marker := true, badCount := bad, causes := c, gateHanded := 0 }
  links : ∀ k, k ≠ h → u.link k = s.link k
  sites : ∀ i : SiteNo, u.site i = if headOf i = h
    then { s.site i with headHold := false, ctx := (s.ctx i).map fun x => if x.phase = .testing ∨ x.phase = .draining
      then { x with flags := { x.flags with suspect := x.flags.suspect || suspect, linkLost := true } } else x }
    else s.site i

end Sys2Proof.Machine
end

