-- ==== Sys2Proof/Certificates/Slice0/Obligations.lean ====
section
/-! DEFINITION. The statements for the provers. -/

open Sys2Proof Sys2Proof.Machine

/-! ### The queue and the work that is due -/

/-- The block takes the command at the front of its queue and runs it on the queue's rest. -/
def Obligations.StepRunsFrontCommand : Prop :=
  ∀ (c : Instr) (s : State), step { s with pending := c :: s.pending } = exec c s

/-- Every rule gives its event an effect in every state, so no command stops the part. MODEL'S CHOICE (log entry 3): no command touches the
queue, and an empty queue idles. -/
def Obligations.EveryCommandAnswersNext : Prop :=
  NeverStops ∧ (∀ (c : Instr) (s t : State), exec c s = .next t → t.pending = s.pending) ∧ ∀ s : State, s.pending = [] → step s = .next s

/-- MODEL'S CHOICE (log entry 1) over R63 and R65: a grant that is due has been made before any event of its own; afterwards none is due.
The grant made is that of its own row; a STAGE that waits for its grant has the port RUNNING (an invariant, StepKeepsQueuesAgree). -/
def Obligations.EventsFindDueWorkDone : Prop :=
  (∀ s : State, s.catchUp.due = .nothing ∧ ∀ c : Instr, isEvent c = true → exec c s = exec c s.catchUp) ∧
  ∀ s : State,
    (s.due = .nothing → s.catchUp = s) ∧
    (∀ r : Request, s.due = .host r →
      r ∈ [.arm, .disarm, .abort, .lookupLine, .listLines, .pinLine, .retireLine, .markSpareDefective] ∨ (r = .stage ∧ s.port.state = .running) →
      exec (requestRow r) s = .next s.catchUp) ∧
    (s.due = .sweep → exec .sweepStep s = .next s.catchUp) ∧
    (s.due = .settle → exec .settleStep s = .next s.catchUp) ∧
    (∀ h : HeadNo, s.due = .intake h →
      exec (match (s.link h).fifo with
        | .fail .. :: _ => .failFrameTaken
        | .endFrame _ :: _ => .endTaken
        | .hold .. :: _ => .holdTaken
        | [] => .linkLostMarkerTaken) s = .next s.catchUp)

/-! ### Resets -/

/-- R185: while the part is held in reset, a command other than a reset input and ACK changes nothing, and ACK returns the default vector;
a write that sets the soft-reset bit while it is set changes the word alone. -/
def Obligations.HeldPartIgnoresCommands : Prop :=
  (∀ s : State, s.isHeld = (s.porHeld || s.port.softWord.getLsbD 0)) ∧
  ∀ s : State, s.isHeld = true →
    (∀ c : Instr, reachesHeldPart c = false → exec c s = .next s) ∧
    exec .ack s = .next { s with busRead := s.att.defaultVector } ∧
    (s.porHeld = false → ∀ v : Word, v.getLsbD 0 = true → exec (.softReset v) s = .next { s with port := { s.port with softWord := v } })

/-- The values of the power-on column of R13, R43, R62, R68, R128, R160, R175, R186, while the input is low and after its release. That
no work item, assembly or bus access is in progress, which the tables do not name, is log entry 5's (DEDUCED). -/
def Obligations.PowerOnResetValues : Prop :=
  (∀ s : State, (∀ n : TemplateNo, s.template n = s.templates[n.val]) ∧ (∀ i : SiteNo, s.site i = s.sites[i.val] ∧ s.ctx i = (s.site i).ctx) ∧
    (∀ h : HeadNo, s.link h = s.links[h.val]) ∧ (∀ n : Fin 16, s.att.vector n = s.att.vectors[n.val])) ∧
  ∀ s : State, ∃ t u : State, exec .powerOnReset s = .next t ∧ exec .powerOnResetRelease t = .next u ∧
    t.isHeld = true ∧ t.att.pendingSet = 0 ∧ u.isHeld = false ∧ u.att.pendingSet = sourceBit 12 ∧ FrameBut [.power, .pendingSet] t u ∧
    (∀ n : TemplateNo, u.template n = { active := none, pendingCopy := none, useCount := 0 }) ∧
    (∀ i : SiteNo, u.site i = { ctx := none, hostHold := false, staged := none, headHold := false, drainDeadline := none }) ∧
    u.lists = { sweepQueue := [], stopNotices := [], drainTimeout := 1000 } ∧
    u.store = { lines := [], defaultQuota := 48, lowWater := 512, low := false, capture := none } ∧ u.freeCount = 12288 ∧
    u.engine = { pendingHost := none, lastGroup := .background, lastHead := 7, inProgress := none, settleList := [], sweepPos := none } ∧
    (∀ n : Fin 128, u.co.table[n.val] = none) ∧ u.co.threshold = 6 ∧ u.co.span = 4 ∧ u.co.action = .notify ∧ u.co.tableFull = false ∧
    (∀ h : HeadNo, u.link h =
      { state := .down, trainingDeadline := none, serial := 0, slotCount := 0, balance := 0, badCount := 0, fifo := [], marker := false,
        downGate := none, downCredit := none, drains := [], transmitter := none, causes := {}, gateHanded := 0 }) ∧
    u.trainingTimeout = 50000 ∧
    u.ex.engineState = .idle ∧ u.ex.current = .empty ∧ u.ex.nextSlot = .empty ∧ u.ex.fillOffset = none ∧ u.ex.writePos = none ∧
    u.ex.buffer = none ∧ u.ex.assembling = none ∧ u.ex.writeBacks = [] ∧ u.ex.flushPending = false ∧ u.ex.stall = none ∧
    u.ex.badDescriptor = false ∧ u.ex.collectionQueue = [] ∧ u.ex.access = none ∧ u.ex.busTimeout = 20 ∧
    u.port.state = .ready ∧ u.port.lostGo = false ∧ u.port.writeIgnored = false ∧ u.port.softWord = 0 ∧
    (∀ k : Fin 16, u.reqWord k = 0 ∧ u.port.replyBuf[k.val] = []) ∧
    u.att.inService = 0 ∧ u.att.mask = 0xFFFF ∧ u.att.defaultVector = 127 ∧ (∀ n : Fin 16, u.att.vector n = BitVec.ofNat 8 (64 + n.val))

/-- The values of the soft-reset column of the same tables, and R185's release: EXPORT_WANTED alone becomes pending, all sources masked. That
no work item, assembly, bus access or due fetch is left, which the tables do not name, is log entry 5's (DEDUCED); that the soft-reset word reads
as written is log entry 17's. -/
def Obligations.SoftResetValues : Prop :=
  ∀ (s : State) (v w : Word), s.Ready → v.getLsbD 0 = true → w.getLsbD 0 = false →
    ∃ t : State, exec (.softReset v) s = .next t ∧
      exec (.softResetRelease w) t = .next { t with port := { t.port with softWord := w }, att := { t.att with pendingSet := sourceBit 12 } } ∧
      t.isHeld = true ∧ t.port.softWord = v ∧ t.att.mask = 0xFFFF ∧ t.att.inService = 0 ∧ t.att.pendingSet = 0 ∧ t.attentionLine = false ∧
      (∀ n : TemplateNo, t.template n = { active := (s.template n).active, pendingCopy := none, useCount := 0 }) ∧
      (∀ i : SiteNo, t.site i = { ctx := none, hostHold := false, staged := none, headHold := false, drainDeadline := none }) ∧
      t.lists.sweepQueue = [] ∧ t.lists.stopNotices = [] ∧ t.store.lines = [] ∧ t.store.low = false ∧ t.store.capture = none ∧
      t.engine = { pendingHost := none, lastGroup := .background, lastHead := 7, inProgress := none, settleList := [], sweepPos := none } ∧
      (∀ n : Fin 128, t.co.table[n.val] = none) ∧ t.co.tableFull = false ∧
      (∀ h : HeadNo, t.link h =
        { state := .down, trainingDeadline := none, serial := 0, slotCount := 0, balance := 0, badCount := 0, fifo := [], marker := false,
          downGate := none, downCredit := none, drains := [], transmitter := none, causes := {}, gateHanded := 0 }) ∧
      t.ex =
        { current := .empty, fillOffset := none, nextSlot := .empty, buffer := none, assembling := none, writePos := none, writeBacks := [],
          flushPending := false, stall := none, badDescriptor := false, fetchOrder := [], access := none, busTimeout := s.ex.busTimeout,
          collectionQueue := [] } ∧
      t.port.state = .ready ∧ t.port.lostGo = false ∧ t.port.writeIgnored = false ∧
      FrameBut [.templates, .sites, .sweepQueue, .stopNotices, .lines, .low, .capture, .pendingHost, .rotation, .workItem, .settleList,
        .sweepPos, .coTable, .tableFull, .links, .export_, .collectionQueue, .portState, .portFlags, .softWord, .pendingSet,
        .inService, .mask] s t

/-! ### The window -/

/-- R176, R178, R183, R185: which command a write of each window word is, what a read of each returns, and what a request buffer word, a
RELEASE and an ignored write do in each port state. The fields of a reply word and their bits are log entry 9's, the bits of the two status
words log entry 21's, and a read finds the grant that is due made (log entries 1 and 22). -/
def Obligations.PortWritesByState : Prop :=
  (∀ (k : Fin 16) (v : Word), commandOfWrite (4 * k.val) v = .requestBufferWrite k v) ∧
  (∀ v : Word, commandOfWrite 0x80 v = if v.getLsbD 1 then .release else if v.getLsbD 0 then .go else .ignoredWrite 0x80 v) ∧
  (∀ v : Word, commandOfWrite 0x88 v = if v.getLsbD 0 then .softReset v else .softResetRelease v) ∧
  (∀ v : Word, commandOfWrite 0x90 v = .eos) ∧
  (∀ (offset : Nat) (v : Word), (0x40 ≤ offset ∧ offset ≤ 0x7C) ∨ offset ∈ [0x84, 0x8C, 0x94] → commandOfWrite offset v = .ignoredWrite offset v) ∧
  (∀ (s : State) (k : Fin 16), s.reqWord k = s.port.requestBuf[k.val] ∧ s.param k = (s.reqWord k).toNat) ∧
  (∀ (s : State) (k : Fin 16), s.readWindow (4 * k.val) = s.port.requestBuf[k.val] ∧ s.readWindow (0x40 + 4 * k.val) = s.port.replyBuf[k.val].bits) ∧
  (∀ s : State, s.readWindow 0x80 = 0 ∧ s.readWindow 0x88 = s.port.softWord ∧
    s.readWindow 0x84 = Config.packPortStatus s.port.state s.port.lostGo s.port.writeIgnored (s.port.softWord.getLsbD 0) ∧
    s.readWindow 0x94 = Config.packAttentionStatus s.att.pendingSet s.att.mask) ∧
  (ReplyWord.bits [] = 0 ∧ ∀ n : Nat, ReplyWord.bits [.num n] = BitVec.ofNat 32 n) ∧
  (∀ (s : State) (offset : Nat), s.hostRead offset = s.catchUp.readWindow offset ∧ (s.due = .nothing → s.hostRead offset = s.readWindow offset)) ∧
  ∀ s : State, s.Ready →
    (∀ (k : Fin 16) (v : Word), exec (.requestBufferWrite k v) s = .next (if s.port.state = .running
      then { s with port := { s.port with writeIgnored := true } }
      else { s with port := { s.port with requestBuf := s.port.requestBuf.set k.val v } })) ∧
    exec .release s = .next (if s.port.state = .running
      then { s with port := { s.port with writeIgnored := true } }
      else { s with port := { s.port with state := .ready, lostGo := false, writeIgnored := false } }) ∧
    (∀ (offset : Nat) (v : Word), exec (.ignoredWrite offset v) s = .next s)

/-- R176, R177: the table of request codes; a GO in READY reads the code: an unknown one is refused at the GO, a request served directly is
served at the GO and its reply posted, the others become the pending host request; in RUNNING and REPLIED the GO is lost. R178: the
sixteen words that every posted reply holds: its status, its result fields from word 1 on, and 0 (the empty word) for the others. The row of a
request served directly is that GO (log entry 2), and a STAGE above site 255 is served directly (log entry 28). -/
def Obligations.GoRoutesTheRequest : Prop :=
  (∀ n : Nat, requestOfCode n = if n = 0 then none else
    ([.loadTemplate, .queryTemplate, .arm, .stage, .unstage, .disarm, .startSites, .close, .abort, .holdSite, .releaseHold, .querySite,
      .takeStopNotices, .queryIntegrity, .lookupLine, .listLines, .pinLine, .retireLine, .markSpareDefective, .setCoincidence,
      .listCoincidence, .clearTrip, .queryCoincidence, .linkEnable, .linkReset, .queryLink, .giveExportChain, .flushExport, .resumeExport,
      .abandonBuffer, .queryExport, .setLimits, .queryPart, .setAttention] : List Request)[n - 1]?) ∧
  (∀ reply : Reply, reply.buffer[0] = [.status reply.status] ∧ ∀ k : Fin 15, reply.buffer[k.val + 1] = reply.words[k.val]?.getD []) ∧
  ∀ s : State, s.Ready →
    (s.port.state ≠ .ready → exec .go s = .next { s with port := { s.port with lostGo := true } }) ∧
    (s.port.state = .ready → (s.param 0 = 0 ∨ 34 < s.param 0) →
      ∃ u, exec .go s = .next u ∧ s.Answers u { status := .refused .badRequest } []) ∧
    (∀ r : Request, s.port.state = .ready → requestOfCode (s.param 0) = some r → s.needsGrant r = false →
      exec .go s = exec (requestRow r) s ∧ ∃ u reply, exec .go s = .next u ∧ u.Posted reply ∧ s.SourcesKept u [15]) ∧
    (∀ r : Request, s.port.state = .ready → requestOfCode (s.param 0) = some r → s.needsGrant r = true →
      exec .go s = .next { s with port := { s.port with state := .running }, engine := { s.engine with pendingHost := some r } }) ∧
    (∀ r : Request, s.needsGrant r = true ↔
      r ∈ [.arm, .disarm, .abort, .lookupLine, .listLines, .pinLine, .retireLine, .markSpareDefective] ∨
        (r = .stage ∧ ∃ i : SiteNo, s.armWords.site = i.val ∧ s.siteState i = .vacant))

/-- R182: the line is asserted while some pending unmasked source outranks every in-service source, and a read of ACK returns the vector
of the highest of those and moves it to service, or returns the default vector and changes nothing. -/
def Obligations.AckServesHighestSource : Prop :=
  (∀ n m : Fin 16, (sourceBit n.val).getLsbD m.val = (m == n)) ∧
  (∀ s : State, s.attentionLine = true ↔ ∃ n : Fin 16, s.att.pendingSet.getLsbD n.val = true ∧ s.att.mask.getLsbD n.val = false ∧
    ∀ m : Fin 16, s.att.inService.getLsbD m.val = true → n.val < m.val) ∧
  (∀ s : State, s.Ready → s.attentionLine = false → exec .ack s = .next { s with busRead := s.att.defaultVector }) ∧
  (∀ s : State, s.Ready → s.attentionLine = true → ∃ n : Fin 16, s.att.wins n) ∧
  (∀ (s : State) (n : Fin 16), s.Ready → s.att.wins n →
    exec .ack s = .next { s with
      busRead := s.att.vectors[n.val]
      att := { s.att with pendingSet := s.att.pendingSet &&& ~~~(sourceBit n.val), inService := s.att.inService ||| sourceBit n.val } })

/-- R181: the three event sources, and the condition of every level source in the fields of the block that holds it. R183: EOS ends the
highest-priority service; a level source whose condition holds becomes pending again; service nests. -/
def Obligations.EosEndsHighestService : Prop :=
  (∀ n : Fin 16, isEventSource n.val = true ↔ n.val = 0 ∨ n.val = 13 ∨ n.val = 15) ∧
  (∀ s : State,
    (s.levelCondition 1 = true ↔ s.ex.stall ≠ none) ∧
    (∀ (n : Fin 16) (h : HeadNo), n.val = 2 + h.val → (s.levelCondition n = true ↔ (s.link h).causes ≠ {})) ∧
    (s.levelCondition 10 = true ↔ ∃ (n : Fin 128) (e : CoEntry), s.co.table[n.val] = some e ∧ e.state = .tripped) ∧
    (s.levelCondition 11 = true ↔ s.lists.stopNotices ≠ []) ∧
    (s.levelCondition 12 = true ↔ s.ex.nextSlot = .empty) ∧
    (s.levelCondition 14 = true ↔ s.store.low = true)) ∧
  (∀ s : State, s.Ready → s.att.inService = 0 → exec .eos s = .next s) ∧
  (∀ (s : State) (n : Fin 16), s.Ready → s.att.inService.getLsbD n.val = true →
    (∀ m : Fin 16, m.val < n.val → s.att.inService.getLsbD m.val = false) →
    ∃ u, exec .eos s = .next u ∧ FrameBut [.pendingSet, .inService] s u ∧
      (∀ m : Fin 16, u.att.inService.getLsbD m.val = (s.att.inService.getLsbD m.val && m != n)) ∧
      (∀ m : Fin 16, m ≠ n → u.att.pendingSet.getLsbD m.val = s.att.pendingSet.getLsbD m.val) ∧
      u.att.pendingSet.getLsbD n.val = (if isEventSource n.val then s.att.pendingSet.getLsbD n.val else s.levelCondition n)) ∧
  (∀ s : State, s.Ready → s.att.inService = sourceBit 15 → s.att.wins 11 →
    ∃ t u, exec .ack s = .next t ∧ t.busRead = s.att.vectors[11] ∧ t.att.inService = sourceBit 15 ||| sourceBit 11 ∧
      exec .eos t = .next u ∧ u.att.inService = sourceBit 15) ∧
  (∀ (s : State) (n : Fin 16), (s.readWindow 0x90).getLsbD n.val = s.att.inService.getLsbD n.val)

/-! ### Requests served directly: templates, queries, notices -/

/-- R2, R9, R10: the checks of a LOAD-TEMPLATE in their order, and the copy that an accepted record becomes. The parameters stand as log
entry 7 lays them out, the reply fields as log entry 9 does. -/
def Obligations.LoadTemplateWritesOneCopy : Prop :=
  (∀ g : Geometry, g.badField =
    (([(1, decide (1 ≤ g.domainCount ∧ g.domainCount ≤ 16)), (2, decide (256 ≤ g.rows ∧ g.rows ≤ 65536)),
       (3, decide (64 ≤ g.columns ∧ g.columns ≤ 4096)), (4, [1, 2, 4, 8].contains g.rowGroup), (5, [1, 2, 4, 8].contains g.columnGroup),
       (6, decide (g.spareRows ≤ 15)), (7, decide (g.spareColumns ≤ 15)),
       (2, decide (g.rows % g.rowGroup = 0)), (3, decide (g.columns % g.columnGroup = 0))] : List (Nat × Bool)).find? fun c => !c.2).map Prod.fst) ∧
  (∀ s : State, s.geometryParams =
    { domainCount := s.param 2, rows := s.param 3, columns := s.param 4, rowGroup := s.param 5, columnGroup := s.param 6,
      spareRows := s.param 7, spareColumns := s.param 8 }) ∧
  ∀ s : State, s.GoServes .loadTemplate →
    (7 < s.param 1 → s.Refuses .loadTemplate .badTemplate) ∧
    (∀ n : Nat, s.param 1 ≤ 7 → s.geometryParams.badField = some n → s.Refuses .loadTemplate .badGeometry [[.num n]]) ∧
    (∀ t : TemplateNo, s.param 1 = t.val → s.geometryParams.badField = none →
      ∃ u, exec .loadTemplate s = .next u ∧
        s.Answers u { status := .done, words := [[.result (if (s.template t).useCount = 0 then .active else .pending)],
          [.flag (decide ((s.template t).useCount ≠ 0) && (s.template t).pendingCopy.isSome)], [.num (s.template t).useCount]] } [.templates] ∧
        (∀ k, k ≠ t → u.template k = s.template k) ∧
        u.template t = (if (s.template t).useCount = 0 then { s.template t with active := some s.geometryParams }
          else { s.template t with pendingCopy := some s.geometryParams }))

/-- R11, R124: QUERY-TEMPLATE and LIST-COINCIDENCE change nothing and answer as their rules give. The parameter is a whole word (log entry 7). -/
def Obligations.ListingRequestsChangeNothing : Prop :=
  (∀ s : State, s.GoServes .queryTemplate →
    (7 < s.param 1 → s.Refuses .queryTemplate .badTemplate) ∧
    (∀ t : TemplateNo, s.param 1 = t.val →
      ∃ u, exec .queryTemplate s = .next u ∧
        s.Answers u { status := .done, words :=
          [.templateValid (s.template t).active.isSome, .flag (s.template t).pendingCopy.isSome, .num (s.template t).useCount]
            :: [(s.template t).active, (s.template t).pendingCopy].flatMap fun copy =>
              match copy with
              | some g => [[.num g.domainCount], [.num g.rows], [.num g.columns], [.num g.rowGroup], [.num g.columnGroup],
                           [.num g.spareRows], [.num g.spareColumns]]
              | none => List.replicate 7 [] } [])) ∧
  (∀ (c : CoUnit) (k : Nat), ((c.from k).Pairwise fun a b => a.1.val < b.1.val) ∧
    ∀ (n : Fin 128) (e : CoEntry), (n, e) ∈ c.from k ↔ k ≤ n.val ∧ c.table[n.val] = some e) ∧
  (∀ s : State, s.GoServes .listCoincidence →
    (127 < s.param 1 → s.Refuses .listCoincidence .badField) ∧
    (s.param 1 ≤ 127 →
      ∃ u, exec .listCoincidence s = .next u ∧
        s.Answers u { status := .done, words :=
          [.num ((s.co.from (s.param 1)).take 3).length,
           .num (if (s.co.from (s.param 1)).length ≤ 3 then 128 else ((s.co.from (s.param 1)).take 3).foldl (fun _ e => e.1.val + 1) 0),
           .flag (decide ((s.co.from (s.param 1)).length ≤ 3))]
            :: ((s.co.from (s.param 1)).take 3).flatMap fun (n, e) =>
              [[.num n.val, .coState e.state, .num e.members.length],
               [.num e.key.template.val, .num e.key.domain.val, .axis e.key.axis, .num e.key.coarse],
               [.num ((e.members.map (·.val)).getD 0 0 + 256 * (e.members.map (·.val)).getD 1 0 + 65536 * (e.members.map (·.val)).getD 2 0
                  + 16777216 * (e.members.map (·.val)).getD 3 0)]] } []))

/-- R180: QUERY-PART reads the owning blocks and changes nothing. -/
def Obligations.QueryPartReadsTheBlocks : Prop :=
  ∀ s : State, s.GoServes .queryPart →
    ∃ u, exec .queryPart s = .next u ∧
      s.Answers u { status := .done, words :=
        [[.num (12288 - s.store.lines.length), .flag s.store.low],
         [.linkState (s.link 0).state, .linkState (s.link 1).state, .linkState (s.link 2).state, .linkState (s.link 3).state,
          .linkState (s.link 4).state, .linkState (s.link 5).state, .linkState (s.link 6).state, .linkState (s.link 7).state],
         [.engineState s.ex.engineState, .num s.ex.collectionQueue.length, .num s.lists.sweepQueue.length],
         [.num s.lists.stopNotices.length]] } []

/-- R42, section 2.2, R53: the fifteen words of QUERY-SITE, the site state and the in-use count; the clock alone moves on (log entry 4: how far is free). -/
def Obligations.QuerySiteViewsTheSite : Prop :=
  (∀ (s : State) (i : SiteNo),
    s.inUse i = (s.store.lines.filter fun r => r.key.site == i).length ∧
    s.siteState i = match s.ctx i with
      | none => .vacant
      | some c => match c.phase with
        | .armed => .armed | .testing => .testing | .draining => .draining | .sweeping => .sweeping | .held => .held) ∧
  ∀ s : State, s.GoServes .querySite →
    (255 < s.param 1 → s.Refuses .querySite .badSite) ∧
    (∀ i : SiteNo, s.param 1 = i.val → s.ctx i = none →
      ∃ u, exec .querySite s = .next u ∧ s.now ≤ u.now ∧
        s.Answers u { status := .done, words :=
          [[.siteState .vacant, .zero, .zero, .flag (s.site i).staged.isSome, .flag (s.site i).hostHold, .flag (s.site i).headHold, .zero],
           [], [], [], [.num 0], [], [], [], [], [], [], [], [], [],
           [.num (match (s.site i).staged with | some x => x.tag.toNat | none => 0)]] } [.clock]) ∧
    (∀ (i : SiteNo) (c : Context), s.param 1 = i.val → s.ctx i = some c →
      ∃ u, exec .querySite s = .next u ∧ s.now ≤ u.now ∧
        s.Answers u { status := .done, words :=
          [[.siteState (s.siteState i), .num c.template.val, .policy c.policy, .flag (s.site i).staged.isSome, .flag (s.site i).hostHold,
            .flag (s.site i).headHold, .flag c.doomed],
           [.num c.tag.toNat], [.num c.quota, .num (s.inUse i)], [match c.reason with | some r => .reason r | none => .zero, .quality c.flags],
           [.num (match (s.site i).drainDeadline with | some t => t - u.now | none => 0)],
           [.num c.geometry.domainCount], [.num c.geometry.rows], [.num c.geometry.columns], [.num c.geometry.rowGroup],
           [.num c.geometry.columnGroup], [.num c.geometry.spareRows], [.num c.geometry.spareColumns],
           (match c.domains[s.param 2]? with
            | some r => [.domainState r.state, .num r.base.row, .num r.base.column, .num r.defective.row, .num r.defective.column,
                         .num r.assigned.row, .num r.assigned.column]
            | none => []),
           (match c.domains[s.param 2]? with | some r => [.num r.failTotal.toNat] | none => []),
           [.num (match (s.site i).staged with | some x => x.tag.toNat | none => 0)]] } [.clock])

/-- R40: what posting a Stop Notice does to the list. R41, R60, R126: what TAKE-STOP-NOTICES, QUERY-INTEGRITY and QUERY-COINCIDENCE return, and the one thing each takes away. -/
def Obligations.QueriesThatTakeAway : Prop :=
  (∀ (i : SiteNo) (why : NoticeReason) (tag : Word) (l : List Notice),
    ((∀ n ∈ l, n.site ≠ i) → noticePosted i why tag l = l ++ [{ site := i, reason := why, tag, more := false }]) ∧
    ((∃ n ∈ l, n.site = i) → noticePosted i why tag l = l.map fun n => if n.site = i then { n with more := true } else n)) ∧
  (∀ s : State, s.GoServes .takeStopNotices →
    ∃ u, exec .takeStopNotices s = .next u ∧
      s.Answers u { status := .done, words :=
        [.num (min 7 s.lists.stopNotices.length), .num (s.lists.stopNotices.length - 7)]
          :: (s.lists.stopNotices.take 7).flatMap fun n => [[.num n.site.val, .notice n.reason, .flag n.more], [.num n.tag.toNat]] } [.stopNotices] ∧
      u.lists.stopNotices = s.lists.stopNotices.drop 7) ∧
  (∀ s : State, s.GoServes .queryIntegrity →
    ∃ u, exec .queryIntegrity s = .next u ∧
      s.Answers u { status := .done, words :=
        match s.store.capture with
        | some c => [[.flag true], [.num c.site.val], [.num c.index], [.activity c.activity], [.flag c.overflow]]
        | none => [[.flag false], [.num 0], [.num 0], [.zero], [.flag false]] } [.capture] ∧
      u.store.capture = none) ∧
  (∀ s : State, s.GoServes .queryCoincidence →
    ∃ u, exec .queryCoincidence s = .next u ∧
      s.Answers u { status := .done, words :=
        [[.num s.co.threshold], [.num s.co.span], [.coAction s.co.action], [.num (s.co.table.toList.filter (·.isSome)).length],
         [.num (s.co.table.toList.filter fun e => (e.map (·.state)) == some .tripped).length], [.flag s.co.tableFull]] } [.tableFull] ∧
      u.co.tableFull = false)

/-- R157, R162, R173: what QUERY-LINK and QUERY-EXPORT return, the engine state by the first line of its table that applies, and the one thing
each request clears. An absent write position, or stall kind and slot, shows as 0 (log entry 31). -/
def Obligations.QueriesOfLinkAndExport : Prop :=
  (∀ s : State, s.GoServes .queryLink →
    (7 < s.param 1 → s.Refuses .queryLink .badSite) ∧
    (∀ h : HeadNo, s.param 1 = h.val →
      ∃ u, exec .queryLink s = .next u ∧
        s.Answers u { status := .done, words :=
          [[.linkState (s.link h).state, .num (s.link h).slotCount, .flag (s.link h).marker, .num (s.link h).badCount,
            .sending (s.link h).transmitter.isSome],
           [.num (s.link h).serial.toNat],
           [.num (s.link h).fifo.length, .num ((s.link h).downCredit.getD 0), .num (s.link h).balance],
           [.causes (s.link h).causes]] } [.links] ∧
        u.link h = { s.link h with causes := {} } ∧ ∀ k, k ≠ h → u.link k = s.link k)) ∧
  (∀ e : Exporter,
    let held : Bool := match e.current with | .held _ => true | _ => false
    e.engineState =
      if e.stall ≠ none then .stalled
      else if e.assembling ≠ none then .assembling
      else if e.buffer ≠ none ∧ held = true then .writing
      else if e.buffer ≠ none then .waiting
      else if held = true then .ready
      else .idle) ∧
  (∀ s : State, s.GoServes .queryExport →
    let slotField (x : DescSlot) : ReplyField := match x with | .empty => .slotEmpty | .fetching _ _ => .slotFetching | .held _ => .slotHeld
    let slotAddress (x : DescSlot) : Nat := match x with | .empty => 0 | .fetching a _ => a.toNat | .held d => d.addr.toNat
    ∃ u, exec .queryExport s = .next u ∧
      s.Answers u { status := .done, words :=
        [[.engineState s.ex.engineState, (match s.ex.stall with | some k => .stall k | none => .zero), slotField s.ex.current, slotField s.ex.nextSlot,
          .flag s.ex.flushPending, .num s.ex.writeBacks.length, .flag s.ex.badDescriptor],
         [.num (slotAddress s.ex.current)],
         [.num (match s.ex.current with | .held d => d.bufLen | _ => 0), .num (s.ex.fillOffset.getD 0)],
         [.num (slotAddress s.ex.nextSlot)],
         [.num s.ex.collectionQueue.length, .num ((s.ex.collectionQueue.head?.map (·.val)).getD 0)],
         [.num ((s.ex.buffer.map (·.words.length)).getD 0), .num (s.ex.writePos.getD 0)]] } [.export_] ∧
      u.ex = { s.ex with badDescriptor := false })

/-! ### Requests served directly: sites -/

/-- 00 Terms: the site of a slot. R24: a slot's bit in the gate set, and R155 with R154: which entry an IDLE transmitter takes and what becomes of the balance. -/
def Obligations.GateSetAndDownlinkOrder : Prop :=
  (∀ (h : HeadNo) (sl : SlotNo), (siteOf h sl).val = 32 * h.val + sl.val ∧ headOf (siteOf h sl) = h ∧ slotOf (siteOf h sl) = sl) ∧
  (∀ (s : State) (h : HeadNo) (sl : SlotNo), (s.gateSet h).getLsbD sl.val = true ↔
    (s.link h).state = .up ∧ s.siteState (siteOf h sl) = .testing ∧ (s.site (siteOf h sl)).hostHold = false ∧
      (s.site (siteOf h sl)).headHold = false) ∧
  (∀ (l : Link) (g : SlotSet), l.state ≠ .up → l.finished g = l) ∧
  (∀ (l : Link) (g : SlotSet), l.state = .up → ∀ m : Link, m = (if l.gateHanded = g then l else { l with downGate := some g, gateHanded := g }) →
    l.finished g =
      match m.transmitter, m.downGate, m.drains, m.downCredit with
      | some _, _, _, _ => m
      | none, some set, _, _ => { m with downGate := none, transmitter := some (.gate set) }
      | none, none, sl :: rest, _ => { m with drains := rest, transmitter := some (.drain sl) }
      | none, none, [], some n => { m with downCredit := none, transmitter := some (.credit n), balance := m.balance + n }
      | none, none, [], none => m) ∧
  (∀ (s : State) (h : HeadNo), s.Ready →
    ∃ u, exec (.frameSent h) s = .next u ∧ s.Happens u [.links] ∧
      u.link h = ({ s.link h with transmitter := none } : Link).finished (s.gateSet h) ∧ ∀ k, k ≠ h → u.link k = s.link k)

/-- R25, R21: HOLD-SITE, RELEASE-HOLD and UNSTAGE. What follows in the same event is log entry 12's (DEDUCED). -/
def Obligations.HoldsAndUnstaging : Prop :=
  (∀ s : State, s.GoServes .holdSite →
    (255 < s.param 1 → s.Refuses .holdSite .badSite) ∧
    (∀ i : SiteNo, s.param 1 = i.val → s.siteState i = .vacant → s.Refuses .holdSite .badState) ∧
    (∀ i : SiteNo, s.param 1 = i.val → s.siteState i ≠ .vacant →
      ∃ u, exec .holdSite s = .next u ∧
        s.Answers u { status := .done, words := [[.flag (s.site i).hostHold]] } [.sites, .links] ∧
        u.site i = { s.site i with hostHold := true } ∧ (∀ j, j ≠ i → u.site j = s.site j) ∧ s.LinksFollow u fun _ l => l)) ∧
  (∀ s : State, s.GoServes .releaseHold →
    (255 < s.param 1 → s.Refuses .releaseHold .badSite) ∧
    (∀ i : SiteNo, s.param 1 = i.val →
      ∃ u, exec .releaseHold s = .next u ∧
        s.Answers u { status := .done, words := [[.flag (s.site i).hostHold]] } [.sites, .links] ∧
        u.site i = { s.site i with hostHold := false } ∧ (∀ j, j ≠ i → u.site j = s.site j) ∧ s.LinksFollow u fun _ l => l)) ∧
  (∀ s : State, s.GoServes .unstage →
    (255 < s.param 1 → s.Refuses .unstage .badSite) ∧
    (∀ i : SiteNo, s.param 1 = i.val →
      ∃ u, exec .unstage s = .next u ∧
        s.Answers u { status := .done, words := [[.flag (s.site i).staged.isSome],
          [.num (match (s.site i).staged with | some x => x.tag.toNat | none => 0)]] } [.sites] ∧
        u.site i = { s.site i with staged := none } ∧ ∀ j, j ≠ i → u.site j = s.site j))

/-- R23: START-SITES starts exactly the named ARMED slots below the slot count and answers with the three sets. Bit n of parameter 2 is slot
n (log entry 8). What follows in the same event is log entry 12's (DEDUCED). -/
def Obligations.StartSitesStartsArmedSlots : Prop :=
  ∀ s : State, s.GoServes .startSites →
    (7 < s.param 1 → s.Refuses .startSites .badSite) ∧
    (∀ h : HeadNo, s.param 1 = h.val → (s.link h).state ≠ .up → s.Refuses .startSites .linkNotUp) ∧
    (∀ h : HeadNo, s.param 1 = h.val → (s.link h).state = .up →
      ∃ u started noSlot badState, exec .startSites s = .next u ∧
        s.Answers u { status := .done, words := [[.slots started], [.slots noSlot], [.slots badState]] } [.sites, .links] ∧
        (∀ sl : SlotNo,
          started.getLsbD sl.val = ((s.reqWord 2).getLsbD sl.val && decide (sl.val < (s.link h).slotCount) && s.siteState (siteOf h sl) == .armed) ∧
          noSlot.getLsbD sl.val = ((s.reqWord 2).getLsbD sl.val && decide ((s.link h).slotCount ≤ sl.val)) ∧
          badState.getLsbD sl.val = ((s.reqWord 2).getLsbD sl.val && decide (sl.val < (s.link h).slotCount) && s.siteState (siteOf h sl) != .armed)) ∧
        (∀ i : SiteNo, u.site i = if headOf i = h ∧ started.getLsbD (slotOf i).val = true
          then { s.site i with ctx := (s.ctx i).map fun c => { c with phase := .testing } } else s.site i) ∧
        s.LinksFollow u fun _ l => l)

/-- R27, R28: CLOSE in each site state. What follows in the same event is log entry 12's (DEDUCED). The time of the event is free (log entry
4). -/
def Obligations.CloseByState : Prop :=
  ∀ s : State, s.GoServes .close →
    (255 < s.param 1 → s.Refuses .close .badSite) ∧
    (∀ i : SiteNo, s.param 1 = i.val → s.siteState i = .vacant → s.Refuses .close .badState) ∧
    (∀ i : SiteNo, s.param 1 = i.val → s.siteState i ∈ [.draining, .sweeping, .held] → s.Refuses .close .already) ∧
    (∀ i : SiteNo, s.param 1 = i.val → s.siteState i = .armed →
      ∃ u, exec .close s = .next u ∧ s.Answers u { status := .done, words := [[.siteState .sweeping]] } [.sites, .sweepQueue] ∧
        u.site i = { s.site i with ctx := (s.ctx i).map fun c => { c with phase := .sweeping }, drainDeadline := none } ∧
        (∀ j, j ≠ i → u.site j = s.site j) ∧ u.lists.sweepQueue = s.lists.sweepQueue ++ [i]) ∧
    (∀ i : SiteNo, s.param 1 = i.val → s.siteState i = .testing →
      ∃ u, exec .close s = .next u ∧ s.Answers u { status := .done, words := [[.siteState .draining]] } [.sites, .links, .clock] ∧
        s.now ≤ u.now ∧
        u.site i = { s.site i with ctx := (s.ctx i).map fun c => { c with phase := .draining }, drainDeadline := some (u.now + 10 * s.lists.drainTimeout) } ∧
        (∀ j, j ≠ i → u.site j = s.site j) ∧
        s.LinksFollow u fun h l =>
          if h = headOf i ∧ l.state = .up ∧ slotOf i ∉ l.drains then { l with drains := l.drains ++ [slotOf i] } else l)

/-! ### Requests served directly: the Coincidence Unit -/

/-- R123: SET-COINCIDENCE; the action code is log entry 8's. -/
def Obligations.SetCoincidenceSetsAllThree : Prop :=
  ∀ s : State, s.GoServes .setCoincidence →
    (s.param 1 < 2 ∨ 32 < s.param 1 ∨ s.param 2 ∉ [1, 2, 4, 8, 16] ∨ s.param 3 ∉ [1, 2] → s.Refuses .setCoincidence .badField) ∧
    (∀ a : CoAction, 2 ≤ s.param 1 → s.param 1 ≤ 32 → s.param 2 ∈ [1, 2, 4, 8, 16] → action? (s.param 3) = some a →
      ∃ u, exec .setCoincidence s = .next u ∧
        s.Answers u { status := .done, words := [[.num (s.param 1)], [.num (s.param 2)], [.coAction a],
          [.num (if s.param 2 = s.co.span then 0 else (s.co.table.toList.filter (·.isSome)).length)]] } [.coTable, .coSettings] ∧
        u.co.threshold = s.param 1 ∧ u.co.span = s.param 2 ∧ u.co.action = a ∧
        (s.param 2 = s.co.span → u.co.table = s.co.table) ∧
        (s.param 2 ≠ s.co.span → (∀ n : Fin 128, u.co.table[n.val] = none) ∧ u.levelCondition 10 = false)) ∧
    (action? 1 = some .notify ∧ action? 2 = some .hold)

/-- R125: CLEAR-TRIP in its three forms; the form codes and the places of the fields are log entry 8's, the refusal of any other form log
entry 23's. Template numbers above 7 are judged by log entry 30. -/
def Obligations.ClearTripReturnsToCounting : Prop :=
  (Axis.row.code = 1 ∧ Axis.column.code = 2) ∧
  ∀ s : State, s.GoServes .clearTrip →
    let cleared (u : State) (p : Nat → CoEntry → Prop) : Prop := ∀ (n : Fin 128),
      (∀ e, s.co.table[n.val] = some e → p n.val e → u.co.table[n.val] = some { e with state := .counting }) ∧
      ((∀ e, s.co.table[n.val] = some e → ¬ p n.val e) → u.co.table[n.val] = s.co.table[n.val])
    (s.param 1 = 1 → 127 < s.param 2 → s.Refuses .clearTrip .badField) ∧
    (s.param 1 = 2 → 7 < s.param 2 → s.Refuses .clearTrip .badField) ∧
    (s.param 1 ∉ [1, 2, 3] → s.Refuses .clearTrip .badField) ∧
    (∀ n : Fin 128, s.param 1 = 1 → s.param 2 = n.val →
      (∀ e, s.co.table[n.val] = some e → ¬ (e.key.template.val = s.param 3 ∧ e.key.domain.val = s.param 4 ∧ e.key.axis.code = s.param 5 ∧ e.key.coarse = s.param 6)) →
      s.Refuses .clearTrip .notFound) ∧
    (∀ (n : Fin 128) (e : CoEntry), s.param 1 = 1 → s.param 2 = n.val → s.co.table[n.val] = some e →
      e.key.template.val = s.param 3 → e.key.domain.val = s.param 4 → e.key.axis.code = s.param 5 → e.key.coarse = s.param 6 →
      ∃ u, exec .clearTrip s = .next u ∧
        s.Answers u { status := .done, words := [[.num (if e.state = .tripped then 1 else 0)]] } [.coTable] ∧ cleared u fun k _ => k = n.val) ∧
    (∀ t : TemplateNo, s.param 1 = 2 → s.param 2 = t.val →
      ∃ u, exec .clearTrip s = .next u ∧
        s.Answers u { status := .done, words := [[.num (s.co.table.toList.filter fun e => e.any fun e => e.state == .tripped && e.key.template == t).length]] } [.coTable] ∧
        cleared u fun _ e => e.state = .tripped ∧ e.key.template = t) ∧
    (s.param 1 = 3 →
      ∃ u, exec .clearTrip s = .next u ∧
        s.Answers u { status := .done, words := [[.num (s.co.table.toList.filter fun e => e.any fun e => e.state == .tripped).length]] } [.coTable] ∧
        cleared u fun _ e => e.state = .tripped)

/-- R116 to R120: what becomes of a MUST assignment that the Coincidence Unit is told of, for the line's key under the span in force; a new
member joins a list in ascending order, once. -/
def Obligations.CoincidenceJoinsAndTrips : Prop :=
  (∀ (i : SiteNo) (l : List SiteNo), (∀ j, j ∈ memberInsert i l ↔ j = i ∨ j ∈ l) ∧
    (l.Pairwise (fun a b => a.val < b.val) → (memberInsert i l).Pairwise fun a b => a.val < b.val)) ∧
  ∀ (s : State) (i : SiteNo) (d : DomainNo) (a : Axis) (addr : LineAddr) (c : Context), s.ctx i = some c → 2 ≤ s.co.threshold →
    let k : CoKey := { template := c.template, domain := d, axis := a, coarse := addr.toNat / s.co.span }
    let holds (n : Fin 128) : Prop := ∃ e, s.co.table[n.val] = some e ∧ e.key = k
    let only (u : State) (n : Fin 128) (e : CoEntry) : Prop := u.co.table[n.val] = some e ∧ ∀ m : Fin 128, m ≠ n → u.co.table[m.val] = s.co.table[m.val]
    let marked (u : State) (sites : List SiteNo) : Prop :=
      let taken (j : SiteNo) : Bool := sites.contains j && s.co.action == .hold && s.siteState j == .testing && !(s.site j).hostHold
      (∀ j, u.site j = { s.site j with
        hostHold := (s.site j).hostHold || taken j
        ctx := if j ∈ sites then (s.ctx j).map fun b => { b with flags := { b.flags with coincident := true } } else s.ctx j }) ∧
      u.lists.stopNotices = (sites.filter taken).foldl (fun l j => noticePosted j .coincidenceHold (((s.ctx j).map (·.tag)).getD 0) l) s.lists.stopNotices ∧
      FrameBut [.coTable, .sites, .stopNotices] s u
    ((∀ n, ¬ holds n) → (∀ n : Fin 128, s.co.table[n.val] ≠ none) →
      s.coJoin i d a addr = { s with co := { s.co with tableFull := true } }) ∧
    (∀ n : Fin 128, (∀ m, ¬ holds m) → s.co.table[n.val] = none → (∀ m : Fin 128, m.val < n.val → s.co.table[m.val] ≠ none) →
      only (s.coJoin i d a addr) n { key := k, members := [i], state := .counting } ∧ FrameBut [.coTable] s (s.coJoin i d a addr)) ∧
    (∀ (n : Fin 128) (e : CoEntry), s.co.table[n.val] = some e → e.key = k → (∀ m : Fin 128, m.val < n.val → ¬ holds m) →
      (i ∈ e.members → s.coJoin i d a addr = s) ∧
      (i ∉ e.members → e.members.Nodup →
        (e.state = .counting → e.members.length + 1 < s.co.threshold →
          only (s.coJoin i d a addr) n { e with members := memberInsert i e.members } ∧ FrameBut [.coTable] s (s.coJoin i d a addr)) ∧
        (e.state = .counting → s.co.threshold ≤ e.members.length + 1 →
          only (s.coJoin i d a addr) n { e with members := memberInsert i e.members, state := .tripped } ∧
          marked (s.coJoin i d a addr) (memberInsert i e.members)) ∧
        (e.state = .tripped →
          only (s.coJoin i d a addr) n { e with members := memberInsert i e.members } ∧ marked (s.coJoin i d a addr) [i])))

/-! ### Requests served directly: links -/

/-- R144: LINK-ENABLE in each link state. -/
def Obligations.LinkEnableStartsTraining : Prop :=
  ∀ s : State, s.GoServes .linkEnable →
    (7 < s.param 1 → s.Refuses .linkEnable .badSite) ∧
    (∀ h : HeadNo, s.param 1 = h.val → (s.link h).state ∈ [.training, .up] → s.Refuses .linkEnable .already) ∧
    (∀ h : HeadNo, s.param 1 = h.val → (s.link h).state = .faulted → (s.link h).marker = true → s.Refuses .linkEnable .headBusy) ∧
    (∀ h : HeadNo, s.param 1 = h.val → (s.link h).state = .faulted → (s.link h).marker = false → s.Refuses .linkEnable .badState) ∧
    (∀ h : HeadNo, s.param 1 = h.val → (s.link h).state = .down →
      ∃ u, exec .linkEnable s = .next u ∧ s.Answers u { status := .done } [.links, .clock] ∧ s.now ≤ u.now ∧
        u.link h = { s.link h with state := .training, trainingDeadline := some (u.now + s.trainingTimeout), badCount := 0 } ∧
        ∀ k, k ≠ h → u.link k = s.link k)

/-- R158: LINK-RESET. The words of the two reply fields are log entry 9's. -/
def Obligations.LinkResetReturnsToDown : Prop :=
  ∀ s : State, s.GoServes .linkReset →
    (7 < s.param 1 → s.Refuses .linkReset .badSite) ∧
    (∀ h : HeadNo, s.param 1 = h.val → ((s.link h).marker = true ∨ ((s.link h).state = .up ∧
        ∃ sl, s.siteState (siteOf h sl) = .testing ∨ s.siteState (siteOf h sl) = .draining)) → s.Refuses .linkReset .headBusy) ∧
    (∀ h : HeadNo, s.param 1 = h.val → (s.link h).marker = false →
      ((s.link h).state = .up → ∀ sl, s.siteState (siteOf h sl) ≠ .testing ∧ s.siteState (siteOf h sl) ≠ .draining) →
      ∃ u, exec .linkReset s = .next u ∧
        s.Answers u { status := .done, words := [[.linkState (s.link h).state], [.num (s.link h).fifo.length]] } [.sites, .links] ∧
        u.link h = { state := .down, trainingDeadline := none, serial := 0, slotCount := 0, balance := 0, badCount := 0, fifo := [], marker := false,
                     downGate := none, downCredit := none, drains := [], transmitter := none, causes := {}, gateHanded := 0 } ∧
        (∀ k, k ≠ h → u.link k = s.link k) ∧
        ∀ i : SiteNo, u.site i = if headOf i = h then { s.site i with headHold := false } else s.site i)

/-! ### Requests served directly: export and the port -/

/-- R165, R170: GIVE-EXPORT-CHAIN and FLUSH-EXPORT by the slots and the write in progress. What follows in the same event is log entry 12's
(DEDUCED). -/
def Obligations.ChainAndFlush : Prop :=
  (∀ s : State, s.GoServes .giveExportChain →
    ((s.reqWord 1).toNat % 4 ≠ 0 → s.Refuses .giveExportChain .badField) ∧
    ((s.reqWord 1).toNat % 4 = 0 → s.ex.current = .empty →
      ∃ u, exec .giveExportChain s = .next u ∧ s.Answers u { status := .done, words := [[.result .current]] } [.export_, .clock] ∧
        ({ s.ex with current := .fetching (s.reqWord 1) [], fetchOrder := s.ex.fetchOrder ++ [.current] } : Exporter).Followed u) ∧
    ((s.reqWord 1).toNat % 4 = 0 → s.ex.current ≠ .empty → s.ex.nextSlot = .empty →
      ∃ u, exec .giveExportChain s = .next u ∧ s.Answers u { status := .done, words := [[.result .next]] } [.export_, .clock] ∧
        ({ s.ex with nextSlot := .fetching (s.reqWord 1) [], fetchOrder := s.ex.fetchOrder ++ [.next] } : Exporter).Followed u) ∧
    ((s.reqWord 1).toNat % 4 = 0 → s.ex.current ≠ .empty → s.ex.nextSlot ≠ .empty → s.Refuses .giveExportChain .chainPresent)) ∧
  (∀ s : State, s.GoServes .flushExport →
    ((∀ d, s.ex.current ≠ .held d) → s.Refuses .flushExport .noBuffer) ∧
    (∀ d, s.ex.current = .held d → s.ex.writePos ≠ none →
      ∃ u, exec .flushExport s = .next u ∧ s.Answers u { status := .done, words := [[.result .deferred]] } [.export_] ∧
        u.ex = { s.ex with flushPending := true }) ∧
    (∀ d, s.ex.current = .held d → s.ex.writePos = none →
      ∃ u, exec .flushExport s = .next u ∧ s.Answers u { status := .done, words := [[.result .closed]] } [.export_, .clock] ∧
        ({ s.ex with
            current := .empty, fillOffset := none
            writeBacks := s.ex.writeBacks ++ [{ addr := d.addr, notify := d.notify, used := s.ex.fillOffset.getD 0, cause := .flushed }] }
          : Exporter).promoteNext.Followed u))

/-- Section 10.5, R171, R172: RESUME-EXPORT and ABANDON-BUFFER by the kind of the stall.
What follows in the same event is log entry 12's (DEDUCED). -/
def Obligations.StallRequests : Prop :=
  (∀ s : State, s.GoServes .resumeExport →
    (s.ex.stall = none → s.Refuses .resumeExport .badState) ∧
    (∀ k, s.ex.stall = some k →
      ∃ u, exec .resumeExport s = .next u ∧ s.Answers u { status := .done, words := [[.stall k]] } [.export_, .clock] ∧
        (k = .write → ({ s.ex with stall := none, writePos := some 0 } : Exporter).Followed u) ∧
        (k = .writeBack → ({ s.ex with stall := none } : Exporter).Followed u) ∧
        (∀ a got, k = .fetch .current → s.ex.current = .fetching a got → ({ s.ex with stall := none, current := .fetching a [] } : Exporter).Followed u) ∧
        (∀ a got, k = .fetch .next → s.ex.nextSlot = .fetching a got → ({ s.ex with stall := none, nextSlot := .fetching a [] } : Exporter).Followed u))) ∧
  (∀ s : State, s.GoServes .abandonBuffer →
    (s.ex.stall = none → s.Refuses .abandonBuffer .badState) ∧
    (∀ k, s.ex.stall = some k →
      ∃ u, exec .abandonBuffer s = .next u ∧ s.Answers u { status := .done, words := [[.stall k]] } [.export_, .clock] ∧
        (k = .write → ({ s.ex with stall := none, current := .empty, fillOffset := none, buffer := none, writePos := none, flushPending := false }
          : Exporter).promoteNext.Followed u) ∧
        (k = .writeBack → ({ s.ex with stall := none, writeBacks := s.ex.writeBacks.tail } : Exporter).Followed u) ∧
        (k = .fetch .current → ({ s.ex with stall := none, current := .empty, fetchOrder := s.ex.fetchOrder.filter (· != .current) }
          : Exporter).promoteNext.Followed u) ∧
        (k = .fetch .next → ({ s.ex with stall := none, nextSlot := .empty, fetchOrder := s.ex.fetchOrder.filter (· != .next) }
          : Exporter).promoteNext.Followed u)))

/-- R179, R56: SET-LIMITS checks its present fields in order and sets them together; the low indication is judged at once. Field k is
present when bit k - 1 of parameter 1 is set (log entry 8), and the reply gives the limits in their units of setting (log entry 9). Bits
beyond the five are ignored (log entry 32), and the indication at mark 0 is log entry 29's. -/
def Obligations.SetLimitsTogether : Prop :=
  (∀ (free mark : Nat) (low : Bool), lowJudged free mark low = if free < mark then true else if min (mark + 64) 12288 ≤ free then false else low) ∧
  ∀ s : State, s.GoServes .setLimits →
    let given (k v old : Nat) : Nat := if (s.reqWord 1).getLsbD (k - 1) then v else old
    let out : List (Nat × Nat × Nat × Nat) :=
      [(1, s.param 2, 1, 65535), (2, s.param 3, 1000, 1000000), (3, s.param 4, 1, 255), (4, s.param 5, 8, 12288), (5, s.param 6, 0, 12288)]
    let bad := (out.find? fun (k, v, lo, hi) => (s.reqWord 1).getLsbD (k - 1) && !(decide (lo ≤ v) && decide (v ≤ hi))).map Prod.fst
    (∀ n, bad = some n → s.Refuses .setLimits .badField [[.num n]]) ∧
    (bad = none →
      ∃ u, exec .setLimits s = .next u ∧
        s.Answers u { status := .done, words := [[.num u.lists.drainTimeout], [.num u.trainingTimeout], [.num u.ex.busTimeout],
          [.num u.store.defaultQuota], [.num u.store.lowWater]] } [.drainTimeout, .trainingTimeout, .busTimeout, .defaultQuota, .lowWater, .low] ∧
        u.lists.drainTimeout = given 1 (s.param 2) s.lists.drainTimeout ∧ u.trainingTimeout = given 2 (s.param 3) s.trainingTimeout ∧
        u.ex.busTimeout = given 3 (s.param 4) s.ex.busTimeout ∧ u.store.defaultQuota = given 4 (s.param 5) s.store.defaultQuota ∧
        u.store.lowWater = given 5 (s.param 6) s.store.lowWater ∧
        u.store.low = if 12288 - s.store.lines.length < u.store.lowWater then true
          else if min (u.store.lowWater + 64) 12288 ≤ 12288 - s.store.lines.length then false else s.store.low)

/-- R184: SET-ATTENTION; presence items 1 the vector table, 2 the mask set, 3 the default vector (log entry 8). Bits beyond the three,
bits 16 to 31 of the mask word and bits 8 to 31 of the default-vector word are ignored (log entry 32). -/
def Obligations.SetAttentionSetsPresentItems : Prop :=
  ∀ s : State, s.GoServes .setAttention →
    ∃ u, exec .setAttention s = .next u ∧
      s.Answers u { status := .done, words := [[.sources u.att.mask], [.num u.att.defaultVector.toNat]] } [.mask, .vectors] ∧
      u.att.pendingSet = s.att.pendingSet ||| sourceBit 15 ∧
      (∀ n : Fin 16, u.att.vector n = if (s.reqWord 1).getLsbD 0
        then (s.reqWord ⟨2 + n.val / 4, by omega⟩).extractLsb' (8 * (n.val % 4)) 8 else s.att.vector n) ∧
      (∀ n : Fin 16, u.att.mask.getLsbD n.val = if (s.reqWord 1).getLsbD 1 then (s.reqWord 6).getLsbD n.val else s.att.mask.getLsbD n.val) ∧
      u.att.defaultVector = if (s.reqWord 1).getLsbD 2 then (s.reqWord 7).extractLsb' 0 8 else s.att.defaultVector

/-! ### Requests served at a grant: sites -/

/-- R188, R18: the places of the fields of ARM and STAGE, and checks 1 to 5 of R18 in their order for both. A STAGE that waits for
its grant has the port RUNNING (an invariant, StepKeepsQueuesAgree). -/
def Obligations.ArmWordsAndFirstChecks : Prop :=
  (∀ s : State, s.armWords =
    { site := ((s.reqWord 1).extractLsb' 0 16).toNat, template := ((s.reqWord 1).extractLsb' 16 4).toNat,
      policy := ((s.reqWord 1).extractLsb' 20 2).toNat,
      quota := if (s.reqWord 1).getLsbD 22 then some ((s.reqWord 3).extractLsb' 0 16).toNat else none,
      carryCount := ((s.reqWord 1).extractLsb' 24 4).toNat, tag := s.reqWord 2 }) ∧
  (∀ (w : Word) (e : CarryIn), carryInOf w = some e ↔
    (w.extractLsb' 16 5).toNat = e.domain.val ∧ (w.extractLsb' 24 2).toNat = (match e.axis with | .row => 1 | .column => 2) ∧ w.extractLsb' 0 16 = e.addr) ∧
  (∀ (s : State) (n : Nat) (l : List CarryIn), n ≤ 8 →
    (s.carryInList n = some l ↔ l.length = n ∧ ∀ k : Fin 8, k.val < n → carryInOf (s.reqWord ⟨4 + k.val, by omega⟩) = l[k.val]?)) ∧
  (∀ s : State,
    let a := s.armWords
    let checks : List (Refuse × Bool) :=
      [(.badSite, decide (255 < a.site)), (.badTemplate, decide (7 < a.template)),
       (.badField, !(a.policy == 1 || a.policy == 2) || a.quota.any (fun q => decide (q < 8) || decide (12288 < q)) || decide (8 < a.carryCount)
          || (s.carryInList a.carryCount).isNone),
       (.badCarryIn, (s.carryInList a.carryCount).any fun l => decide (¬ l.Nodup)),
       (.templateInvalid, (templateNo? a.template).any fun t => (s.template t).active.isNone)]
    (∀ why, s.armFields = .error why ↔ (checks.find? (·.2)).map Prod.fst = some why) ∧
    (∀ i x, s.armFields = .ok (i, x) → a.site = i.val ∧ a.template = x.template.val ∧ a.policy = (match x.policy with | .stop => 1 | .continue_ => 2) ∧
      a.quota = x.quota ∧ s.carryInList a.carryCount = some x.carryIn ∧ x.tag = s.reqWord 2)) ∧
  (∀ (s : State) (why : Refuse), s.armFields = .error why →
    (s.HostDue .arm → s.GrantRefused .arm why) ∧ (s.HostDue .stage → s.port.state = .running → s.GrantRefused .stage why) ∧ (s.GoServes .stage → s.Refuses .stage why))

/-- R3, R4: the line counts and base spares of a geometry. R18, R16, R17: checks 6 to 9 of an ARM at its grant, and the context that it makes current. -/
def Obligations.ArmMakesContextCurrent : Prop :=
  (∀ g : Geometry, g.lineCount .row = g.rows / g.rowGroup ∧ g.lineCount .column = g.columns / g.columnGroup ∧
    g.spares .row = g.spareRows ∧ g.spares .column = g.spareColumns) ∧
  ∀ (s : State) (i : SiteNo) (x : Staged), s.HostDue .arm → s.armFields = .ok (i, x) →
    (s.siteState i ≠ .vacant → s.GrantRefused .arm .badState) ∧
    ∀ g : Geometry, s.siteState i = .vacant → (s.template x.template).active = some g →
      let outside := ∃ e ∈ x.carryIn, g.domainCount ≤ e.domain.val ∨ g.lineCount e.axis ≤ e.addr.toNat
      let crowded := ∃ e ∈ x.carryIn, g.spares e.axis < (x.carryIn.filter fun f => f.domain == e.domain && f.axis == e.axis).length
      (outside → s.GrantRefused .arm .badCarryIn) ∧
      (¬ outside → crowded → s.GrantRefused .arm .noSpare) ∧
      (¬ outside → ¬ crowded → s.freeCount < x.carryIn.length → s.GrantRefused .arm .storeFull) ∧
      (¬ outside → ¬ crowded → x.carryIn.length ≤ s.freeCount →
        ∃ u, exec .arm s = .next u ∧
          s.Grants u { status := .done, words := [[.num ((s.template x.template).useCount + 1)]] } [.templates, .sites, .lines, .low, .clock] ∧
          s.MadeCurrent u i x g ∧ (u.site i).staged = (s.site i).staged)

/-- R20, R65: STAGE by the site state when it is served, at a grant or directly. A request that waits for its grant has the port RUNNING (an
invariant, StepKeepsQueuesAgree). -/
def Obligations.StageByState : Prop :=
  (∀ (s : State) (i : SiteNo) (x : Staged), s.HostDue .stage → s.port.state = .running → s.armFields = .ok (i, x) →
    (s.siteState i ≠ .vacant → (s.site i).staged ≠ none → s.GrantRefused .stage .stagedFull) ∧
    (s.siteState i ≠ .vacant → (s.site i).staged = none →
      ∃ u, exec .stage s = .next u ∧ s.Grants u { status := .done, words := [[.result .staged]] } [.sites] ∧
        u.site i = { s.site i with staged := some x } ∧ ∀ j, j ≠ i → u.site j = s.site j) ∧
    ∀ g : Geometry, s.siteState i = .vacant → (s.template x.template).active = some g →
      let outside := ∃ e ∈ x.carryIn, g.domainCount ≤ e.domain.val ∨ g.lineCount e.axis ≤ e.addr.toNat
      let crowded := ∃ e ∈ x.carryIn, g.spares e.axis < (x.carryIn.filter fun f => f.domain == e.domain && f.axis == e.axis).length
      (outside → s.GrantRefused .stage .badCarryIn) ∧
      (¬ outside → crowded → s.GrantRefused .stage .noSpare) ∧
      (¬ outside → ¬ crowded → s.freeCount < x.carryIn.length → s.GrantRefused .stage .storeFull) ∧
      (¬ outside → ¬ crowded → x.carryIn.length ≤ s.freeCount →
        ∃ u, exec .stage s = .next u ∧
          s.Grants u { status := .done, words := [[.result .promoted], [.num ((s.template x.template).useCount + 1)]] }
            [.templates, .sites, .lines, .low, .clock] ∧
          s.MadeCurrent u i x g ∧ (u.site i).staged = (s.site i).staged)) ∧
  (∀ (s : State) (i : SiteNo) (x : Staged), s.GoServes .stage → s.armFields = .ok (i, x) → s.siteState i ≠ .vacant →
    ((s.site i).staged ≠ none → s.Refuses .stage .stagedFull) ∧
    ((s.site i).staged = none →
      ∃ u, exec .stage s = .next u ∧ s.Answers u { status := .done, words := [[.result .staged]] } [.sites] ∧
        u.site i = { s.site i with staged := some x } ∧ ∀ j, j ≠ i → u.site j = s.site j))

/-- R19, R55, R6: DISARM. -/
def Obligations.DisarmReturnsToVacant : Prop :=
  ∀ s : State, s.HostDue .disarm →
    (255 < s.param 1 → s.GrantRefused .disarm .badSite) ∧
    (∀ i : SiteNo, s.param 1 = i.val → s.siteState i ≠ .armed → s.GrantRefused .disarm .badState) ∧
    (∀ (i : SiteNo) (c : Context), s.param 1 = i.val → s.ctx i = some c → c.phase = .armed →
      ∃ u, exec .disarm s = .next u ∧
        s.Grants u { status := .done, words := [[.num (s.store.lines.filter fun r => r.key.site == i).length], [.flag (s.site i).staged.isSome]] }
          [.templates, .sites, .lines, .low, .settleList, .coTable] ∧
        s.SiteFreed u i ∧ s.TemplateFreed u c.template ∧
        u.site i = { s.site i with ctx := none, staged := none, drainDeadline := none } ∧ ∀ j, j ≠ i → u.site j = s.site j)

/-- R35, R38, R28, R36: ABORT in each site state. What follows in the same event is log entry 12's (DEDUCED). The time of the event is free
(log entry 4). -/
def Obligations.AbortByState : Prop :=
  ∀ s : State, s.HostDue .abort →
    (255 < s.param 1 → s.GrantRefused .abort .badSite) ∧
    (∀ i : SiteNo, s.param 1 = i.val → s.siteState i ∈ [.vacant, .armed, .held] → s.GrantRefused .abort .badState) ∧
    (∀ (i : SiteNo) (c : Context), s.param 1 = i.val → s.ctx i = some c →
      let why := c.reason.getD .aborted
      (c.phase = .testing →
        ∃ u, exec .abort s = .next u ∧
          s.Grants u { status := .done, words := [[.siteState .draining], [.reason why]] }
            [.sites, .lines, .low, .settleList, .coTable, .links, .clock] ∧
          s.SiteFreed u i ∧ s.now ≤ u.now ∧
          u.site i = { s.site i with ctx := some { c with phase := .draining, reason := some why }, drainDeadline := some (u.now + 10 * s.lists.drainTimeout) } ∧
          (∀ j, j ≠ i → u.site j = s.site j) ∧
          s.LinksFollow u fun h l =>
            if h = headOf i ∧ l.state = .up ∧ slotOf i ∉ l.drains then { l with drains := l.drains ++ [slotOf i] } else l) ∧
      (c.phase = .draining →
        ∃ u, exec .abort s = .next u ∧
          s.Grants u { status := .done, words := [[.siteState .draining], [.reason why]] } [.sites, .lines, .low, .settleList, .coTable] ∧
          s.SiteFreed u i ∧ u.site i = { s.site i with ctx := some { c with reason := some why } } ∧ ∀ j, j ≠ i → u.site j = s.site j) ∧
      (c.phase = .sweeping →
        ∃ u, exec .abort s = .next u ∧
          s.Grants u { status := .done, words := [[.siteState .held], [.reason why]] }
            [.sites, .lines, .low, .settleList, .coTable, .sweepQueue, .sweepPos, .collectionQueue, .export_, .clock] ∧
          s.SiteFreed u i ∧ u.site i = { s.site i with ctx := some { c with phase := .held, reason := some why } } ∧
          (∀ j, j ≠ i → u.site j = s.site j) ∧ u.lists.sweepQueue = s.lists.sweepQueue.filter (fun j => !(j == i)) ∧
          u.engine.sweepPos = s.engine.sweepPos.filter (fun p => !(p.site == i)) ∧
          ({ s.ex with collectionQueue := s.ex.collectionQueue ++ [i] } : Exporter).Followed u))

/-! ### Requests served at a grant: line records -/

/-- R130, R133: the checks of the five host record requests in their order: `edit` marks the three edits, `named` the requests that name a
line, `lost` the two that DOMAIN_LOST concerns. The codes of an axis and of a cursor are log entry 8's. -/
def Obligations.RecordRequestsRefused : Prop :=
  (axis? 1 = some .row ∧ axis? 2 = some .column ∧ (∀ n, n ∉ [1, 2] → axis? n = none) ∧ (∀ addr, cursor? 0 addr = some none) ∧
    ∀ n a addr, axis? n = some a → addr < 65536 → cursor? n addr = some (some (a, BitVec.ofNat 16 addr))) ∧
  ∀ (s : State) (r : Request) (c : Instr) (edit named lost : Bool),
    (r, c, edit, named, lost) ∈ ([(.lookupLine, .lookupLine, false, true, false), (.listLines, .listLines, false, false, false),
      (.pinLine, .pinLine, true, true, true), (.retireLine, .retireLine, true, true, false),
      (.markSpareDefective, .markSpareDefective, true, false, true)] : List (Request × Instr × Bool × Bool × Bool)) →
    s.HostDue r →
    let badAxis := if r = .listLines then s.param 3 ∉ [0, 1, 2] ∨ (s.param 3 ≠ 0 ∧ 65535 < s.param 4) else s.param 3 ∉ [1, 2]
    (255 < s.param 1 → s.GrantRefused c .badSite) ∧
    ∀ i : SiteNo, s.param 1 = i.val →
      (15 < s.param 2 ∨ badAxis → s.GrantRefused c .badField) ∧
      ∀ d : DomainNo, s.param 2 = d.val → ¬ badAxis →
        (edit = true → s.siteState i = .vacant → s.GrantRefused c .badState) ∧
        (edit = true → s.siteState i ∈ [.sweeping, .held] → s.GrantRefused c .siteClosing) ∧
        ∀ x : Context, s.ctx i = some x →
          (edit = true → s.siteState i ∈ [.armed, .testing, .draining] → x.reason ≠ none → s.GrantRefused c .linesLost) ∧
          ((edit = true → s.siteState i ∈ [.armed, .testing, .draining] ∧ x.reason = none) →
            (x.geometry.domainCount ≤ d.val → s.GrantRefused c .outOfRange) ∧
            (d.val < x.geometry.domainCount →
              let beyond := named = true ∧ ∃ a, axis? (s.param 3) = some a ∧ x.geometry.lineCount a ≤ s.param 4
              (beyond → s.GrantRefused c .outOfRange) ∧
              (¬ beyond → lost = true → (s.domain? i d).map (·.state) = some .unrepairable → s.GrantRefused c .domainLost)))

/-- R132, R133, R139: LOOKUP-LINE and LIST-LINES change no line, flag, budget or list, unless a record they read fails its check: then the
first such record loses the site its lines (R58, R59, R34) and the request is refused. The places of the parameters are log entries 7 and 8.
What follows in the same event is log entry 12's (DEDUCED). That LIST-LINES shows 0 as domain state and available counts of a
VACANT site, and START as 0, is log entry 24's (DEDUCED); that both requests show 0 as the origin of a CANDIDATE line is log entry 33's (DESIGN
CHOICE); the order of reading is log entry 14's. -/
def Obligations.ReadingRequestsReadLines : Prop :=
  (∀ (s : State) (i : SiteNo) (d : DomainNo) (a : Axis), s.HostDue .lookupLine → s.param 1 = i.val → s.param 2 = d.val →
    axis? (s.param 3) = some a →
    (∀ x, s.ctx i = some x → d.val < x.geometry.domainCount ∧ s.param 4 < x.geometry.lineCount a) →
    let found : Option LineRec :=
      if s.param 4 < 65536 then s.findLine { site := i, domain := d, axis := a, addr := BitVec.ofNat 16 (s.param 4) } else none
    let state : ReplyField := match s.domain? i d with | some x => .domainState x.state | none => .zero
    (found = none →
      ∃ u, exec .lookupLine s = .next u ∧
        s.Grants u { status := .done, words := [.result .notFound, .siteState (s.siteState i), state, .zero, .zero, .zero] :: [.num 0] ::
          List.replicate 8 [.num 0, .num 0] } []) ∧
    (∀ r, found = some r → r.syndrome = 0 →
      ∃ u, exec .lookupLine s = .next u ∧
        s.Grants u { status := .done, words :=
          [.result .found, .siteState (s.siteState i), state, .lineState r.state, (match r.state with | .assigned o => .origin o | .candidate => .zero),
           .num r.cross.length] :: [.num r.failCount.toNat] ::
          (List.range 8).map fun n => [.num (r.cross.getD (2 * n) 0).toNat, .num (r.cross.getD (2 * n + 1) 0).toNat] } []) ∧
    (∀ r, found = some r → r.syndrome ≠ 0 → s.LookupLoses .lookupLine i r.index id s.LowFollows)) ∧
  (∀ (s : State) (i : SiteNo) (d : DomainNo) (cursor : Option (Axis × LineAddr)), s.HostDue .listLines → s.param 1 = i.val → s.param 2 = d.val →
    cursor? (s.param 3) (s.param 4) = some cursor → (∀ x, s.ctx i = some x → d.val < x.geometry.domainCount) →
    let above (from_ : Option Key) : List LineRec :=
      s.store.lines.filter fun r => r.key.site == i && r.key.domain == d && from_.all fun k => decide (k.rank < r.key.rank)
    let start : Option Key := cursor.map fun c => { site := i, domain := d, axis := c.1, addr := c.2 }
    let page := (above start).take 6
    let next : Option Key := (page.getLast?.map (·.key)).orElse fun _ => start
    ((∀ r ∈ page, r.syndrome = 0) →
      ∃ u, exec .listLines s = .next u ∧
        s.Grants u { status := .done, words :=
          [.num page.length, .flag (above next).isEmpty, .siteState (s.siteState i),
            (match s.domain? i d with | some x => .domainState x.state | none => .zero)]
          :: (match next with | some k => [.axis k.axis, .num k.addr.toNat] | none => [.zero, .zero])
          :: (page.flatMap fun r => [[.axis r.key.axis, .num r.key.addr.toNat, .lineState r.state,
                (match r.state with | .assigned o => .origin o | .candidate => .zero), .num r.cross.length], [.num r.failCount.toNat]])
          ++ List.replicate (12 - 2 * page.length) [] ++ [[.num (s.available i d .row), .num (s.available i d .column)]] } []) ∧
    (∀ pre r post, page = pre ++ r :: post → (∀ y ∈ pre, y.syndrome = 0) → r.syndrome ≠ 0 →
      s.LookupLoses .listLines i r.index id s.LowFollows))

/-- R135, R136, R131, R93, R139: PIN-LINE in the order of its judgments, what an append to the Settle List does, and the first damaged
record, the line itself or a partner (R87), which loses the site its lines. What follows in the same event is log entry 12's (DEDUCED). -/
def Obligations.PinLineAssignsOrCreates : Prop :=
  (∀ (i : SiteNo) (d : DomainNo) (l : List SettleEntry),
    ((∀ e ∈ l, ¬ (e.site = i ∧ e.domain = d)) → settleAppend i d l = l ++ [{ site := i, domain := d, cursor := none, renew := false }]) ∧
    ((∃ e ∈ l, e.site = i ∧ e.domain = d) →
      settleAppend i d l = l.map fun e => if e.site = i ∧ e.domain = d ∧ e.cursor ≠ none then { e with renew := true } else e)) ∧
  ∀ (s : State) (i : SiteNo) (d : DomainNo) (a : Axis) (c : Context), s.HostDue .pinLine → s.param 1 = i.val → s.param 2 = d.val →
    axis? (s.param 3) = some a → s.ctx i = some c → c.phase ∈ [.armed, .testing, .draining] → c.reason = none →
    d.val < c.geometry.domainCount → s.param 4 < c.geometry.lineCount a → s.param 4 < 65536 →
    (s.domain? i d).map (·.state) ≠ some .unrepairable →
    let k : Key := { site := i, domain := d, axis := a, addr := BitVec.ofNat 16 (s.param 4) }
    let spent (b : Context) : Context := b.editDomain d (DomainRec.oneAssigned a)
    let edited (u : State) : Prop := s.ContextEdited u i (fun b => { spent b with flags := { b.flags with hostEdited := true } }) ∧
      u.engine.settleList = settleAppend i d s.engine.settleList
    (∀ r o, s.findLine k = some r → r.syndrome = 0 → r.state = .assigned o → s.GrantRefused .pinLine .already [[.origin o]]) ∧
    ((∀ r, s.findLine k = some r → r.syndrome = 0 ∧ r.state = .candidate) → s.available i d a = 0 → s.GrantRefused .pinLine .noSpare) ∧
    (∀ r, s.findLine k = some r → r.syndrome ≠ 0 → s.LookupLoses .pinLine i r.index id s.LowFollows) ∧
    (∀ r p, s.findLine k = some r → r.syndrome = 0 → r.state = .candidate → 0 < s.available i d a → s.firstBadPartner r p →
      s.LookupLoses .pinLine i p.index spent fun u => s.LowAfter u 0) ∧
    (s.findLine k = none → 0 < s.available i d a → s.freeCount = 0 → s.GrantRefused .pinLine .storeFull) ∧
    (s.findLine k = none → 0 < s.available i d a → 0 < s.freeCount → c.quota ≤ s.inUse i → s.GrantRefused .pinLine .quota) ∧
    (s.findLine k = none → 0 < s.available i d a → 0 < s.freeCount → s.inUse i < c.quota →
      ∃ u r, exec .pinLine s = .next u ∧
        s.Grants u { status := .done, words := [[.flag true], [.num 0], [.num 0], [.num (s.available i d a - 1)]] }
          [.sites, .lines, .low, .settleList, .clock] ∧
        edited u ∧ s.LowAfter u 1 ∧ u.store.lines.Perm (r :: s.store.lines) ∧ r.key = k ∧ r.state = .assigned .pinned ∧ r.failCount = 0 ∧ r.cross = [] ∧ r.syndrome = 0) ∧
    (∀ r, s.findLine k = some r → r.syndrome = 0 → r.state = .candidate → 0 < s.available i d a →
      s.partnersSound k r.cross →
      ∃ u, exec .pinLine s = .next u ∧
        s.Grants u { status := .done, words := [[.flag false], [.num (s.store.lines.length - u.store.lines.length)], [.num r.failCount.toNat],
          [.num (s.available i d a - 1)]] } [.sites, .lines, .low, .settleList] ∧
        edited u ∧ s.Assigned u k .pinned r ∧ s.LowAfter u 0)

/-- R5: the available spares, base less defective less assigned (that there are none where a domain has no record is log entry 24's,
DEDUCED). R137, R138, R131, R139: RETIRE-LINE, with the first damaged record it reads, the line itself or a partner, and MARK-SPARE-DEFECTIVE.
What follows in the same event is log entry 12's (DEDUCED). -/
def Obligations.RetireAndMarkSpare : Prop :=
  (∀ (s : State) (i : SiteNo) (d : DomainNo), s.domain? i d = (match s.ctx i with | some c => c.domains[d.val]? | none => none) ∧
    (∀ x : DomainRec, s.domain? i d = some x →
      s.available i d .row = x.base.row - x.defective.row - x.assigned.row ∧
      s.available i d .column = x.base.column - x.defective.column - x.assigned.column) ∧
    (s.domain? i d = none → ∀ a, s.available i d a = 0)) ∧
  (∀ p : PerAxis, p.get .row = p.row ∧ p.get .column = p.column ∧ p.inc .row = { p with row := p.row + 1 } ∧
    p.inc .column = { p with column := p.column + 1 }) ∧
  (∀ (s : State) (i : SiteNo) (d : DomainNo) (a : Axis) (c : Context), s.HostDue .retireLine → s.param 1 = i.val → s.param 2 = d.val →
    axis? (s.param 3) = some a → s.ctx i = some c → c.phase ∈ [.armed, .testing, .draining] → c.reason = none →
    d.val < c.geometry.domainCount → s.param 4 < c.geometry.lineCount a → s.param 4 < 65536 →
    let k : Key := { site := i, domain := d, axis := a, addr := BitVec.ofNat 16 (s.param 4) }
    (s.findLine k = none → s.GrantRefused .retireLine .notFound) ∧
    (∀ r o, s.findLine k = some r → r.syndrome = 0 → r.state = .assigned o → s.GrantRefused .retireLine .lineAssigned) ∧
    (∀ r, s.findLine k = some r → r.syndrome ≠ 0 → s.LookupLoses .retireLine i r.index id s.LowFollows) ∧
    (∀ r p, s.findLine k = some r → r.syndrome = 0 → r.state = .candidate → s.firstBadPartner r p →
      s.LookupLoses .retireLine i p.index id fun u => s.LowAfter u 0) ∧
    (∀ r, s.findLine k = some r → r.syndrome = 0 → r.state = .candidate → keysRise s.store.lines → s.partnersSound k r.cross →
      ∃ u, exec .retireLine s = .next u ∧
        s.Grants u { status := .done, words := [[.num r.cross.length], [.num (s.store.lines.length - u.store.lines.length - 1)], [.num r.failCount.toNat]] }
          [.sites, .lines, .low] ∧
        u.site i = { s.site i with ctx := some { c with flags := { c.flags with hostEdited := true } } } ∧ (∀ j, j ≠ i → u.site j = s.site j) ∧
        u.findLine k = none ∧ s.LowAfter u 0 ∧
        (∀ x ∈ r.cross, ∀ p, s.findLine { k with axis := a.other, addr := x } = some p →
          u.findLine { k with axis := a.other, addr := x } =
            if p.cross.filter (fun y => !(y == k.addr)) = [] then none else some { p with cross := p.cross.filter fun y => !(y == k.addr), syndrome := 0 }) ∧
        (∀ q, q ≠ k → (∀ x ∈ r.cross, q ≠ { k with axis := a.other, addr := x }) → u.findLine q = s.findLine q))) ∧
  (∀ (s : State) (i : SiteNo) (d : DomainNo) (a : Axis) (c : Context) (x : DomainRec), s.HostDue .markSpareDefective → s.param 1 = i.val →
    s.param 2 = d.val → axis? (s.param 3) = some a → s.ctx i = some c → c.phase ∈ [.armed, .testing, .draining] → c.reason = none →
    d.val < c.geometry.domainCount → s.domain? i d = some x → x.state ≠ .unrepairable →
    (s.available i d a = 0 → s.GrantRefused .markSpareDefective .noSpare) ∧
    (0 < s.available i d a →
      ∃ u, exec .markSpareDefective s = .next u ∧
        s.Grants u { status := .done, words := [[.num (x.defective.get a + 1)], [.num (s.available i d a - 1)]] } [.sites, .settleList] ∧
        u.site i = { s.site i with ctx := some { c with
          flags := { c.flags with hostEdited := true }
          domains := c.domains.set d.val { x with defective := x.defective.inc a } } } ∧
        (∀ j, j ≠ i → u.site j = s.site j) ∧ u.engine.settleList = settleAppend i d s.engine.settleList))

/-! ### Head links and timers -/

/-- R146, R147: a good HELLO in each link state. What follows in the same event is log entry 12's (DEDUCED). -/
def Obligations.HelloJudgedByState : Prop :=
  ∀ (s : State) (h : HeadNo) (serial : BitVec 16) (slotCount level : Byte), s.Ready →
    ((s.link h).state ∈ [.down, .faulted] → exec (.helloReceived h serial slotCount level) s = .next s) ∧
    ((s.link h).state = .up →
      ∃ u, exec (.helloReceived h serial slotCount level) s = .next u ∧ s.Happens u [.links] ∧
        u.link h = { s.link h with badCount := 0, causes := { (s.link h).causes with badHello := true } } ∧ ∀ k, k ≠ h → u.link k = s.link k) ∧
    ((s.link h).state = .training → ¬ (level = 1 ∧ 1 ≤ slotCount.toNat ∧ slotCount.toNat ≤ 32) →
      ∃ u, exec (.helloReceived h serial slotCount level) s = .next u ∧ s.Happens u [.links] ∧
        u.link h = { s.link h with causes := { (s.link h).causes with badHello := true } } ∧ ∀ k, k ≠ h → u.link k = s.link k) ∧
    ((s.link h).state = .training → level = 1 → 1 ≤ slotCount.toNat → slotCount.toNat ≤ 32 →
      ∃ u, exec (.helloReceived h serial slotCount level) s = .next u ∧ s.Happens u [.links] ∧
        s.LinksFollow u fun k l => if k = h
          then { l with state := .up, trainingDeadline := none, serial, slotCount := slotCount.toNat, balance := 0, badCount := 0, downCredit := some 64,
                        causes := { l.causes with upReached := true }, downGate := some (u.gateSet h), gateHanded := u.gateSet h }
          else l)

/-- R147, R149, R150, R31: a good counted frame in each link state; on an UP link it is placed against a credit, or it faults the link. What
follows in the same event is log entry 12's (DEDUCED). -/
def Obligations.CountedFramesTakeACredit : Prop :=
  ∀ (s : State) (h : HeadNo) (f : UpFrame), s.Ready →
    let c : Instr := match f with
      | .fail slot d row col len => .failReceived h slot d row col len
      | .endFrame slot => .endReceived h slot
      | .hold slot on => .holdReceived h slot on
    ((s.link h).state ≠ .up → exec c s = .next s) ∧
    ((s.link h).state = .up → 0 < (s.link h).balance →
      ∃ u, exec c s = .next u ∧ s.Happens u [.links] ∧
        u.link h = { s.link h with badCount := 0, balance := (s.link h).balance - 1, fifo := (s.link h).fifo ++ [f] } ∧ ∀ k, k ≠ h → u.link k = s.link k) ∧
    ((s.link h).state = .up → (s.link h).balance = 0 →
      ∃ u, exec c s = .next u ∧ s.Happens u [.links, .sites] ∧
        s.LinkFaults u h 0 { (s.link h).causes with overrun := true, faulted := true } false)

/-- R147, R148, R150, R31: a bad frame in each link state; the fourth in a row faults an UP link. What follows in the same event is log
entry 12's (DEDUCED). -/
def Obligations.BadFramesAreCounted : Prop :=
  ∀ (s : State) (h : HeadNo), s.Ready →
    ((s.link h).state ∈ [.down, .faulted] → exec (.badFrameReceived h) s = .next s) ∧
    ((s.link h).state = .training →
      ∃ u, exec (.badFrameReceived h) s = .next u ∧ s.Happens u [.links] ∧
        u.link h = { s.link h with causes := { (s.link h).causes with badFrame := true } } ∧ ∀ k, k ≠ h → u.link k = s.link k) ∧
    ((s.link h).state = .up → (s.link h).badCount < 3 →
      ∃ u, exec (.badFrameReceived h) s = .next u ∧ s.Happens u [.links, .sites] ∧
        (s.LinksFollow u fun k l => if k = h
          then (if 0 < l.balance
            then { l with badCount := l.badCount + 1, causes := { l.causes with badFrame := true }, balance := l.balance - 1,
                          downCredit := some (l.downCredit.getD 0 + 1) }
            else { l with badCount := l.badCount + 1, causes := { l.causes with badFrame := true } })
          else l) ∧
        ∀ i : SiteNo, u.site i = if headOf i = h
          then { s.site i with ctx := (s.ctx i).map fun x => if x.phase = .testing ∨ x.phase = .draining
            then { x with flags := { x.flags with suspect := true } } else x }
          else s.site i) ∧
    ((s.link h).state = .up → 3 ≤ (s.link h).badCount →
      ∃ u, exec (.badFrameReceived h) s = .next u ∧ s.Happens u [.links, .sites] ∧
        s.LinkFaults u h ((s.link h).badCount + 1) { (s.link h).causes with badFrame := true, faulted := true } true)

/-- R145: the training deadline, and both orders of a valid HELLO and the deadline. -/
def Obligations.TrainingDeadlineFaultsTheLink : Prop :=
  (∀ (s : State) (h : HeadNo) (t : Nat), s.Ready → (s.link h).state = .training → (s.link h).trainingDeadline = some t →
    ∃ u, exec (.trainingDeadline h) s = .next u ∧ s.Happens u [.links, .clock] ∧
      u.link h = { s.link h with state := .faulted, trainingDeadline := none,
                                 causes := { (s.link h).causes with trainingTimeout := true, faulted := true } } ∧
      (∀ k, k ≠ h → u.link k = s.link k) ∧
      ∀ serial slotCount level, exec (.helloReceived h serial slotCount level) u = .next u) ∧
  (∀ (s : State) (h : HeadNo), s.Ready → (s.link h).trainingDeadline = none → exec (.trainingDeadline h) s = .next s) ∧
  (∀ (s : State) (h : HeadNo) (serial : BitVec 16) (slotCount level : Byte), s.Ready → (s.link h).state = .training → level = 1 →
    1 ≤ slotCount.toNat → slotCount.toNat ≤ 32 →
    ∃ u, exec (.helloReceived h serial slotCount level) s = .next u ∧ (u.link h).state = .up ∧ (u.link h).trainingDeadline = none ∧
      exec (.trainingDeadline h) u = .next u) ∧
  (∀ (c : Instr) (s t : State), (∀ h, (s.link h).timedInTraining ∧ (s.link h).ordered) → exec c s = .next t →
    ∀ h, (t.link h).state ≠ .training → (t.link h).trainingDeadline = none)

/-- R29: the drain deadline of a DRAINING site. The clock is log entry 4's; a deadline that is not running does not pass, log entry 2. What
follows in the same event is log entry 12's (DEDUCED). -/
def Obligations.DrainDeadlineSweepsTheSite : Prop :=
  (∀ (s : State) (i : SiteNo) (c : Context) (t : Nat), s.Ready → s.ctx i = some c → c.phase = .draining → (s.site i).drainDeadline = some t →
    ∃ u, exec (.drainDeadline i) s = .next u ∧ s.Happens u [.sites, .sweepQueue, .clock] ∧ u.now = max s.now t ∧
      u.site i = { s.site i with ctx := some { c with phase := .sweeping, flags := { c.flags with drainTimeout := true } }, drainDeadline := none } ∧
      (∀ j, j ≠ i → u.site j = s.site j) ∧ u.lists.sweepQueue = s.lists.sweepQueue ++ [i]) ∧
  (∀ (s : State) (i : SiteNo), s.Ready → (s.siteState i ≠ .draining ∨ (s.site i).drainDeadline = none) → exec (.drainDeadline i) s = .next s)

/-! ### The Export Engine -/

/-- R166, R167: when a record's write begins, and when an assembly begins and of which site. R163, R164, R189: when the next descriptor becomes current, which access the initiator takes next, what the words of a descriptor come
to, and what each read of a fetch does. Addresses wrap (log entry 16). An acceptance with no read in flight changes nothing: MODEL'S CHOICE,
log entries 2 and 25. What follows in the same event is log entry 12's (DEDUCED). -/
def Obligations.DescriptorsAreFetchedAhead : Prop :=
  (∀ e : Exporter,
    ((e.buffer = none ∨ e.writePos ≠ none ∨ ∀ d, e.current ≠ .held d) → e.beginWrite = e) ∧
    (∀ r d, e.buffer = some r → e.writePos = none → e.current = .held d → e.beginWrite = { e with writePos := some 0 })) ∧
  (∀ e : Exporter,
    ((e.collectionQueue = [] ∨ e.buffer ≠ none ∨ e.assembling ≠ none ∨ e.stall ≠ none) → e.beginAssembly = e) ∧
    (∀ i rest, e.collectionQueue = i :: rest → e.buffer = none → e.assembling = none → e.stall = none →
      e.beginAssembly = { e with assembling := some i })) ∧
  (∀ e : Exporter, e.writeBacks = [] → e.fetchOrder = [] → (e.buffer = none ∨ e.writePos = none) → e.nextAccess = none) ∧
  (∀ e : Exporter, (e.current ≠ .empty ∨ ∀ d, e.nextSlot ≠ .held d) → e.promoteNext = e) ∧
  (∀ (e : Exporter) (d : Descriptor), e.current = .empty → e.nextSlot = .held d → d.nextAddr = none →
    e.promoteNext = { e with current := .held d, fillOffset := some 0, nextSlot := .empty }) ∧
  (∀ (e : Exporter) (d : Descriptor) (a : Word), e.current = .empty → e.nextSlot = .held d → d.nextAddr = some a →
    e.promoteNext = { e with current := .held d, fillOffset := some 0, nextSlot := .fetching a [], fetchOrder := e.fetchOrder ++ [.next] }) ∧
  (∀ (e : Exporter) (w : WriteBack) (rest : List WriteBack), e.writeBacks = w :: rest → e.nextAccess = some (.status (w.addr + 4) w.status)) ∧
  (∀ w : WriteBack, w.used < 2 ^ 21 →
    w.status.toNat = w.used + (match w.cause with | .full => 1 | .flushed => 3) * 2 ^ 24 + 2 ^ 31) ∧
  (∀ (e : Exporter) (j : SlotId) (rest : List SlotId) (a : Word) (got : List Word), e.writeBacks = [] → e.fetchOrder = j :: rest →
    (match j with | .current => e.current | .next => e.nextSlot) = .fetching a got →
    e.nextAccess = some (.read j (match got with | [] => a | [_] => a + 8 | [_, _] => a + 12 | _ => a + 16))) ∧
  (∀ (e : Exporter) (r : Record) (n f : Nat) (d : Descriptor) (w : Word), e.writeBacks = [] → e.fetchOrder = [] → e.buffer = some r →
    e.writePos = some n → e.current = .held d → e.fillOffset = some f → r.words[n]? = some w →
    e.nextAccess = some (.record (d.bufAddr + BitVec.ofNat 32 (4 * (f + n))) w)) ∧
  (∀ (addr p b n x : Word),
    let ok : Bool := decide (b.toNat % 4 = 0) && decide (528 ≤ n.toNat) && decide (n.toNat ≤ 1048576) && decide (b.toNat + 4 * n.toNat ≤ 2 ^ 32)
    let d : Descriptor := { addr, bufAddr := b, bufLen := n.toNat, nextAddr := if p.getLsbD 2 then some x else none, notify := p.getLsbD 3 }
    judgeFetch addr [p] = (if p.getLsbD 0 && p.getLsbD 1 && decide (p.toNat < 16) then .reading else .refused) ∧
    judgeFetch addr [p, b] = .reading ∧
    (p.getLsbD 2 = false → judgeFetch addr [p, b, n] = if ok then .taken d else .refused) ∧
    (p.getLsbD 2 = true → judgeFetch addr [p, b, n] = .reading ∧
      judgeFetch addr [p, b, n, x] = if ok && decide (x.toNat % 4 = 0) then .taken d else .refused)) ∧
  (∀ (s : State) (data : Word), s.Ready → (∀ a, s.ex.access = some a → ∀ j w, a.kind ≠ .read j w) → exec (.descriptorReadAccepted data) s = .next s) ∧
  (∀ (s : State) (data a : Word) (at_ : Access) (j : SlotId) (w : Word) (got : List Word), s.Ready → s.ex.access = some at_ → at_.kind = .read j w →
    (match j with | .current => s.ex.current | .next => s.ex.nextSlot) = .fetching a got →
    ∃ u, exec (.descriptorReadAccepted data) s = .next u ∧ s.Happens u [.export_, .clock] ∧
      let put (x : DescSlot) (e : Exporter) : Exporter := match j with | .current => { e with current := x } | .next => { e with nextSlot := x }
      let after : Exporter := { s.ex with access := none, fetchOrder := s.ex.fetchOrder.filter (· != j) }
      (judgeFetch a (got ++ [data]) = .reading → (put (.fetching a (got ++ [data])) { s.ex with access := none }).Followed u) ∧
      (judgeFetch a (got ++ [data]) = .refused → ({ put .empty after with badDescriptor := true } : Exporter).promoteNext.Followed u) ∧
      ∀ d, judgeFetch a (got ++ [data]) = .taken d →
        (j = .next → ({ after with nextSlot := .held d } : Exporter).promoteNext.Followed u) ∧
        (j = .current → (∀ n, d.nextAddr = some n → s.ex.nextSlot ≠ .empty) → ({ after with current := .held d, fillOffset := some 0 } : Exporter).Followed u) ∧
        (∀ n, j = .current → d.nextAddr = some n → s.ex.nextSlot = .empty →
          ({ after with current := .held d, fillOffset := some 0, nextSlot := .fetching n [], fetchOrder := after.fetchOrder ++ [.next] }
            : Exporter).Followed u))

/-- R167, R168, R37, R22: the acceptance of a record word; the last one releases the site, and the staged context is promoted or dropped. An
acceptance with no record word in flight changes nothing: MODEL'S CHOICE, log entries 2 and 25. What follows in the same event is log entry
12's (DEDUCED). -/
def Obligations.RecordWordsAndRelease : Prop :=
  (∀ s : State, s.Ready → (∀ a, s.ex.access = some a → ∀ x w, a.kind ≠ .record x w) → exec .recordWordAccepted s = .next s) ∧
  (∀ (s : State) (a : Access) (x w : Word) (r : Record) (n : Nat), s.Ready → s.ex.access = some a → a.kind = .record x w → s.ex.buffer = some r →
    s.ex.writePos = some n →
    (n + 1 < r.words.length →
      ∃ u, exec .recordWordAccepted s = .next u ∧ s.Happens u [.export_, .clock] ∧
        ({ s.ex with access := none, writePos := some (n + 1) } : Exporter).Followed u) ∧
    (r.words.length ≤ n + 1 → s.siteState r.site = .held →
      ∃ u, exec .recordWordAccepted s = .next u ∧
        s.Happens u [.templates, .sites, .stopNotices, .lines, .low, .settleList, .coTable, .export_, .collectionQueue, .clock] ∧
        u.templates = (s.release r.site).templates ∧ u.sites = (s.release r.site).sites ∧ u.store = (s.release r.site).store ∧
        u.lists = (s.release r.site).lists ∧ u.engine = (s.release r.site).engine ∧ u.co = (s.release r.site).co ∧
        let used := s.ex.fillOffset.getD 0 + r.words.length
        let after : Exporter := { s.ex with access := none, buffer := none, writePos := none, flushPending := false, fillOffset := some used,
                                            collectionQueue := s.ex.collectionQueue.filter fun j => !(j == r.site) }
        let closed (d : Descriptor) (cause : CloseCause) : Exporter :=
          ({ after with current := .empty, fillOffset := none,
                        writeBacks := after.writeBacks ++ [{ addr := d.addr, notify := d.notify, used, cause }] } : Exporter).promoteNext
        ∀ d, s.ex.current = .held d →
          (d.bufLen < used + 516 → (closed d .full).Followed u) ∧
          (used + 516 ≤ d.bufLen → s.ex.flushPending = true → (closed d .flushed).Followed u) ∧
          (used + 516 ≤ d.bufLen → s.ex.flushPending = false → after.Followed u))) ∧
  (∀ (s : State) (i : SiteNo) (c : Context), s.ctx i = some c →
    ∃ m, s.release i = m.promote i ∧ s.SiteFreed m i ∧ s.TemplateFreed m c.template ∧
      m.ex.collectionQueue = s.ex.collectionQueue.filter (fun j => !(j == i)) ∧
      m.site i = { ctx := none, hostHold := false, staged := (s.site i).staged, headHold := (s.site i).headHold, drainDeadline := none } ∧
      (∀ j, j ≠ i → m.site j = s.site j) ∧ FrameBut [.templates, .sites, .lines, .low, .settleList, .coTable, .collectionQueue] s m) ∧
  (∀ (m : State) (i : SiteNo), (m.site i).staged = none → m.promote i = m) ∧
  (∀ (m : State) (i : SiteNo) (x : Staged) (g : Geometry), m.ctx i = none → (m.site i).staged = some x → (m.template x.template).active = some g →
    let fits : Prop := (∀ e ∈ x.carryIn, e.domain.val < g.domainCount ∧ e.addr.toNat < g.lineCount e.axis) ∧
      (∀ e ∈ x.carryIn, (x.carryIn.filter fun f => f.domain == e.domain && f.axis == e.axis).length ≤ g.spares e.axis) ∧ x.carryIn.length ≤ m.freeCount
    (fits → m.MadeCurrent (m.promote i) i x g ∧ ((m.promote i).site i).staged = none ∧
      FrameBut [.templates, .sites, .lines, .low, .clock] m (m.promote i)) ∧
    (¬ fits → (m.promote i).site i = { m.site i with staged := none } ∧ (∀ j, j ≠ i → (m.promote i).site j = m.site j) ∧
      (m.promote i).lists.stopNotices = noticePosted i .stageFailed x.tag m.lists.stopNotices ∧ FrameBut [.sites, .stopNotices] m (m.promote i)))

/-- R169, R164: a status write-back accepted, and the expiry of the bus timeout for each kind of access. With nothing of its kind in flight
an acceptance or a timeout changes nothing: MODEL'S CHOICE, log entries 2 and 25. The clock is log entry 4's. What follows in the same event
is log entry 12's (DEDUCED). -/
def Obligations.WriteBackAndBusTimeout : Prop :=
  (∀ s : State, s.Ready → (∀ a, s.ex.access = some a → ∀ x w, a.kind ≠ .status x w) → exec .writeBackAccepted s = .next s) ∧
  (∀ (s : State) (a : Access) (x y : Word) (w : WriteBack) (rest : List WriteBack), s.Ready → s.ex.access = some a → a.kind = .status x y →
    s.ex.writeBacks = w :: rest →
    ∃ u, exec .writeBackAccepted s = .next u ∧ FrameBut [.export_, .clock, .pendingSet] s u ∧ s.SourcesKept u [13] ∧
      u.att.pendingSet.getLsbD 13 = (s.att.pendingSet.getLsbD 13 || w.notify) ∧
      ({ s.ex with access := none, writeBacks := rest } : Exporter).Followed u) ∧
  (∀ s : State, s.Ready → s.ex.access = none → exec .busTimeout s = .next s) ∧
  (∀ (s : State) (a : Access), s.Ready → s.ex.access = some a →
    ∃ u, exec .busTimeout s = .next u ∧ s.Happens u [.export_, .clock] ∧ u.now = max s.now a.deadline ∧
      u.ex = { s.ex with access := none, stall := some (match a.kind with | .read j _ => .fetch j | .record _ _ => .write | .status _ _ => .writeBack) })

/-- R166, R107, R112, R113, R190: the completion of an assembly and the words of the record it places. A completion with no assembly in
progress changes nothing: MODEL'S CHOICE, log entry 2. What follows in the same event is log entry 12's (DEDUCED). The first damaged line in key
order is the one captured: log entry 14 (DEDUCED). The domain outcome codes of OPEN and FAILING, which no record of a run holds, are log
entry 27's. -/
def Obligations.AssemblyFormsTheRecord : Prop :=
  (∀ s : State, s.Ready → s.ex.assembling = none → exec .assemblyCompletion s = .next s) ∧
  (∀ (s : State) (i : SiteNo) (c : Context), s.Ready → s.ex.assembling = some i → s.ctx i = some c → c.phase = .held →
    let lines := s.store.lines.filter fun r => r.key.site == i && !(r.state == .candidate)
    ((c.reason ≠ none ∨ ∀ r ∈ lines, r.syndrome = 0) →
      ∃ u, exec .assemblyCompletion s = .next u ∧ s.Happens u [.export_, .clock] ∧
        ({ s.ex with assembling := none, buffer := some { site := i, words := s.recordOf i } } : Exporter).Followed u) ∧
    (∀ pre r post, c.reason = none → lines = pre ++ r :: post → (∀ y ∈ pre, y.syndrome = 0) → r.syndrome ≠ 0 →
      ∃ u words, exec .assemblyCompletion s = .next u ∧ s.IntegrityLost u i r.index .assembly id ∧ s.LowFollows u ∧ s.SourcesKept u [0] ∧
        FrameBut [.sites, .stopNotices, .lines, .low, .capture, .settleList, .coTable, .export_, .clock, .pendingSet] s u ∧
        ({ s.ex with assembling := none, buffer := some { site := i, words } } : Exporter).Followed u ∧
        words = u.recordOf i ∧ words.length = 4 ∧ words[1]? = some c.tag ∧ words[3]? = some 4 ∧
        ∀ w, words[2]? = some w → w.extractLsb' 0 2 = 3 ∧ w.extractLsb' 4 3 = 3)) ∧
  (∀ (s : State) (i : SiteNo) (c : Context), s.ctx i = some c →
    let ofDomain (n : Nat) := s.store.lines.filter fun r => r.key.site == i && !(r.state == .candidate) && r.key.domain.val == n
    let sections : List Word := if c.reason = none then
        c.domains.zipIdx.flatMap fun (d, n) =>
          [BitVec.ofNat 32 ((match d.state with | .unrepairable => 2 | .repaired | .failing => 1 | .clean | .opened => 0) + d.assigned.row * 2 ^ 8
              + d.assigned.column * 2 ^ 12 + d.defective.row * 2 ^ 16 + d.defective.column * 2 ^ 20),
           BitVec.ofNat 32 d.failTotal.toNat]
          ++ (ofDomain n).map fun r => BitVec.ofNat 32 (r.key.addr.toNat + (match r.key.axis with | .row => 0 | .column => 1) * 2 ^ 16
              + (match r.state with | .assigned .sweep => 1 | .assigned .pinned => 2 | .assigned .carried => 3 | _ => 0) * 2 ^ 20)
      else []
    (s.recordOf i).drop 4 = sections ∧ (s.recordOf i)[0]? = some (BitVec.ofNat 32 i.val) ∧ (s.recordOf i)[1]? = some c.tag ∧
    (s.recordOf i)[3]? = some (BitVec.ofNat 32 (4 + sections.length)) ∧
    (c.geometry.domainCount ≤ 16 → ∀ w, (s.recordOf i)[2]? = some w →
      (w.extractLsb' 0 2).toNat = (if c.reason ≠ none then 3 else if ∃ d ∈ c.domains, d.state = .unrepairable then 2
        else if ∀ d ∈ c.domains, d.state = .clean then 0 else 1) ∧
      (w.extractLsb' 4 3).toNat = (match c.reason with | none => 0 | some .spill => 1 | some .quota => 2 | some .integrity => 3 | some .aborted => 4) ∧
      [w.getLsbD 8, w.getLsbD 9, w.getLsbD 10, w.getLsbD 11, w.getLsbD 12, w.getLsbD 13, w.getLsbD 14] =
        [c.flags.suspect, c.flags.drainTimeout, c.flags.linkLost, c.flags.badAddress, c.flags.hostEdited, c.flags.coincident, c.flags.earlyStop] ∧
      (w.extractLsb' 16 5).toNat = c.geometry.domainCount))

/-! ### The Repair Engine -/

/-- R63 to R67: what is due, which grant comes next, which head an intake grant chooses, and the completion of a work item. MODEL'S CHOICE:
a grant waits for the next command (log entry 1), and a completion with no item in progress changes nothing (log entry 2). -/
def Obligations.ArbiterAlternatesGroups : Prop :=
  (∀ s : State,
    (s.isHeld = true ∨ s.engine.inProgress ≠ none → s.due = .nothing) ∧
    (s.isHeld = false → s.engine.inProgress = none → s.due = s.nextGrant)) ∧
  (∀ s : State,
    let background := s.lists.sweepQueue ≠ [] ∨ s.engine.settleList ≠ []
    let intake := ∃ h, (s.link h).fifo ≠ [] ∨ (s.link h).marker = true
    (∀ r, s.engine.pendingHost = some r → s.nextGrant = .host r) ∧
    (s.engine.pendingHost = none → ¬ background → ¬ intake → s.nextGrant = .nothing) ∧
    (s.engine.pendingHost = none → background → (¬ intake ∨ s.engine.lastGroup = .intake) →
      s.nextGrant = if s.lists.sweepQueue ≠ [] then .sweep else .settle) ∧
    (s.engine.pendingHost = none → intake → (¬ background ∨ s.engine.lastGroup = .background) →
      ∃ h, s.chooseHead = some h ∧ s.nextGrant = .intake h)) ∧
  (∀ (s : State) (h : HeadNo), s.chooseHead = some h →
    let urgent (k : HeadNo) : Prop := 48 ≤ (s.link k).fifo.length
    let eligible (k : HeadNo) : Prop := ((s.link k).fifo ≠ [] ∨ (s.link k).marker = true) ∧ ((∃ j, urgent j) → urgent k)
    eligible h ∧ ∀ k, eligible k → (h - s.engine.lastHead - 1).val ≤ (k - s.engine.lastHead - 1).val) ∧
  (∀ s : State, s.Ready →
    (s.engine.inProgress = none → exec .workItemComplete s = .next s) ∧
    (∀ w, s.engine.inProgress = some w → (∀ reply, w ≠ .host reply) →
      exec .workItemComplete s = .next { s with engine := { s.engine with inProgress := none } }) ∧
    (∀ reply, s.engine.inProgress = some (.host reply) →
      ∃ u, exec .workItemComplete s = .next u ∧ u.Posted reply ∧ u.engine.inProgress = none ∧ s.SourcesKept u [15] ∧
        FrameBut [.workItem, .portState, .replyBuf, .pendingSet] s u))

/-- R101 to R107, R110: one sweep step of the oldest site in the Sweep Queue, from every phase of its position: the passes of the inline
settle above the cursor, the renewed pass and GREEDY in the same step, and the first damaged record it reads. What follows in the same event
is log entry 12's (DEDUCED). That GREEDY captures the first damaged line in key order is log entry 14's (DEDUCED). -/
def Obligations.SweepStepFinishesTheSite : Prop :=
  (∀ (s : State) (i : SiteNo) (rest : List SiteNo) (c : Context), s.Settled → s.due = .sweep → s.lists.sweepQueue = i :: rest → s.ctx i = some c →
    c.phase = .sweeping → c.reason ≠ none →
    ∃ u, exec .sweepStep s = .next u ∧ s.Works u .sweep [.sites, .sweepQueue, .sweepPos, .collectionQueue, .export_, .clock] ∧
      u.site i = { s.site i with ctx := some { c with phase := .held } } ∧ (∀ j, j ≠ i → u.site j = s.site j) ∧
      u.lists.sweepQueue = (i :: rest).filter (fun j => !(j == i)) ∧ s.SweepPosLeft u i ∧
      ((∀ p, s.engine.sweepPos = some p → p.site = i) → u.engine.sweepPos = none) ∧ u.ex.collectionQueue = s.ex.collectionQueue ++ [i] ∧
      ({ s.ex with collectionQueue := s.ex.collectionQueue ++ [i] } : Exporter).Followed u) ∧
  ∀ (s : State) (i : SiteNo) (rest : List SiteNo) (c : Context) (p : SweepPos) (x : DomainRec), s.Settled → s.due = .sweep →
    s.lists.sweepQueue = i :: rest → s.ctx i = some c → c.phase = .sweeping → c.reason = none → c.geometry.domainCount ≤ 16 →
    p = (match s.engine.sweepPos.filter (fun p => p.site == i) with
      | some p => p
      | none => { site := i, domain := 0, phase := .enter, cursor := none, renew := false }) →
    c.domains[p.domain.val]? = some x → keysRise s.store.lines →
    let cands := s.store.lines.filter fun r => r.key.site == i && r.key.domain == p.domain && r.state == .candidate
    let above (cursor : Option Key) := cands.filter fun r => cursor.all fun k => decide (k.rank < r.key.rank)
    let exceeds (r : LineRec) : Prop := s.available i p.domain r.key.axis.other < r.cross.length
    let stops (r : LineRec) : Prop := r.syndrome ≠ 0 ∨ exceeds r
    let first (cursor : Option Key) (r : LineRec) : Prop := r ∈ above cursor ∧ stops r ∧ ∀ y ∈ above cursor, stops y → r.key.rank ≤ y.key.rank
    let cursor := if p.phase = .settle then p.cursor else none
    let renewed := p.phase = .settle ∧ p.renew = true
    let settles := (p.phase = .enter ∧ x.state ≠ .unrepairable) ∨ p.phase = .settle
    let stopsAt (r : LineRec) : Prop := first cursor r ∨ (renewed ∧ (∀ y ∈ above cursor, ¬ stops y) ∧ first none r)
    let passed := (∀ y ∈ above cursor, ¬ stops y) ∧ (renewed → ∀ y ∈ cands, ¬ stops y)
    let last : Prop := c.geometry.domainCount ≤ p.domain.val + 1
    let concluded (y : DomainRec) (doomed : Bool) (u : State) : Prop :=
      u.site i = { s.site i with ctx := some { c with domains := c.domains.set p.domain.val y, doomed, phase := if last then .held else .sweeping } } ∧
      (∀ j, j ≠ i → u.site j = s.site j) ∧
      if last
      then u.engine.sweepPos = none ∧ u.lists.sweepQueue = (i :: rest).filter (fun j => !(j == i)) ∧ u.ex.collectionQueue = s.ex.collectionQueue ++ [i] ∧
        ({ s.ex with collectionQueue := s.ex.collectionQueue ++ [i] } : Exporter).Followed u
      else (∃ q, u.engine.sweepPos = some q ∧ q.site = i ∧ q.domain.val = p.domain.val + 1 ∧ q.phase = .enter ∧ q.cursor = none ∧ q.renew = false) ∧
        u.lists.sweepQueue = s.lists.sweepQueue ∧ u.ex = s.ex
    let domainLost (u : State) : Prop := concluded { x with state := .unrepairable } true u ∧ u.store.lines = s.withoutCandidates i p.domain ∧
      s.LowFollows u ∧ u.engine.settleList = s.engine.settleList.filter (fun e => !(e.site == i && e.domain == p.domain)) ∧
      s.Works u .sweep [.sites, .lines, .low, .settleList, .sweepPos, .sweepQueue, .collectionQueue, .export_, .clock]
    let integrityLost (index : Nat) (edit : Context → Context) (u : State) : Prop := s.GrantLoses u i index .sweep edit .sweep [.rotation] ∧ u.engine.lastGroup = .background ∧
      u.engine.lastHead = s.engine.lastHead ∧ u.engine.sweepPos = none
    let settled (u : State) : Prop := u.engine.settleList = if p.phase = .enter
      then s.engine.settleList.filter fun e => !(e.site == i && e.domain == p.domain) else s.engine.settleList
    let spent (b : LineRec) (k : Context) : Context := k.editDomain p.domain (DomainRec.oneAssigned b.key.axis)
    let assigns (o : Origin) (b : LineRec) (also : List Block) (more : State → Prop) : Prop :=
      (s.partnersSound b.key b.cross →
        ∃ u, exec .sweepStep s = .next u ∧ s.Works u .sweep ([.sites, .lines, .low, .settleList, .sweepPos] ++ also) ∧ s.Assigned u b.key o b ∧
          s.LowAfter u 0 ∧ settled u ∧ more u) ∧
      (∀ q, s.firstBadPartner b q → ∃ u, exec .sweepStep s = .next u ∧ integrityLost q.index (spent b) u ∧ s.LowAfter u 0)
    let greedily (b : LineRec) : Prop := assigns .sweep b [] fun u => s.ContextEdited u i (spent b) ∧
      ∃ q, u.engine.sweepPos = some q ∧ q.site = i ∧ q.domain = p.domain ∧ q.phase = .greedy
    let best (a : Option Axis) (b : LineRec) : Prop := b ∈ cands ∧ (∀ y, a = some y → b.key.axis = y) ∧
      ∀ r ∈ cands, (∀ y, a = some y → r.key.axis = y) →
        r.cross.length ≤ b.cross.length ∧ (r.cross.length = b.cross.length → b.key.rank ≤ r.key.rank)
    (p.phase = .enter → x.state = .unrepairable →
      ∃ u, exec .sweepStep s = .next u ∧ s.Works u .sweep [.sites, .sweepPos, .sweepQueue, .collectionQueue, .export_, .clock] ∧
        concluded x c.doomed u) ∧
    (x.state ≠ .unrepairable → cands = [] →
      ∃ u, exec .sweepStep s = .next u ∧ s.Works u .sweep [.sites, .settleList, .sweepPos, .sweepQueue, .collectionQueue, .export_, .clock] ∧
        concluded { x with state := if x.failTotal = 0 ∧ x.assigned.row = 0 ∧ x.assigned.column = 0 then .clean else .repaired } c.doomed u ∧
        settled u) ∧
    (∀ r, settles → stopsAt r →
      (r.syndrome ≠ 0 → ∃ u, exec .sweepStep s = .next u ∧ integrityLost r.index id u ∧ s.LowFollows u) ∧
      (r.syndrome = 0 → 0 < s.available i p.domain r.key.axis →
        assigns .must r [.coTable, .tableFull, .stopNotices, .links] fun u => s.ToldOfMust u r.key (spent r) ∧ (s.LinksFollow u fun _ l => l) ∧
          u.engine.sweepPos = some { site := i, domain := p.domain, phase := .settle, cursor := some r.key, renew := true }) ∧
      (r.syndrome = 0 → s.available i p.domain r.key.axis = 0 → ∃ u, exec .sweepStep s = .next u ∧ domainLost u)) ∧
    (p.phase = .greedy ∨ (settles ∧ passed) →
      (∀ r ∈ cands, r.syndrome ≠ 0 → (∀ y ∈ cands, y.syndrome ≠ 0 → r.key.rank ≤ y.key.rank) →
        ∃ u, exec .sweepStep s = .next u ∧ integrityLost r.index id u ∧ s.LowFollows u) ∧
      ∀ b, best none b → (∀ y ∈ cands, y.syndrome = 0) →
        (0 < s.available i p.domain b.key.axis → greedily b) ∧
        (∀ o, s.available i p.domain b.key.axis = 0 → best (some b.key.axis.other) o → 0 < s.available i p.domain o.key.axis → greedily o) ∧
        (s.available i p.domain .row = 0 → s.available i p.domain .column = 0 → ∃ u, exec .sweepStep s = .next u ∧ domainLost u))

/-- R95 to R97, R33, R58, R88: one settle step of the entry at the head of the Settle List; a MUST assignment is told to the Coincidence
Unit, and a lost domain stops a TESTING site early with its DRAIN request (R28). What follows in the same event is log entry 12's (DEDUCED). -/
def Obligations.SettleStepJudgesOneLine : Prop :=
  ∀ (s : State) (e : SettleEntry) (rest : List SettleEntry), s.Settled → s.due = .settle → s.engine.settleList = e :: rest →
    let ahead := s.store.lines.filter fun r =>
      r.key.site == e.site && r.key.domain == e.domain && r.state == .candidate && e.cursor.all fun k => decide (k.rank < r.key.rank)
    (ahead = [] →
      ∃ u, exec .settleStep s = .next u ∧ s.Works u .settle [.settleList] ∧
        u.engine.settleList = if e.renew then rest ++ [{ e with cursor := none, renew := false }] else rest) ∧
    ∀ (l : LineRec) (tail : List LineRec), ahead = l :: tail →
      let exceeds := s.available e.site e.domain l.key.axis.other < l.cross.length
      let spent (c : Context) : Context := c.editDomain e.domain (DomainRec.oneAssigned l.key.axis)
      let integrityLost (index : Nat) (edit : Context → Context) (u : State) : Prop :=
        s.GrantLoses u e.site index .settle edit .settle [.rotation] ∧ u.engine.lastGroup = .background ∧ u.engine.lastHead = s.engine.lastHead ∧ s.SweepPosLeft u e.site
      (l.syndrome = 0 → ¬ exceeds →
        ∃ u, exec .settleStep s = .next u ∧ s.Works u .settle [.settleList] ∧
          u.engine.settleList = (e :: rest).map fun y => if y.site = e.site ∧ y.domain = e.domain then { y with cursor := some l.key } else y) ∧
      (l.syndrome = 0 → exceeds → 0 < s.available e.site e.domain l.key.axis → keysRise s.store.lines →
        (s.partnersSound l.key l.cross →
          ∃ u, exec .settleStep s = .next u ∧
            s.Works u .settle [.sites, .lines, .low, .settleList, .coTable, .tableFull, .stopNotices, .links] ∧ s.Assigned u l.key .must l ∧
            s.LowAfter u 0 ∧ s.ToldOfMust u l.key spent ∧ (s.LinksFollow u fun _ l => l) ∧
            u.engine.settleList = (e :: rest).map fun y =>
              if y.site = e.site ∧ y.domain = e.domain then { y with cursor := some l.key, renew := true } else y) ∧
        (∀ q, s.firstBadPartner l q →
          ∃ u, exec .settleStep s = .next u ∧ integrityLost q.index spent u ∧ s.LowAfter u 0)) ∧
      (l.syndrome = 0 → exceeds → s.available e.site e.domain l.key.axis = 0 →
        ∃ u, exec .settleStep s = .next u ∧ s.Works u .settle [.sites, .lines, .low, .settleList, .stopNotices, .links, .clock] ∧
          s.DomainLost u e.site e.domain id ∧ u.store.lines = s.withoutCandidates e.site e.domain ∧ s.LowFollows u ∧
          s.LinksFollow u (s.earlyDrain e.site)) ∧
      (l.syndrome ≠ 0 →
        ∃ u, exec .settleStep s = .next u ∧ integrityLost l.index id u ∧ s.LowFollows u)

/-- R69 to R72: a FAIL frame at its grant: its credit, the three checks, and the run that is folded. What follows in the same event is log
entry 12's (DEDUCED). -/
def Obligations.FailFramesAreCheckedAndFolded : Prop :=
  (∀ s : State, (s.LinksFollow s.finish fun _ l => l) ∧ s.ex.Followed s.finish ∧ s.SourcesKept s.finish [] ∧ s.now ≤ s.finish.now ∧
    FrameBut [.links, .export_, .clock, .pendingSet] s s.finish) ∧
  (∀ (i : SiteNo) (d : DomainNo) (r : LineAddr) (s : State), State.foldRun i d r [] s = .more s) ∧
  (∀ (i : SiteNo) (d : DomainNo) (r c : LineAddr) (cs : List LineAddr) (s t : State),
    (s.foldCell i d r c = .more t → State.foldRun i d r (c :: cs) s = State.foldRun i d r cs t) ∧
    (s.foldCell i d r c = .halt t → State.foldRun i d r (c :: cs) s = .halt t)) ∧
  ∀ (s : State) (h : HeadNo) (slot : SlotNo) (d : DomainNo) (row : LineAddr) (col : BitVec 12) (len : Fin 16) (rest : List UpFrame), s.Settled →
    s.due = .intake h → (s.link h).fifo = .fail slot d row col len :: rest →
    let i := siteOf h slot
    let popped (l : Link) : Link := { l with fifo := rest, downCredit := if l.state = .up then some (l.downCredit.getD 0 + 1) else l.downCredit }
    (s.siteState i ∈ [.vacant, .armed, .held] →
      ∃ u, exec .failFrameTaken s = .next u ∧ s.Works u .intake [.links] ∧ u.engine.lastHead = h ∧
        s.LinksFollow u fun k l => if k = h then { popped l with causes := { l.causes with stray := true } } else l) ∧
    (s.siteState i = .sweeping →
      ∃ u, exec .failFrameTaken s = .next u ∧ s.Works u .intake [.links] ∧ u.engine.lastHead = h ∧
        s.LinksFollow u fun k l => if k = h then { popped l with causes := { l.causes with late := true } } else l) ∧
    ∀ c, s.ctx i = some c → c.phase ∈ [.testing, .draining] →
      let g := c.geometry
      let inside := d.val < g.domainCount ∧ row.toNat < g.rows ∧ col.toNat + len.val < g.columns
      (c.reason ≠ none →
        ∃ u, exec .failFrameTaken s = .next u ∧ s.Works u .intake [.links] ∧ u.engine.lastHead = h ∧
          s.LinksFollow u fun k l => if k = h then popped l else l) ∧
      (c.reason = none → ¬ inside →
        ∃ u, exec .failFrameTaken s = .next u ∧ s.Works u .intake [.links, .sites] ∧ u.engine.lastHead = h ∧
          u.site i = { s.site i with ctx := some { c with flags := { c.flags with badAddress := true } } } ∧ (∀ j, j ≠ i → u.site j = s.site j) ∧
          s.LinksFollow u fun k l => if k = h then { popped l with causes := { l.causes with badAddress := true } } else l) ∧
      (c.reason = none → inside →
        let line (group raw : Nat) : LineAddr := BitVec.ofNat 16 (raw / group)
        let t := (State.foldRun i d (line g.rowGroup row.toNat) ((List.range (len.val + 1)).map fun n => line g.columnGroup (col.toNat + n))
          (s.modLink h popped)).state
        exec .failFrameTaken s = .next ({ t with engine := { t.engine with inProgress := some .intake, lastGroup := .intake, lastHead := h } } : State).finish ∧
        ∀ r, r.key.site ≠ i → (r ∈ t.store.lines ↔ r ∈ s.store.lines))

/-- R73 to R76, R80, R58, R59: the fold of one position: the fail total, the covered cell, the repeat, the demand that fails, the lost
record. That a damaged column line ends the fold after the row line was read is log entry 13's. -/
def Obligations.FoldCountsCells : Prop :=
  ∀ (s : State) (i : SiteNo) (d : DomainNo) (r c : LineAddr) (x : DomainRec), s.domain? i d = some x →
    let kr : Key := { site := i, domain := d, axis := .row, addr := r }
    let kc : Key := { site := i, domain := d, axis := .column, addr := c }
    let up (n : Count16) : Count16 := if n.toNat = 65535 then n else n + 1
    let counted : DomainRec := { x with failTotal := up x.failTotal, state := if x.failTotal = 0 ∧ x.state = .opened then .failing else x.state }
    let toll (b : Context) : Context := b.editDomain d fun _ => counted
    let sound (k : Key) : Prop := ∀ l, s.findLine k = some l → l.syndrome = 0
    let open_ (k : Key) : Prop := ∀ l, s.findLine k = some l → l.state = .candidate
    let covers (k : Key) : Prop := ∀ l, s.findLine k = some l → l.state ≠ .candidate →
      ∃ t, s.foldCell i d r c = .more t ∧ s.ContextEdited t i toll ∧ t.findLine k = some { l with failCount := up l.failCount } ∧
        (∀ q, q ≠ k → t.findLine q = s.findLine q) ∧ FrameBut [.sites, .lines] s t
    let absent (k : Key) : Nat := if s.findLine k = none then 1 else 0
    let need := absent kr + absent kc
    let lostBut (t : State) : Prop := s.LowFollows t ∧ s.SweepPosLeft t i ∧
      (∀ h, t.link h = s.drainAsked i h (s.link h)) ∧
      FrameBut [.sites, .sweepQueue, .stopNotices, .lines, .low, .capture, .settleList, .sweepPos, .coTable, .links, .collectionQueue, .clock,
        .pendingSet] s t
    let spills (why : Reason) (note : NoticeReason) : Prop := ∃ t, s.foldCell i d r c = .halt t ∧ s.LinesLost t i why note toll ∧ lostBut t ∧
      t.store.capture = s.store.capture ∧ t.att.pendingSet = s.att.pendingSet
    let damaged (k : Key) : Prop := ∀ l, s.findLine k = some l → l.syndrome ≠ 0 →
      ∃ t, s.foldCell i d r c = .halt t ∧ s.IntegrityLost t i l.index .fold toll ∧ lostBut t
    (x.state = .unrepairable → ∃ t, s.foldCell i d r c = .more t ∧ s.ContextEdited t i toll ∧ FrameBut [.sites] s t) ∧
    (x.state ≠ .unrepairable → sound kr → sound kc →
      covers kr ∧ (open_ kr → covers kc) ∧
      (∀ lr lc, s.findLine kr = some lr → s.findLine kc = some lc → lr.state = .candidate → lc.state = .candidate → c ∈ lr.cross →
        ∃ t, s.foldCell i d r c = .more t ∧ s.ContextEdited t i toll ∧ t.findLine kr = some { lr with failCount := up lr.failCount } ∧
          t.findLine kc = some { lc with failCount := up lc.failCount } ∧ (∀ q, q ≠ kr → q ≠ kc → t.findLine q = s.findLine q) ∧
          FrameBut [.sites, .lines] s t) ∧
      (open_ kr → open_ kc → 0 < need → s.freeCount < need → spills .spill .spill) ∧
      (∀ b, s.ctx i = some b → open_ kr → open_ kc → 0 < need → need ≤ s.freeCount → b.quota < s.inUse i + need → spills .quota .quota)) ∧
    (x.state ≠ .unrepairable → damaged kr ∧ (sound kr → damaged kc))

/-- R49: an address joins a cross list in ascending order, once. R76 to R79: a new uncovered cell is judged from its row line first and then from its column line; it is recorded on both, or one of the two
is assigned with origin MUST and told to the Coincidence Unit while the cell stands on neither list and a line left empty is freed (R87, R88), or
the domain is lost; a damaged partner met by the assignment loses the site its lines (R58, R87). The low indication follows the takes and the
frees (R51, R52, R56). -/
def Obligations.FoldJudgesRowSideFirst : Prop :=
  (∀ (x : LineAddr) (l : List LineAddr), (∀ y, y ∈ crossInsert x l ↔ y = x ∨ y ∈ l) ∧
    (l.Pairwise (fun a b => a.toNat < b.toNat) → (crossInsert x l).Pairwise fun a b => a.toNat < b.toNat)) ∧
  ∀ (s : State) (i : SiteNo) (d : DomainNo) (r c : LineAddr) (b : Context) (x : DomainRec), s.ctx i = some b → b.domains[d.val]? = some x →
    x.state ≠ .unrepairable →
    let kr : Key := { site := i, domain := d, axis := .row, addr := r }
    let kc : Key := { site := i, domain := d, axis := .column, addr := c }
    let absent (k : Key) : Nat := if s.findLine k = none then 1 else 0
    let need := absent kr + absent kc
    let crossOf (k : Key) : List LineAddr := ((s.findLine k).map (·.cross)).getD []
    let count (k : Key) : Count16 := ((s.findLine k).map (·.failCount)).getD 0
    let up (n : Count16) : Count16 := if n.toNat = 65535 then n else n + 1
    (∀ l, s.findLine kr = some l → l.state = .candidate ∧ l.syndrome = 0) → (∀ l, s.findLine kc = some l → l.state = .candidate ∧ l.syndrome = 0) →
    c ∉ crossOf kr →
    need = 0 ∨ (need ≤ s.freeCount ∧ s.inUse i + need ≤ b.quota) →
    let counted : DomainRec := { x with failTotal := up x.failTotal, state := if x.failTotal = 0 ∧ x.state = .opened then .failing else x.state }
    let line (k : Key) (l : LineRec) : Prop := (∀ m, s.findLine k = some m → l = { m with failCount := l.failCount, cross := l.cross, state := l.state }) ∧
      l.failCount = up (count k) ∧ l.syndrome = 0
    let rowFits := (crossOf kr).length + 1 ≤ s.available i d .column
    let columnFits := (crossInsert r (crossOf kc)).length ≤ s.available i d .row
    let leaves (t : State) (k : Key) (cross : List LineAddr) : Prop := if cross = [] then t.findLine k = none
      else ∃ l, t.findLine k = some l ∧ line k l ∧ l.state = .candidate ∧ l.cross = cross
    let assigned (t : State) (k : Key) (also : Key) : Prop :=
      (∃ l, t.findLine k = some l ∧ line k l ∧ l.state = .assigned .must ∧ l.cross = []) ∧
      (∀ y ∈ crossOf k, { k with axis := k.axis.other, addr := y } ≠ also → ∀ p, s.partnerAt k y = some p →
        t.partnerAt k y = if p.cross.filter (fun z => !(z == k.addr)) = [] then none
          else some { p with cross := p.cross.filter fun z => !(z == k.addr), syndrome := 0 }) ∧
      (∀ q, q ≠ k → q ≠ also → (∀ y ∈ crossOf k, q ≠ { k with axis := k.axis.other, addr := y }) → t.findLine q = s.findLine q) ∧
      t.engine.settleList = settleAppend i d s.engine.settleList ∧
      s.LowAfter t need ∧ s.ToldOfMust t k (fun b => b.editDomain d fun _ => DomainRec.oneAssigned k.axis counted) ∧
      FrameBut [.sites, .stopNotices, .lines, .low, .settleList, .coTable, .tableFull, .clock] s t
    let loses (k : Key) : Prop := ∀ l p, s.findLine k = some l → s.firstBadPartner l p →
      ∃ t, s.foldCell i d r c = .halt t ∧ s.IntegrityLost t i p.index .fold (fun b => b.editDomain d fun _ => DomainRec.oneAssigned k.axis counted) ∧
        s.LowAfter t need ∧ s.SweepPosLeft t i ∧ (∀ h, t.link h = s.drainAsked i h (s.link h)) ∧
        FrameBut [.sites, .sweepQueue, .stopNotices, .lines, .low, .capture, .settleList, .sweepPos, .coTable, .links, .collectionQueue, .clock,
          .pendingSet] s t
    (rowFits → columnFits →
      ∃ t lr lc, s.foldCell i d r c = .more t ∧ t.findLine kr = some lr ∧ line kr lr ∧ lr.state = .candidate ∧ lr.cross = crossInsert c (crossOf kr) ∧
        t.findLine kc = some lc ∧ line kc lc ∧ lc.state = .candidate ∧ lc.cross = crossInsert r (crossOf kc) ∧
        (∀ q, q ≠ kr → q ≠ kc → t.findLine q = s.findLine q) ∧ s.ContextEdited t i (fun b => b.editDomain d fun _ => counted) ∧
        s.LowAfter t need ∧ FrameBut [.sites, .lines, .low, .clock] s t) ∧
    (rowFits → ¬ columnFits →
      (s.partnersSound kc (crossOf kc) → ∃ t, s.foldCell i d r c = .more t ∧ assigned t kc kr ∧ leaves t kr (crossOf kr)) ∧ loses kc) ∧
    (¬ rowFits → 0 < s.available i d .row →
      (s.partnersSound kr (crossOf kr) → ∃ t, s.foldCell i d r c = .more t ∧ assigned t kr kc ∧
        leaves t kc (if s.available i d .column < (crossOf kr).length then crossOf kc else (crossOf kc).filter fun y => !(y == r))) ∧ loses kr) ∧
    (¬ rowFits → s.available i d .row = 0 →
      ∃ t, s.foldCell i d r c = .more t ∧ s.DomainLost t i d (fun _ => counted) ∧
        (∀ l ∈ t.store.lines, l.key.site = i → l.key.domain = d → l.state ≠ .candidate) ∧
        (keysRise s.store.lines → t.store.lines = s.withoutCandidates i d) ∧
        s.LowAfter t need ∧ (t.freeCount < s.store.lowWater → t.store.low = true) ∧
        (s.store.lowWater ≤ t.freeCount → min (s.store.lowWater + 64) 12288 ≤ t.freeCount → t.store.low = false) ∧
        (∀ h, t.link h = s.earlyDrain i h (s.link h)) ∧
        FrameBut [.sites, .lines, .low, .settleList, .stopNotices, .links, .clock] s t)

/-- R81, R82, R83: an END frame, a HOLD frame and the link-lost marker at their grants. What follows in the same event is log entry 12's
(DEDUCED). -/
def Obligations.EndHoldAndMarkerTaken : Prop :=
  (∀ (s : State) (h : HeadNo) (slot : SlotNo) (rest : List UpFrame), s.Settled → s.due = .intake h → (s.link h).fifo = .endFrame slot :: rest →
    let i := siteOf h slot
    let popped (l : Link) : Link := { l with fifo := rest, downCredit := if l.state = .up then some (l.downCredit.getD 0 + 1) else l.downCredit }
    (∀ c, s.ctx i = some c → c.phase = .draining →
      ∃ u, exec .endTaken s = .next u ∧ s.Works u .intake [.links, .sites, .sweepQueue] ∧ u.engine.lastHead = h ∧
        u.site i = { s.site i with ctx := some { c with phase := .sweeping }, drainDeadline := none } ∧ (∀ j, j ≠ i → u.site j = s.site j) ∧
        u.lists.sweepQueue = s.lists.sweepQueue ++ [i] ∧ s.LinksFollow u fun k l => if k = h then popped l else l) ∧
    (s.siteState i ∈ [.sweeping, .held] →
      ∃ u, exec .endTaken s = .next u ∧ s.Works u .intake [.links] ∧ u.engine.lastHead = h ∧
        s.LinksFollow u fun k l => if k = h then { popped l with causes := { l.causes with late := true } } else l) ∧
    (s.siteState i ∈ [.vacant, .armed, .testing] →
      ∃ u, exec .endTaken s = .next u ∧ s.Works u .intake [.links] ∧ u.engine.lastHead = h ∧ u.gateSet h = s.gateSet h ∧
        s.LinksFollow u fun k l => if k = h then { popped l with causes := { l.causes with stray := true } } else l)) ∧
  (∀ (s : State) (h : HeadNo) (slot : SlotNo) (on : Bool) (rest : List UpFrame), s.Settled → s.due = .intake h → (s.link h).fifo = .hold slot on :: rest →
    ∃ u, exec .holdTaken s = .next u ∧ s.Works u .intake [.links, .sites] ∧ u.engine.lastHead = h ∧
      u.site (siteOf h slot) = { s.site (siteOf h slot) with headHold := on } ∧ (∀ j, j ≠ siteOf h slot → u.site j = s.site j) ∧
      s.LinksFollow u fun k l => if k = h
        then { l with fifo := rest, downCredit := if l.state = .up then some (l.downCredit.getD 0 + 1) else l.downCredit } else l) ∧
  (∀ (s : State) (h : HeadNo), s.Settled → s.due = .intake h → (s.link h).fifo = [] → (s.link h).marker = true →
    let lost (i : SiteNo) : Bool := (s.ctx i).any fun c => c.flags.linkLost && (c.phase == .testing || c.phase == .draining)
    ∃ u, exec .linkLostMarkerTaken s = .next u ∧ s.Works u .intake [.links, .sites, .sweepQueue] ∧ u.engine.lastHead = h ∧ (u.link h).marker = false ∧
      (∀ i, u.site i = if headOf i = h ∧ lost i = true
        then { s.site i with ctx := (s.ctx i).map fun c => { c with phase := .sweeping }, drainDeadline := none } else s.site i) ∧
      u.lists.sweepQueue = s.lists.sweepQueue ++ ((List.finRange 32).map (siteOf h)).filter lost ∧
      s.LinksFollow u fun k l => if k = h then { l with marker := false } else l)

/-! ### The whole part -/

/-- What follows in every event (log entry 12) holds again after every step of a part that runs: R24, R155, R164, R166, R167 and R182. -/
def Obligations.StepKeepsSettled : Prop :=
  ∀ s t : State, (s.isHeld = false → s.Settled) → step s = .next t → t.isHeld = false → t.Settled

/-- R153 and what R142, R145, R146, R150, R154, R155, R158 and R160 say of a link in each state: every step keeps it on every link. -/
def Obligations.StepKeepsTheCreditLaw : Prop :=
  ∀ s t : State, (∀ h, (s.link h).ordered ∧ (s.link h).timedInTraining) → step s = .next t → ∀ h, (t.link h).ordered ∧ (t.link h).timedInTraining

/-- R36, R111, R166: the Sweep Queue and the Collection Queue hold, once, exactly the SWEEPING and the HELD sites. R65, R176 to R178: the
port is RUNNING exactly while a request waits for its grant or is the work item in progress, never two of them. -/
def Obligations.StepKeepsQueuesAgree : Prop :=
  (∀ s t : State, s.QueuesAgree → step s = .next t → t.QueuesAgree) ∧
  (∀ s t : State, s.RequestAgrees → step s = .next t → t.RequestAgrees)

/-- R44, R46, R56: no two in-use records have one key or one record index, every index lies in 0 to 12,287 and at most 12,288 records are in
use; the records stand in key order (site, domain, ROW before COLUMN, ascending address), and a look-up finds the record of its key;
the low indication stands as the free count and the mark have it judged. -/
def Obligations.StepKeepsLineIndex : Prop :=
  (∀ a b : Key, a.rank < b.rank ↔ a.site.val < b.site.val ∨ (a.site = b.site ∧ (a.domain.val < b.domain.val ∨ (a.domain = b.domain ∧
    ((a.axis = .row ∧ b.axis = .column) ∨ (a.axis = b.axis ∧ a.addr.toNat < b.addr.toNat)))))) ∧
  (∀ s : State, s.freeCount = 12288 - s.store.lines.length ∧
    ∀ (k : Key), (∀ r, s.findLine k = some r → r ∈ s.store.lines ∧ r.key = k) ∧ (s.findLine k = none ↔ ∀ r ∈ s.store.lines, r.key ≠ k)) ∧
  ∀ s t : State, s.LinesIndexed → step s = .next t → t.LinesIndexed

/-- R187: the check byte, a CRC-8 with polynomial x⁸ + x² + x + 1 over the bits most significant first from FFh; the bytes of every downstream
frame; the fields of every upstream kind; a frame sent with its check byte is received as the command it stands for, with every operand; a framing fault, a wrong check byte,
an unknown kind or a downstream kind makes it a bad frame. -/
def Obligations.FramesAreReceivedAsSent : Prop :=
  (∀ bs : List Byte, checkByte bs =
    (bs.flatMap fun b => [b.getLsbD 7, b.getLsbD 6, b.getLsbD 5, b.getLsbD 4, b.getLsbD 3, b.getLsbD 2, b.getLsbD 1, b.getLsbD 0]).foldl
      (fun (c : Byte) x => (c <<< 1) ^^^ (if c.getLsbD 7 = x then 0x00 else 0x07)) 0xFF) ∧
  (∀ f : DownFrame, f.raw.framingFault = false ∧ f.raw.bytes[7] = checkByte (f.raw.bytes.toList.take 7) ∧
    f.raw.bytes.toList.take 7 = match f with
      | .gate set => [0x81, set.extractLsb' 0 8, set.extractLsb' 8 8, set.extractLsb' 16 8, set.extractLsb' 24 8, 0, 0]
      | .credit n => [0x82, BitVec.ofNat 8 n, 0, 0, 0, 0, 0]
      | .drain slot => [0x83, BitVec.ofNat 8 slot.val, 0, 0, 0, 0, 0]) ∧
  (∀ (h : HeadNo) (f : RawFrame), f.framingFault = false → f.bytes[7] = checkByte (f.bytes.toList.take 7) →
    (f.bytes[0] = 0x01 → commandOfFrame h f = .helloReceived h (f.bytes[2] ++ f.bytes[1]) f.bytes[3] f.bytes[4]) ∧
    (f.bytes[0] = 0x02 → ∃ slot d row col len, commandOfFrame h f = .failReceived h slot d row col len ∧ slot.val = f.bytes[1].toNat % 32 ∧
      d.val = f.bytes[2].toNat % 16 ∧ len.val = f.bytes[2].toNat / 16 ∧ row.toNat = f.bytes[3].toNat + 256 * f.bytes[4].toNat ∧
      col.toNat = f.bytes[5].toNat + 256 * (f.bytes[6].toNat % 16)) ∧
    (f.bytes[0] = 0x03 → ∃ slot, commandOfFrame h f = .endReceived h slot ∧ slot.val = f.bytes[1].toNat % 32) ∧
    (f.bytes[0] = 0x04 → ∃ slot, commandOfFrame h f = .holdReceived h slot (f.bytes[2].getLsbD 0) ∧ slot.val = f.bytes[1].toNat % 32)) ∧
  (∀ (h : HeadNo) (f : UpFrame), commandOfFrame h f.raw = match f with
    | .fail slot d row col len => .failReceived h slot d row col len
    | .endFrame slot => .endReceived h slot
    | .hold slot on => .holdReceived h slot on) ∧
  (∀ (h : HeadNo) (serial : BitVec 16) (slotCount level : Byte), commandOfFrame h (helloFrame serial slotCount level) = .helloReceived h serial slotCount level) ∧
  (∀ (h : HeadNo) (f : DownFrame), commandOfFrame h f.raw = .badFrameReceived h) ∧
  (∀ (h : HeadNo) (f : RawFrame), f.framingFault = true ∨ f.bytes[7] ≠ checkByte (f.bytes.toList.take 7) ∨ f.bytes[0].toNat ∉ [1, 2, 3, 4] →
    commandOfFrame h f = .badFrameReceived h)

/-- The state after reset runs, is settled with nothing due, and meets every invariant; it is what the release of the power-on reset input leaves. -/
def Obligations.ResetMeetsInvariants : Prop :=
  State.reset.Ready ∧ State.reset.QueuesAgree ∧ State.reset.RequestAgrees ∧ State.reset.LinesIndexed ∧ (∀ h, (State.reset.link h).ordered ∧ (State.reset.link h).timedInTraining) ∧
    State.reset.pending = [] ∧ exec .powerOnResetRelease State.powerOn = .next State.reset
end

