-- ==== Sys2Proof/Laws/State.lean ====
section
/-! SUPPORT. What each update of the state leaves alone, field by field, and what an accessor reads after it; all true by unfolding. -/

namespace Sys2Proof.Machine

/-! ### Fields that an operation leaves alone -/

section
variable (s : State) (n : TemplateNo) (x : Template)

@[simp] theorem setTemplate_sites : (s.setTemplate n x).sites = s.sites := rfl
@[simp] theorem setTemplate_lists : (s.setTemplate n x).lists = s.lists := rfl
@[simp] theorem setTemplate_store : (s.setTemplate n x).store = s.store := rfl
@[simp] theorem setTemplate_engine : (s.setTemplate n x).engine = s.engine := rfl
@[simp] theorem setTemplate_co : (s.setTemplate n x).co = s.co := rfl
@[simp] theorem setTemplate_links : (s.setTemplate n x).links = s.links := rfl
@[simp] theorem setTemplate_trainingTimeout : (s.setTemplate n x).trainingTimeout = s.trainingTimeout := rfl
@[simp] theorem setTemplate_ex : (s.setTemplate n x).ex = s.ex := rfl
@[simp] theorem setTemplate_port : (s.setTemplate n x).port = s.port := rfl
@[simp] theorem setTemplate_att : (s.setTemplate n x).att = s.att := rfl
@[simp] theorem setTemplate_porHeld : (s.setTemplate n x).porHeld = s.porHeld := rfl
@[simp] theorem setTemplate_pending : (s.setTemplate n x).pending = s.pending := rfl
@[simp] theorem setTemplate_busRead : (s.setTemplate n x).busRead = s.busRead := rfl
@[simp] theorem setTemplate_now : (s.setTemplate n x).now = s.now := rfl
@[simp] theorem setTemplate_freeIx : (s.setTemplate n x).freeIx = s.freeIx := rfl

end

section
variable (s : State) (i : SiteNo) (x : Site)

@[simp] theorem setSite_templates : (s.setSite i x).templates = s.templates := rfl
@[simp] theorem setSite_lists : (s.setSite i x).lists = s.lists := rfl
@[simp] theorem setSite_store : (s.setSite i x).store = s.store := rfl
@[simp] theorem setSite_engine : (s.setSite i x).engine = s.engine := rfl
@[simp] theorem setSite_co : (s.setSite i x).co = s.co := rfl
@[simp] theorem setSite_links : (s.setSite i x).links = s.links := rfl
@[simp] theorem setSite_trainingTimeout : (s.setSite i x).trainingTimeout = s.trainingTimeout := rfl
@[simp] theorem setSite_ex : (s.setSite i x).ex = s.ex := rfl
@[simp] theorem setSite_port : (s.setSite i x).port = s.port := rfl
@[simp] theorem setSite_att : (s.setSite i x).att = s.att := rfl
@[simp] theorem setSite_porHeld : (s.setSite i x).porHeld = s.porHeld := rfl
@[simp] theorem setSite_pending : (s.setSite i x).pending = s.pending := rfl
@[simp] theorem setSite_busRead : (s.setSite i x).busRead = s.busRead := rfl
@[simp] theorem setSite_now : (s.setSite i x).now = s.now := rfl
@[simp] theorem setSite_freeIx : (s.setSite i x).freeIx = s.freeIx := rfl

end

section
variable (s : State) (i : SiteNo) (f : Site → Site)

@[simp] theorem modSite_templates : (s.modSite i f).templates = s.templates := rfl
@[simp] theorem modSite_lists : (s.modSite i f).lists = s.lists := rfl
@[simp] theorem modSite_store : (s.modSite i f).store = s.store := rfl
@[simp] theorem modSite_engine : (s.modSite i f).engine = s.engine := rfl
@[simp] theorem modSite_co : (s.modSite i f).co = s.co := rfl
@[simp] theorem modSite_links : (s.modSite i f).links = s.links := rfl
@[simp] theorem modSite_trainingTimeout : (s.modSite i f).trainingTimeout = s.trainingTimeout := rfl
@[simp] theorem modSite_ex : (s.modSite i f).ex = s.ex := rfl
@[simp] theorem modSite_port : (s.modSite i f).port = s.port := rfl
@[simp] theorem modSite_att : (s.modSite i f).att = s.att := rfl
@[simp] theorem modSite_porHeld : (s.modSite i f).porHeld = s.porHeld := rfl
@[simp] theorem modSite_pending : (s.modSite i f).pending = s.pending := rfl
@[simp] theorem modSite_busRead : (s.modSite i f).busRead = s.busRead := rfl
@[simp] theorem modSite_now : (s.modSite i f).now = s.now := rfl
@[simp] theorem modSite_freeIx : (s.modSite i f).freeIx = s.freeIx := rfl

end

section
variable (s : State) (i : SiteNo) (f : Context → Context)

@[simp] theorem modCtx_templates : (s.modCtx i f).templates = s.templates := rfl
@[simp] theorem modCtx_lists : (s.modCtx i f).lists = s.lists := rfl
@[simp] theorem modCtx_store : (s.modCtx i f).store = s.store := rfl
@[simp] theorem modCtx_engine : (s.modCtx i f).engine = s.engine := rfl
@[simp] theorem modCtx_co : (s.modCtx i f).co = s.co := rfl
@[simp] theorem modCtx_links : (s.modCtx i f).links = s.links := rfl
@[simp] theorem modCtx_trainingTimeout : (s.modCtx i f).trainingTimeout = s.trainingTimeout := rfl
@[simp] theorem modCtx_ex : (s.modCtx i f).ex = s.ex := rfl
@[simp] theorem modCtx_port : (s.modCtx i f).port = s.port := rfl
@[simp] theorem modCtx_att : (s.modCtx i f).att = s.att := rfl
@[simp] theorem modCtx_porHeld : (s.modCtx i f).porHeld = s.porHeld := rfl
@[simp] theorem modCtx_pending : (s.modCtx i f).pending = s.pending := rfl
@[simp] theorem modCtx_busRead : (s.modCtx i f).busRead = s.busRead := rfl
@[simp] theorem modCtx_now : (s.modCtx i f).now = s.now := rfl
@[simp] theorem modCtx_freeIx : (s.modCtx i f).freeIx = s.freeIx := rfl

end

section
variable (s : State) (i : SiteNo) (d : DomainNo) (f : DomainRec → DomainRec)

@[simp] theorem modDomain_templates : (s.modDomain i d f).templates = s.templates := rfl
@[simp] theorem modDomain_lists : (s.modDomain i d f).lists = s.lists := rfl
@[simp] theorem modDomain_store : (s.modDomain i d f).store = s.store := rfl
@[simp] theorem modDomain_engine : (s.modDomain i d f).engine = s.engine := rfl
@[simp] theorem modDomain_co : (s.modDomain i d f).co = s.co := rfl
@[simp] theorem modDomain_links : (s.modDomain i d f).links = s.links := rfl
@[simp] theorem modDomain_trainingTimeout : (s.modDomain i d f).trainingTimeout = s.trainingTimeout := rfl
@[simp] theorem modDomain_ex : (s.modDomain i d f).ex = s.ex := rfl
@[simp] theorem modDomain_port : (s.modDomain i d f).port = s.port := rfl
@[simp] theorem modDomain_att : (s.modDomain i d f).att = s.att := rfl
@[simp] theorem modDomain_porHeld : (s.modDomain i d f).porHeld = s.porHeld := rfl
@[simp] theorem modDomain_pending : (s.modDomain i d f).pending = s.pending := rfl
@[simp] theorem modDomain_busRead : (s.modDomain i d f).busRead = s.busRead := rfl
@[simp] theorem modDomain_now : (s.modDomain i d f).now = s.now := rfl
@[simp] theorem modDomain_freeIx : (s.modDomain i d f).freeIx = s.freeIx := rfl

end

section
variable (s : State) (i : SiteNo) (f : QualityFlag)

@[simp] theorem addFlag_templates : (s.addFlag i f).templates = s.templates := rfl
@[simp] theorem addFlag_lists : (s.addFlag i f).lists = s.lists := rfl
@[simp] theorem addFlag_store : (s.addFlag i f).store = s.store := rfl
@[simp] theorem addFlag_engine : (s.addFlag i f).engine = s.engine := rfl
@[simp] theorem addFlag_co : (s.addFlag i f).co = s.co := rfl
@[simp] theorem addFlag_links : (s.addFlag i f).links = s.links := rfl
@[simp] theorem addFlag_trainingTimeout : (s.addFlag i f).trainingTimeout = s.trainingTimeout := rfl
@[simp] theorem addFlag_ex : (s.addFlag i f).ex = s.ex := rfl
@[simp] theorem addFlag_port : (s.addFlag i f).port = s.port := rfl
@[simp] theorem addFlag_att : (s.addFlag i f).att = s.att := rfl
@[simp] theorem addFlag_porHeld : (s.addFlag i f).porHeld = s.porHeld := rfl
@[simp] theorem addFlag_pending : (s.addFlag i f).pending = s.pending := rfl
@[simp] theorem addFlag_busRead : (s.addFlag i f).busRead = s.busRead := rfl
@[simp] theorem addFlag_now : (s.addFlag i f).now = s.now := rfl
@[simp] theorem addFlag_freeIx : (s.addFlag i f).freeIx = s.freeIx := rfl

end

section
variable (s : State) (i : SiteNo) (r : Reason)

@[simp] theorem setReason_templates : (s.setReason i r).templates = s.templates := rfl
@[simp] theorem setReason_lists : (s.setReason i r).lists = s.lists := rfl
@[simp] theorem setReason_store : (s.setReason i r).store = s.store := rfl
@[simp] theorem setReason_engine : (s.setReason i r).engine = s.engine := rfl
@[simp] theorem setReason_co : (s.setReason i r).co = s.co := rfl
@[simp] theorem setReason_links : (s.setReason i r).links = s.links := rfl
@[simp] theorem setReason_trainingTimeout : (s.setReason i r).trainingTimeout = s.trainingTimeout := rfl
@[simp] theorem setReason_ex : (s.setReason i r).ex = s.ex := rfl
@[simp] theorem setReason_port : (s.setReason i r).port = s.port := rfl
@[simp] theorem setReason_att : (s.setReason i r).att = s.att := rfl
@[simp] theorem setReason_porHeld : (s.setReason i r).porHeld = s.porHeld := rfl
@[simp] theorem setReason_pending : (s.setReason i r).pending = s.pending := rfl
@[simp] theorem setReason_busRead : (s.setReason i r).busRead = s.busRead := rfl
@[simp] theorem setReason_now : (s.setReason i r).now = s.now := rfl
@[simp] theorem setReason_freeIx : (s.setReason i r).freeIx = s.freeIx := rfl

end

section
variable (s : State) (i : SiteNo)

@[simp] theorem dropContext_templates : (s.dropContext i).templates = s.templates := rfl
@[simp] theorem dropContext_lists : (s.dropContext i).lists = s.lists := rfl
@[simp] theorem dropContext_store : (s.dropContext i).store = s.store := rfl
@[simp] theorem dropContext_engine : (s.dropContext i).engine = s.engine := rfl
@[simp] theorem dropContext_co : (s.dropContext i).co = s.co := rfl
@[simp] theorem dropContext_links : (s.dropContext i).links = s.links := rfl
@[simp] theorem dropContext_trainingTimeout : (s.dropContext i).trainingTimeout = s.trainingTimeout := rfl
@[simp] theorem dropContext_ex : (s.dropContext i).ex = s.ex := rfl
@[simp] theorem dropContext_port : (s.dropContext i).port = s.port := rfl
@[simp] theorem dropContext_att : (s.dropContext i).att = s.att := rfl
@[simp] theorem dropContext_porHeld : (s.dropContext i).porHeld = s.porHeld := rfl
@[simp] theorem dropContext_pending : (s.dropContext i).pending = s.pending := rfl
@[simp] theorem dropContext_busRead : (s.dropContext i).busRead = s.busRead := rfl
@[simp] theorem dropContext_now : (s.dropContext i).now = s.now := rfl
@[simp] theorem dropContext_freeIx : (s.dropContext i).freeIx = s.freeIx := rfl

end

section
variable (s : State) (h : HeadNo) (x : Link)

@[simp] theorem setLink_templates : (s.setLink h x).templates = s.templates := rfl
@[simp] theorem setLink_sites : (s.setLink h x).sites = s.sites := rfl
@[simp] theorem setLink_lists : (s.setLink h x).lists = s.lists := rfl
@[simp] theorem setLink_store : (s.setLink h x).store = s.store := rfl
@[simp] theorem setLink_engine : (s.setLink h x).engine = s.engine := rfl
@[simp] theorem setLink_co : (s.setLink h x).co = s.co := rfl
@[simp] theorem setLink_trainingTimeout : (s.setLink h x).trainingTimeout = s.trainingTimeout := rfl
@[simp] theorem setLink_ex : (s.setLink h x).ex = s.ex := rfl
@[simp] theorem setLink_port : (s.setLink h x).port = s.port := rfl
@[simp] theorem setLink_att : (s.setLink h x).att = s.att := rfl
@[simp] theorem setLink_porHeld : (s.setLink h x).porHeld = s.porHeld := rfl
@[simp] theorem setLink_pending : (s.setLink h x).pending = s.pending := rfl
@[simp] theorem setLink_busRead : (s.setLink h x).busRead = s.busRead := rfl
@[simp] theorem setLink_now : (s.setLink h x).now = s.now := rfl
@[simp] theorem setLink_freeIx : (s.setLink h x).freeIx = s.freeIx := rfl

end

section
variable (s : State) (h : HeadNo) (f : Link → Link)

@[simp] theorem modLink_templates : (s.modLink h f).templates = s.templates := rfl
@[simp] theorem modLink_sites : (s.modLink h f).sites = s.sites := rfl
@[simp] theorem modLink_lists : (s.modLink h f).lists = s.lists := rfl
@[simp] theorem modLink_store : (s.modLink h f).store = s.store := rfl
@[simp] theorem modLink_engine : (s.modLink h f).engine = s.engine := rfl
@[simp] theorem modLink_co : (s.modLink h f).co = s.co := rfl
@[simp] theorem modLink_trainingTimeout : (s.modLink h f).trainingTimeout = s.trainingTimeout := rfl
@[simp] theorem modLink_ex : (s.modLink h f).ex = s.ex := rfl
@[simp] theorem modLink_port : (s.modLink h f).port = s.port := rfl
@[simp] theorem modLink_att : (s.modLink h f).att = s.att := rfl
@[simp] theorem modLink_porHeld : (s.modLink h f).porHeld = s.porHeld := rfl
@[simp] theorem modLink_pending : (s.modLink h f).pending = s.pending := rfl
@[simp] theorem modLink_busRead : (s.modLink h f).busRead = s.busRead := rfl
@[simp] theorem modLink_now : (s.modLink h f).now = s.now := rfl
@[simp] theorem modLink_freeIx : (s.modLink h f).freeIx = s.freeIx := rfl

end

section
variable (s : State) (h : HeadNo) (c : LinkCause)

@[simp] theorem addCause_templates : (s.addCause h c).templates = s.templates := rfl
@[simp] theorem addCause_sites : (s.addCause h c).sites = s.sites := rfl
@[simp] theorem addCause_lists : (s.addCause h c).lists = s.lists := rfl
@[simp] theorem addCause_store : (s.addCause h c).store = s.store := rfl
@[simp] theorem addCause_engine : (s.addCause h c).engine = s.engine := rfl
@[simp] theorem addCause_co : (s.addCause h c).co = s.co := rfl
@[simp] theorem addCause_trainingTimeout : (s.addCause h c).trainingTimeout = s.trainingTimeout := rfl
@[simp] theorem addCause_ex : (s.addCause h c).ex = s.ex := rfl
@[simp] theorem addCause_port : (s.addCause h c).port = s.port := rfl
@[simp] theorem addCause_att : (s.addCause h c).att = s.att := rfl
@[simp] theorem addCause_porHeld : (s.addCause h c).porHeld = s.porHeld := rfl
@[simp] theorem addCause_pending : (s.addCause h c).pending = s.pending := rfl
@[simp] theorem addCause_busRead : (s.addCause h c).busRead = s.busRead := rfl
@[simp] theorem addCause_now : (s.addCause h c).now = s.now := rfl
@[simp] theorem addCause_freeIx : (s.addCause h c).freeIx = s.freeIx := rfl

end

section
variable (s : State)

@[simp] theorem readClock_templates : (s.readClock).templates = s.templates := rfl
@[simp] theorem readClock_sites : (s.readClock).sites = s.sites := rfl
@[simp] theorem readClock_lists : (s.readClock).lists = s.lists := rfl
@[simp] theorem readClock_store : (s.readClock).store = s.store := rfl
@[simp] theorem readClock_engine : (s.readClock).engine = s.engine := rfl
@[simp] theorem readClock_co : (s.readClock).co = s.co := rfl
@[simp] theorem readClock_links : (s.readClock).links = s.links := rfl
@[simp] theorem readClock_trainingTimeout : (s.readClock).trainingTimeout = s.trainingTimeout := rfl
@[simp] theorem readClock_ex : (s.readClock).ex = s.ex := rfl
@[simp] theorem readClock_port : (s.readClock).port = s.port := rfl
@[simp] theorem readClock_att : (s.readClock).att = s.att := rfl
@[simp] theorem readClock_porHeld : (s.readClock).porHeld = s.porHeld := rfl
@[simp] theorem readClock_pending : (s.readClock).pending = s.pending := rfl
@[simp] theorem readClock_busRead : (s.readClock).busRead = s.busRead := rfl

end

section
variable (s : State)

@[simp] theorem judgeLow_templates : (s.judgeLow).templates = s.templates := rfl
@[simp] theorem judgeLow_sites : (s.judgeLow).sites = s.sites := rfl
@[simp] theorem judgeLow_lists : (s.judgeLow).lists = s.lists := rfl
@[simp] theorem judgeLow_engine : (s.judgeLow).engine = s.engine := rfl
@[simp] theorem judgeLow_co : (s.judgeLow).co = s.co := rfl
@[simp] theorem judgeLow_links : (s.judgeLow).links = s.links := rfl
@[simp] theorem judgeLow_trainingTimeout : (s.judgeLow).trainingTimeout = s.trainingTimeout := rfl
@[simp] theorem judgeLow_ex : (s.judgeLow).ex = s.ex := rfl
@[simp] theorem judgeLow_port : (s.judgeLow).port = s.port := rfl
@[simp] theorem judgeLow_att : (s.judgeLow).att = s.att := rfl
@[simp] theorem judgeLow_porHeld : (s.judgeLow).porHeld = s.porHeld := rfl
@[simp] theorem judgeLow_pending : (s.judgeLow).pending = s.pending := rfl
@[simp] theorem judgeLow_busRead : (s.judgeLow).busRead = s.busRead := rfl
@[simp] theorem judgeLow_now : (s.judgeLow).now = s.now := rfl
@[simp] theorem judgeLow_freeIx : (s.judgeLow).freeIx = s.freeIx := rfl

end

section
variable (s : State) (ls : List LineRec)

@[simp] theorem setLines_templates : (s.setLines ls).templates = s.templates := rfl
@[simp] theorem setLines_sites : (s.setLines ls).sites = s.sites := rfl
@[simp] theorem setLines_lists : (s.setLines ls).lists = s.lists := rfl
@[simp] theorem setLines_engine : (s.setLines ls).engine = s.engine := rfl
@[simp] theorem setLines_co : (s.setLines ls).co = s.co := rfl
@[simp] theorem setLines_links : (s.setLines ls).links = s.links := rfl
@[simp] theorem setLines_trainingTimeout : (s.setLines ls).trainingTimeout = s.trainingTimeout := rfl
@[simp] theorem setLines_ex : (s.setLines ls).ex = s.ex := rfl
@[simp] theorem setLines_port : (s.setLines ls).port = s.port := rfl
@[simp] theorem setLines_att : (s.setLines ls).att = s.att := rfl
@[simp] theorem setLines_porHeld : (s.setLines ls).porHeld = s.porHeld := rfl
@[simp] theorem setLines_pending : (s.setLines ls).pending = s.pending := rfl
@[simp] theorem setLines_busRead : (s.setLines ls).busRead = s.busRead := rfl
@[simp] theorem setLines_now : (s.setLines ls).now = s.now := rfl
@[simp] theorem setLines_freeIx : (s.setLines ls).freeIx = s.freeIx := rfl

end

section
variable (s : State) (k : Key) (st : LineState)

@[simp] theorem takeLine_templates : (s.takeLine k st).templates = s.templates := rfl
@[simp] theorem takeLine_sites : (s.takeLine k st).sites = s.sites := rfl
@[simp] theorem takeLine_lists : (s.takeLine k st).lists = s.lists := rfl
@[simp] theorem takeLine_engine : (s.takeLine k st).engine = s.engine := rfl
@[simp] theorem takeLine_co : (s.takeLine k st).co = s.co := rfl
@[simp] theorem takeLine_links : (s.takeLine k st).links = s.links := rfl
@[simp] theorem takeLine_trainingTimeout : (s.takeLine k st).trainingTimeout = s.trainingTimeout := rfl
@[simp] theorem takeLine_ex : (s.takeLine k st).ex = s.ex := rfl
@[simp] theorem takeLine_port : (s.takeLine k st).port = s.port := rfl
@[simp] theorem takeLine_att : (s.takeLine k st).att = s.att := rfl
@[simp] theorem takeLine_porHeld : (s.takeLine k st).porHeld = s.porHeld := rfl
@[simp] theorem takeLine_pending : (s.takeLine k st).pending = s.pending := rfl
@[simp] theorem takeLine_busRead : (s.takeLine k st).busRead = s.busRead := rfl
@[simp] theorem takeLine_now : (s.takeLine k st).now = s.now := rfl

end

section
variable (s : State) (k : Key) (f : LineRec → LineRec)

@[simp] theorem writeLine_templates : (s.writeLine k f).templates = s.templates := rfl
@[simp] theorem writeLine_sites : (s.writeLine k f).sites = s.sites := rfl
@[simp] theorem writeLine_lists : (s.writeLine k f).lists = s.lists := rfl
@[simp] theorem writeLine_engine : (s.writeLine k f).engine = s.engine := rfl
@[simp] theorem writeLine_co : (s.writeLine k f).co = s.co := rfl
@[simp] theorem writeLine_links : (s.writeLine k f).links = s.links := rfl
@[simp] theorem writeLine_trainingTimeout : (s.writeLine k f).trainingTimeout = s.trainingTimeout := rfl
@[simp] theorem writeLine_ex : (s.writeLine k f).ex = s.ex := rfl
@[simp] theorem writeLine_port : (s.writeLine k f).port = s.port := rfl
@[simp] theorem writeLine_att : (s.writeLine k f).att = s.att := rfl
@[simp] theorem writeLine_porHeld : (s.writeLine k f).porHeld = s.porHeld := rfl
@[simp] theorem writeLine_pending : (s.writeLine k f).pending = s.pending := rfl
@[simp] theorem writeLine_busRead : (s.writeLine k f).busRead = s.busRead := rfl
@[simp] theorem writeLine_now : (s.writeLine k f).now = s.now := rfl
@[simp] theorem writeLine_freeIx : (s.writeLine k f).freeIx = s.freeIx := rfl

end

section
variable (s : State) (k : Key)

@[simp] theorem freeLine_templates : (s.freeLine k).templates = s.templates := rfl
@[simp] theorem freeLine_sites : (s.freeLine k).sites = s.sites := rfl
@[simp] theorem freeLine_lists : (s.freeLine k).lists = s.lists := rfl
@[simp] theorem freeLine_engine : (s.freeLine k).engine = s.engine := rfl
@[simp] theorem freeLine_co : (s.freeLine k).co = s.co := rfl
@[simp] theorem freeLine_links : (s.freeLine k).links = s.links := rfl
@[simp] theorem freeLine_trainingTimeout : (s.freeLine k).trainingTimeout = s.trainingTimeout := rfl
@[simp] theorem freeLine_ex : (s.freeLine k).ex = s.ex := rfl
@[simp] theorem freeLine_port : (s.freeLine k).port = s.port := rfl
@[simp] theorem freeLine_att : (s.freeLine k).att = s.att := rfl
@[simp] theorem freeLine_porHeld : (s.freeLine k).porHeld = s.porHeld := rfl
@[simp] theorem freeLine_pending : (s.freeLine k).pending = s.pending := rfl
@[simp] theorem freeLine_busRead : (s.freeLine k).busRead = s.busRead := rfl
@[simp] theorem freeLine_now : (s.freeLine k).now = s.now := rfl
@[simp] theorem freeLine_freeIx : (s.freeLine k).freeIx = s.freeIx := rfl

end

section
variable (s : State) (k : Key)

@[simp] theorem countLine_templates : (s.countLine k).templates = s.templates := rfl
@[simp] theorem countLine_sites : (s.countLine k).sites = s.sites := rfl
@[simp] theorem countLine_lists : (s.countLine k).lists = s.lists := rfl
@[simp] theorem countLine_engine : (s.countLine k).engine = s.engine := rfl
@[simp] theorem countLine_co : (s.countLine k).co = s.co := rfl
@[simp] theorem countLine_links : (s.countLine k).links = s.links := rfl
@[simp] theorem countLine_trainingTimeout : (s.countLine k).trainingTimeout = s.trainingTimeout := rfl
@[simp] theorem countLine_ex : (s.countLine k).ex = s.ex := rfl
@[simp] theorem countLine_port : (s.countLine k).port = s.port := rfl
@[simp] theorem countLine_att : (s.countLine k).att = s.att := rfl
@[simp] theorem countLine_porHeld : (s.countLine k).porHeld = s.porHeld := rfl
@[simp] theorem countLine_pending : (s.countLine k).pending = s.pending := rfl
@[simp] theorem countLine_busRead : (s.countLine k).busRead = s.busRead := rfl
@[simp] theorem countLine_now : (s.countLine k).now = s.now := rfl
@[simp] theorem countLine_freeIx : (s.countLine k).freeIx = s.freeIx := rfl

end

section
variable (s : State) (p : SettleEntry → Bool)

@[simp] theorem dropSettle_templates : (s.dropSettle p).templates = s.templates := rfl
@[simp] theorem dropSettle_sites : (s.dropSettle p).sites = s.sites := rfl
@[simp] theorem dropSettle_lists : (s.dropSettle p).lists = s.lists := rfl
@[simp] theorem dropSettle_store : (s.dropSettle p).store = s.store := rfl
@[simp] theorem dropSettle_co : (s.dropSettle p).co = s.co := rfl
@[simp] theorem dropSettle_links : (s.dropSettle p).links = s.links := rfl
@[simp] theorem dropSettle_trainingTimeout : (s.dropSettle p).trainingTimeout = s.trainingTimeout := rfl
@[simp] theorem dropSettle_ex : (s.dropSettle p).ex = s.ex := rfl
@[simp] theorem dropSettle_port : (s.dropSettle p).port = s.port := rfl
@[simp] theorem dropSettle_att : (s.dropSettle p).att = s.att := rfl
@[simp] theorem dropSettle_porHeld : (s.dropSettle p).porHeld = s.porHeld := rfl
@[simp] theorem dropSettle_pending : (s.dropSettle p).pending = s.pending := rfl
@[simp] theorem dropSettle_busRead : (s.dropSettle p).busRead = s.busRead := rfl
@[simp] theorem dropSettle_now : (s.dropSettle p).now = s.now := rfl
@[simp] theorem dropSettle_freeIx : (s.dropSettle p).freeIx = s.freeIx := rfl

end

section
variable (s : State) (i : SiteNo) (d : DomainNo)

@[simp] theorem appendSettle_templates : (s.appendSettle i d).templates = s.templates := rfl
@[simp] theorem appendSettle_sites : (s.appendSettle i d).sites = s.sites := rfl
@[simp] theorem appendSettle_lists : (s.appendSettle i d).lists = s.lists := rfl
@[simp] theorem appendSettle_store : (s.appendSettle i d).store = s.store := rfl
@[simp] theorem appendSettle_co : (s.appendSettle i d).co = s.co := rfl
@[simp] theorem appendSettle_links : (s.appendSettle i d).links = s.links := rfl
@[simp] theorem appendSettle_trainingTimeout : (s.appendSettle i d).trainingTimeout = s.trainingTimeout := rfl
@[simp] theorem appendSettle_ex : (s.appendSettle i d).ex = s.ex := rfl
@[simp] theorem appendSettle_port : (s.appendSettle i d).port = s.port := rfl
@[simp] theorem appendSettle_att : (s.appendSettle i d).att = s.att := rfl
@[simp] theorem appendSettle_porHeld : (s.appendSettle i d).porHeld = s.porHeld := rfl
@[simp] theorem appendSettle_pending : (s.appendSettle i d).pending = s.pending := rfl
@[simp] theorem appendSettle_busRead : (s.appendSettle i d).busRead = s.busRead := rfl
@[simp] theorem appendSettle_now : (s.appendSettle i d).now = s.now := rfl
@[simp] theorem appendSettle_freeIx : (s.appendSettle i d).freeIx = s.freeIx := rfl

end

section
variable (s : State) (i : SiteNo) (d : DomainNo) (k : Key) (b : Bool)

@[simp] theorem moveCursor_templates : (s.moveCursor i d k b).templates = s.templates := rfl
@[simp] theorem moveCursor_sites : (s.moveCursor i d k b).sites = s.sites := rfl
@[simp] theorem moveCursor_lists : (s.moveCursor i d k b).lists = s.lists := rfl
@[simp] theorem moveCursor_store : (s.moveCursor i d k b).store = s.store := rfl
@[simp] theorem moveCursor_co : (s.moveCursor i d k b).co = s.co := rfl
@[simp] theorem moveCursor_links : (s.moveCursor i d k b).links = s.links := rfl
@[simp] theorem moveCursor_trainingTimeout : (s.moveCursor i d k b).trainingTimeout = s.trainingTimeout := rfl
@[simp] theorem moveCursor_ex : (s.moveCursor i d k b).ex = s.ex := rfl
@[simp] theorem moveCursor_port : (s.moveCursor i d k b).port = s.port := rfl
@[simp] theorem moveCursor_att : (s.moveCursor i d k b).att = s.att := rfl
@[simp] theorem moveCursor_porHeld : (s.moveCursor i d k b).porHeld = s.porHeld := rfl
@[simp] theorem moveCursor_pending : (s.moveCursor i d k b).pending = s.pending := rfl
@[simp] theorem moveCursor_busRead : (s.moveCursor i d k b).busRead = s.busRead := rfl
@[simp] theorem moveCursor_now : (s.moveCursor i d k b).now = s.now := rfl
@[simp] theorem moveCursor_freeIx : (s.moveCursor i d k b).freeIx = s.freeIx := rfl

end

section
variable (s : State) (p : Option SweepPos)

@[simp] theorem setSweepPos_templates : (s.setSweepPos p).templates = s.templates := rfl
@[simp] theorem setSweepPos_sites : (s.setSweepPos p).sites = s.sites := rfl
@[simp] theorem setSweepPos_lists : (s.setSweepPos p).lists = s.lists := rfl
@[simp] theorem setSweepPos_store : (s.setSweepPos p).store = s.store := rfl
@[simp] theorem setSweepPos_co : (s.setSweepPos p).co = s.co := rfl
@[simp] theorem setSweepPos_links : (s.setSweepPos p).links = s.links := rfl
@[simp] theorem setSweepPos_trainingTimeout : (s.setSweepPos p).trainingTimeout = s.trainingTimeout := rfl
@[simp] theorem setSweepPos_ex : (s.setSweepPos p).ex = s.ex := rfl
@[simp] theorem setSweepPos_port : (s.setSweepPos p).port = s.port := rfl
@[simp] theorem setSweepPos_att : (s.setSweepPos p).att = s.att := rfl
@[simp] theorem setSweepPos_porHeld : (s.setSweepPos p).porHeld = s.porHeld := rfl
@[simp] theorem setSweepPos_pending : (s.setSweepPos p).pending = s.pending := rfl
@[simp] theorem setSweepPos_busRead : (s.setSweepPos p).busRead = s.busRead := rfl
@[simp] theorem setSweepPos_now : (s.setSweepPos p).now = s.now := rfl
@[simp] theorem setSweepPos_freeIx : (s.setSweepPos p).freeIx = s.freeIx := rfl

end

section
variable (s : State) (i : SiteNo) (w : NoticeReason) (tag : Word)

@[simp] theorem postNoticeTag_templates : (s.postNoticeTag i w tag).templates = s.templates := rfl
@[simp] theorem postNoticeTag_sites : (s.postNoticeTag i w tag).sites = s.sites := rfl
@[simp] theorem postNoticeTag_store : (s.postNoticeTag i w tag).store = s.store := rfl
@[simp] theorem postNoticeTag_engine : (s.postNoticeTag i w tag).engine = s.engine := rfl
@[simp] theorem postNoticeTag_co : (s.postNoticeTag i w tag).co = s.co := rfl
@[simp] theorem postNoticeTag_links : (s.postNoticeTag i w tag).links = s.links := rfl
@[simp] theorem postNoticeTag_trainingTimeout : (s.postNoticeTag i w tag).trainingTimeout = s.trainingTimeout := rfl
@[simp] theorem postNoticeTag_ex : (s.postNoticeTag i w tag).ex = s.ex := rfl
@[simp] theorem postNoticeTag_port : (s.postNoticeTag i w tag).port = s.port := rfl
@[simp] theorem postNoticeTag_att : (s.postNoticeTag i w tag).att = s.att := rfl
@[simp] theorem postNoticeTag_porHeld : (s.postNoticeTag i w tag).porHeld = s.porHeld := rfl
@[simp] theorem postNoticeTag_pending : (s.postNoticeTag i w tag).pending = s.pending := rfl
@[simp] theorem postNoticeTag_busRead : (s.postNoticeTag i w tag).busRead = s.busRead := rfl
@[simp] theorem postNoticeTag_now : (s.postNoticeTag i w tag).now = s.now := rfl
@[simp] theorem postNoticeTag_freeIx : (s.postNoticeTag i w tag).freeIx = s.freeIx := rfl

end

section
variable (s : State) (i : SiteNo) (w : NoticeReason)

@[simp] theorem postNotice_templates : (s.postNotice i w).templates = s.templates := rfl
@[simp] theorem postNotice_sites : (s.postNotice i w).sites = s.sites := rfl
@[simp] theorem postNotice_store : (s.postNotice i w).store = s.store := rfl
@[simp] theorem postNotice_engine : (s.postNotice i w).engine = s.engine := rfl
@[simp] theorem postNotice_co : (s.postNotice i w).co = s.co := rfl
@[simp] theorem postNotice_links : (s.postNotice i w).links = s.links := rfl
@[simp] theorem postNotice_trainingTimeout : (s.postNotice i w).trainingTimeout = s.trainingTimeout := rfl
@[simp] theorem postNotice_ex : (s.postNotice i w).ex = s.ex := rfl
@[simp] theorem postNotice_port : (s.postNotice i w).port = s.port := rfl
@[simp] theorem postNotice_att : (s.postNotice i w).att = s.att := rfl
@[simp] theorem postNotice_porHeld : (s.postNotice i w).porHeld = s.porHeld := rfl
@[simp] theorem postNotice_pending : (s.postNotice i w).pending = s.pending := rfl
@[simp] theorem postNotice_busRead : (s.postNotice i w).busRead = s.busRead := rfl
@[simp] theorem postNotice_now : (s.postNotice i w).now = s.now := rfl
@[simp] theorem postNotice_freeIx : (s.postNotice i w).freeIx = s.freeIx := rfl

end

section
variable (s : State) (n : Nat)

@[simp] theorem raise_templates : (s.raise n).templates = s.templates := rfl
@[simp] theorem raise_sites : (s.raise n).sites = s.sites := rfl
@[simp] theorem raise_lists : (s.raise n).lists = s.lists := rfl
@[simp] theorem raise_store : (s.raise n).store = s.store := rfl
@[simp] theorem raise_engine : (s.raise n).engine = s.engine := rfl
@[simp] theorem raise_co : (s.raise n).co = s.co := rfl
@[simp] theorem raise_links : (s.raise n).links = s.links := rfl
@[simp] theorem raise_trainingTimeout : (s.raise n).trainingTimeout = s.trainingTimeout := rfl
@[simp] theorem raise_ex : (s.raise n).ex = s.ex := rfl
@[simp] theorem raise_port : (s.raise n).port = s.port := rfl
@[simp] theorem raise_porHeld : (s.raise n).porHeld = s.porHeld := rfl
@[simp] theorem raise_pending : (s.raise n).pending = s.pending := rfl
@[simp] theorem raise_busRead : (s.raise n).busRead = s.busRead := rfl
@[simp] theorem raise_now : (s.raise n).now = s.now := rfl
@[simp] theorem raise_freeIx : (s.raise n).freeIx = s.freeIx := rfl

end

section
variable (s : State) (n : Fin 128) (e : Option CoEntry)

@[simp] theorem setCoEntry_templates : (s.setCoEntry n e).templates = s.templates := rfl
@[simp] theorem setCoEntry_sites : (s.setCoEntry n e).sites = s.sites := rfl
@[simp] theorem setCoEntry_lists : (s.setCoEntry n e).lists = s.lists := rfl
@[simp] theorem setCoEntry_store : (s.setCoEntry n e).store = s.store := rfl
@[simp] theorem setCoEntry_engine : (s.setCoEntry n e).engine = s.engine := rfl
@[simp] theorem setCoEntry_links : (s.setCoEntry n e).links = s.links := rfl
@[simp] theorem setCoEntry_trainingTimeout : (s.setCoEntry n e).trainingTimeout = s.trainingTimeout := rfl
@[simp] theorem setCoEntry_ex : (s.setCoEntry n e).ex = s.ex := rfl
@[simp] theorem setCoEntry_port : (s.setCoEntry n e).port = s.port := rfl
@[simp] theorem setCoEntry_att : (s.setCoEntry n e).att = s.att := rfl
@[simp] theorem setCoEntry_porHeld : (s.setCoEntry n e).porHeld = s.porHeld := rfl
@[simp] theorem setCoEntry_pending : (s.setCoEntry n e).pending = s.pending := rfl
@[simp] theorem setCoEntry_busRead : (s.setCoEntry n e).busRead = s.busRead := rfl
@[simp] theorem setCoEntry_now : (s.setCoEntry n e).now = s.now := rfl
@[simp] theorem setCoEntry_freeIx : (s.setCoEntry n e).freeIx = s.freeIx := rfl

end

section
variable (s : State) (i : SiteNo)

@[simp] theorem coLeave_templates : (s.coLeave i).templates = s.templates := rfl
@[simp] theorem coLeave_sites : (s.coLeave i).sites = s.sites := rfl
@[simp] theorem coLeave_lists : (s.coLeave i).lists = s.lists := rfl
@[simp] theorem coLeave_store : (s.coLeave i).store = s.store := rfl
@[simp] theorem coLeave_engine : (s.coLeave i).engine = s.engine := rfl
@[simp] theorem coLeave_links : (s.coLeave i).links = s.links := rfl
@[simp] theorem coLeave_trainingTimeout : (s.coLeave i).trainingTimeout = s.trainingTimeout := rfl
@[simp] theorem coLeave_ex : (s.coLeave i).ex = s.ex := rfl
@[simp] theorem coLeave_port : (s.coLeave i).port = s.port := rfl
@[simp] theorem coLeave_att : (s.coLeave i).att = s.att := rfl
@[simp] theorem coLeave_porHeld : (s.coLeave i).porHeld = s.porHeld := rfl
@[simp] theorem coLeave_pending : (s.coLeave i).pending = s.pending := rfl
@[simp] theorem coLeave_busRead : (s.coLeave i).busRead = s.busRead := rfl
@[simp] theorem coLeave_now : (s.coLeave i).now = s.now := rfl
@[simp] theorem coLeave_freeIx : (s.coLeave i).freeIx = s.freeIx := rfl

end

section
variable (s : State) (i : SiteNo)

@[simp] theorem freeSite_templates : (s.freeSite i).templates = s.templates := rfl
@[simp] theorem freeSite_sites : (s.freeSite i).sites = s.sites := rfl
@[simp] theorem freeSite_lists : (s.freeSite i).lists = s.lists := rfl
@[simp] theorem freeSite_links : (s.freeSite i).links = s.links := rfl
@[simp] theorem freeSite_trainingTimeout : (s.freeSite i).trainingTimeout = s.trainingTimeout := rfl
@[simp] theorem freeSite_ex : (s.freeSite i).ex = s.ex := rfl
@[simp] theorem freeSite_port : (s.freeSite i).port = s.port := rfl
@[simp] theorem freeSite_att : (s.freeSite i).att = s.att := rfl
@[simp] theorem freeSite_porHeld : (s.freeSite i).porHeld = s.porHeld := rfl
@[simp] theorem freeSite_pending : (s.freeSite i).pending = s.pending := rfl
@[simp] theorem freeSite_busRead : (s.freeSite i).busRead = s.busRead := rfl
@[simp] theorem freeSite_now : (s.freeSite i).now = s.now := rfl
@[simp] theorem freeSite_freeIx : (s.freeSite i).freeIx = s.freeIx := rfl

end

section
variable (s : State)

@[simp] theorem judgeAttention_templates : (s.judgeAttention).templates = s.templates := rfl
@[simp] theorem judgeAttention_sites : (s.judgeAttention).sites = s.sites := rfl
@[simp] theorem judgeAttention_lists : (s.judgeAttention).lists = s.lists := rfl
@[simp] theorem judgeAttention_store : (s.judgeAttention).store = s.store := rfl
@[simp] theorem judgeAttention_engine : (s.judgeAttention).engine = s.engine := rfl
@[simp] theorem judgeAttention_co : (s.judgeAttention).co = s.co := rfl
@[simp] theorem judgeAttention_links : (s.judgeAttention).links = s.links := rfl
@[simp] theorem judgeAttention_trainingTimeout : (s.judgeAttention).trainingTimeout = s.trainingTimeout := rfl
@[simp] theorem judgeAttention_ex : (s.judgeAttention).ex = s.ex := rfl
@[simp] theorem judgeAttention_port : (s.judgeAttention).port = s.port := rfl
@[simp] theorem judgeAttention_porHeld : (s.judgeAttention).porHeld = s.porHeld := rfl
@[simp] theorem judgeAttention_pending : (s.judgeAttention).pending = s.pending := rfl
@[simp] theorem judgeAttention_busRead : (s.judgeAttention).busRead = s.busRead := rfl
@[simp] theorem judgeAttention_now : (s.judgeAttention).now = s.now := rfl
@[simp] theorem judgeAttention_freeIx : (s.judgeAttention).freeIx = s.freeIx := rfl

end

section
variable (s : State) (v : Word)

@[simp] theorem setSoftWord_templates : (s.setSoftWord v).templates = s.templates := rfl
@[simp] theorem setSoftWord_sites : (s.setSoftWord v).sites = s.sites := rfl
@[simp] theorem setSoftWord_lists : (s.setSoftWord v).lists = s.lists := rfl
@[simp] theorem setSoftWord_store : (s.setSoftWord v).store = s.store := rfl
@[simp] theorem setSoftWord_engine : (s.setSoftWord v).engine = s.engine := rfl
@[simp] theorem setSoftWord_co : (s.setSoftWord v).co = s.co := rfl
@[simp] theorem setSoftWord_links : (s.setSoftWord v).links = s.links := rfl
@[simp] theorem setSoftWord_trainingTimeout : (s.setSoftWord v).trainingTimeout = s.trainingTimeout := rfl
@[simp] theorem setSoftWord_ex : (s.setSoftWord v).ex = s.ex := rfl
@[simp] theorem setSoftWord_att : (s.setSoftWord v).att = s.att := rfl
@[simp] theorem setSoftWord_porHeld : (s.setSoftWord v).porHeld = s.porHeld := rfl
@[simp] theorem setSoftWord_pending : (s.setSoftWord v).pending = s.pending := rfl
@[simp] theorem setSoftWord_busRead : (s.setSoftWord v).busRead = s.busRead := rfl
@[simp] theorem setSoftWord_now : (s.setSoftWord v).now = s.now := rfl
@[simp] theorem setSoftWord_freeIx : (s.setSoftWord v).freeIx = s.freeIx := rfl

end

section
variable (s : State) (r : Reply)

@[simp] theorem postReply_templates : (s.postReply r).templates = s.templates := rfl
@[simp] theorem postReply_sites : (s.postReply r).sites = s.sites := rfl
@[simp] theorem postReply_lists : (s.postReply r).lists = s.lists := rfl
@[simp] theorem postReply_store : (s.postReply r).store = s.store := rfl
@[simp] theorem postReply_engine : (s.postReply r).engine = s.engine := rfl
@[simp] theorem postReply_co : (s.postReply r).co = s.co := rfl
@[simp] theorem postReply_links : (s.postReply r).links = s.links := rfl
@[simp] theorem postReply_trainingTimeout : (s.postReply r).trainingTimeout = s.trainingTimeout := rfl
@[simp] theorem postReply_ex : (s.postReply r).ex = s.ex := rfl
@[simp] theorem postReply_porHeld : (s.postReply r).porHeld = s.porHeld := rfl
@[simp] theorem postReply_pending : (s.postReply r).pending = s.pending := rfl
@[simp] theorem postReply_busRead : (s.postReply r).busRead = s.busRead := rfl
@[simp] theorem postReply_now : (s.postReply r).now = s.now := rfl
@[simp] theorem postReply_freeIx : (s.postReply r).freeIx = s.freeIx := rfl

end

section
variable (s : State) (i : SiteNo)

@[simp] theorem toSweeping_templates : (s.toSweeping i).templates = s.templates := rfl
@[simp] theorem toSweeping_store : (s.toSweeping i).store = s.store := rfl
@[simp] theorem toSweeping_engine : (s.toSweeping i).engine = s.engine := rfl
@[simp] theorem toSweeping_co : (s.toSweeping i).co = s.co := rfl
@[simp] theorem toSweeping_links : (s.toSweeping i).links = s.links := rfl
@[simp] theorem toSweeping_trainingTimeout : (s.toSweeping i).trainingTimeout = s.trainingTimeout := rfl
@[simp] theorem toSweeping_ex : (s.toSweeping i).ex = s.ex := rfl
@[simp] theorem toSweeping_port : (s.toSweeping i).port = s.port := rfl
@[simp] theorem toSweeping_att : (s.toSweeping i).att = s.att := rfl
@[simp] theorem toSweeping_porHeld : (s.toSweeping i).porHeld = s.porHeld := rfl
@[simp] theorem toSweeping_pending : (s.toSweeping i).pending = s.pending := rfl
@[simp] theorem toSweeping_busRead : (s.toSweeping i).busRead = s.busRead := rfl
@[simp] theorem toSweeping_now : (s.toSweeping i).now = s.now := rfl
@[simp] theorem toSweeping_freeIx : (s.toSweeping i).freeIx = s.freeIx := rfl

end

section
variable (s : State) (i : SiteNo)

@[simp] theorem toHeld_templates : (s.toHeld i).templates = s.templates := rfl
@[simp] theorem toHeld_store : (s.toHeld i).store = s.store := rfl
@[simp] theorem toHeld_co : (s.toHeld i).co = s.co := rfl
@[simp] theorem toHeld_links : (s.toHeld i).links = s.links := rfl
@[simp] theorem toHeld_trainingTimeout : (s.toHeld i).trainingTimeout = s.trainingTimeout := rfl
@[simp] theorem toHeld_port : (s.toHeld i).port = s.port := rfl
@[simp] theorem toHeld_att : (s.toHeld i).att = s.att := rfl
@[simp] theorem toHeld_porHeld : (s.toHeld i).porHeld = s.porHeld := rfl
@[simp] theorem toHeld_pending : (s.toHeld i).pending = s.pending := rfl
@[simp] theorem toHeld_busRead : (s.toHeld i).busRead = s.busRead := rfl
@[simp] theorem toHeld_now : (s.toHeld i).now = s.now := rfl
@[simp] theorem toHeld_freeIx : (s.toHeld i).freeIx = s.freeIx := rfl

end

section
variable (s : State) (i : SiteNo)

@[simp] theorem enterDraining_templates : (s.enterDraining i).templates = s.templates := rfl
@[simp] theorem enterDraining_lists : (s.enterDraining i).lists = s.lists := rfl
@[simp] theorem enterDraining_store : (s.enterDraining i).store = s.store := rfl
@[simp] theorem enterDraining_engine : (s.enterDraining i).engine = s.engine := rfl
@[simp] theorem enterDraining_co : (s.enterDraining i).co = s.co := rfl
@[simp] theorem enterDraining_trainingTimeout : (s.enterDraining i).trainingTimeout = s.trainingTimeout := rfl
@[simp] theorem enterDraining_ex : (s.enterDraining i).ex = s.ex := rfl
@[simp] theorem enterDraining_port : (s.enterDraining i).port = s.port := rfl
@[simp] theorem enterDraining_att : (s.enterDraining i).att = s.att := rfl
@[simp] theorem enterDraining_porHeld : (s.enterDraining i).porHeld = s.porHeld := rfl
@[simp] theorem enterDraining_pending : (s.enterDraining i).pending = s.pending := rfl
@[simp] theorem enterDraining_busRead : (s.enterDraining i).busRead = s.busRead := rfl

end

section
variable (s : State)

@[simp] theorem clearAccess_templates : (s.clearAccess).templates = s.templates := rfl
@[simp] theorem clearAccess_sites : (s.clearAccess).sites = s.sites := rfl
@[simp] theorem clearAccess_lists : (s.clearAccess).lists = s.lists := rfl
@[simp] theorem clearAccess_store : (s.clearAccess).store = s.store := rfl
@[simp] theorem clearAccess_engine : (s.clearAccess).engine = s.engine := rfl
@[simp] theorem clearAccess_co : (s.clearAccess).co = s.co := rfl
@[simp] theorem clearAccess_links : (s.clearAccess).links = s.links := rfl
@[simp] theorem clearAccess_trainingTimeout : (s.clearAccess).trainingTimeout = s.trainingTimeout := rfl
@[simp] theorem clearAccess_port : (s.clearAccess).port = s.port := rfl
@[simp] theorem clearAccess_att : (s.clearAccess).att = s.att := rfl
@[simp] theorem clearAccess_porHeld : (s.clearAccess).porHeld = s.porHeld := rfl
@[simp] theorem clearAccess_pending : (s.clearAccess).pending = s.pending := rfl
@[simp] theorem clearAccess_busRead : (s.clearAccess).busRead = s.busRead := rfl
@[simp] theorem clearAccess_now : (s.clearAccess).now = s.now := rfl
@[simp] theorem clearAccess_freeIx : (s.clearAccess).freeIx = s.freeIx := rfl

end

section
variable (s : State) (d : Nat)

@[simp] theorem clockAt_templates : (s.clockAt d).templates = s.templates := rfl
@[simp] theorem clockAt_sites : (s.clockAt d).sites = s.sites := rfl
@[simp] theorem clockAt_lists : (s.clockAt d).lists = s.lists := rfl
@[simp] theorem clockAt_store : (s.clockAt d).store = s.store := rfl
@[simp] theorem clockAt_engine : (s.clockAt d).engine = s.engine := rfl
@[simp] theorem clockAt_co : (s.clockAt d).co = s.co := rfl
@[simp] theorem clockAt_links : (s.clockAt d).links = s.links := rfl
@[simp] theorem clockAt_trainingTimeout : (s.clockAt d).trainingTimeout = s.trainingTimeout := rfl
@[simp] theorem clockAt_ex : (s.clockAt d).ex = s.ex := rfl
@[simp] theorem clockAt_port : (s.clockAt d).port = s.port := rfl
@[simp] theorem clockAt_att : (s.clockAt d).att = s.att := rfl
@[simp] theorem clockAt_porHeld : (s.clockAt d).porHeld = s.porHeld := rfl
@[simp] theorem clockAt_pending : (s.clockAt d).pending = s.pending := rfl
@[simp] theorem clockAt_busRead : (s.clockAt d).busRead = s.busRead := rfl
@[simp] theorem clockAt_freeIx : (s.clockAt d).freeIx = s.freeIx := rfl

end

/-! ### Accessors after updates -/

@[simp] theorem setSite_site_self (s : State) (i : SiteNo) (x : Site) : (s.setSite i x).site i = x := by simp [State.setSite, State.site]

theorem setSite_site_ne {i j : SiteNo} (h : j ≠ i) (s : State) (x : Site) : (s.setSite i x).site j = s.site j := by
  have : i.val ≠ j.val := fun e => h (Fin.ext e.symm)
  simp [State.setSite, State.site, this]

@[simp] theorem modSite_site_self (s : State) (i : SiteNo) (f : Site → Site) : (s.modSite i f).site i = f (s.site i) := by simp [State.modSite]

theorem modSite_site_ne {i j : SiteNo} (h : j ≠ i) (s : State) (f : Site → Site) : (s.modSite i f).site j = s.site j := by
  simp [State.modSite, setSite_site_ne h]

theorem modSite_site (s : State) (i j : SiteNo) (f : Site → Site) : (s.modSite i f).site j = if j = i then f (s.site i) else s.site j := by
  by_cases h : j = i
  · subst h; simp
  · simp [h, modSite_site_ne h]

theorem modCtx_site (s : State) (i j : SiteNo) (f : Context → Context) :
    (s.modCtx i f).site j = if j = i then { s.site i with ctx := (s.site i).ctx.map f } else s.site j := by
  simp [State.modCtx, modSite_site]

@[simp] theorem setLink_link_self (s : State) (h : HeadNo) (x : Link) : (s.setLink h x).link h = x := by simp [State.setLink, State.link]

theorem setLink_link_ne {h g : HeadNo} (e : g ≠ h) (s : State) (x : Link) : (s.setLink h x).link g = s.link g := by
  have : h.val ≠ g.val := fun k => e (Fin.ext k.symm)
  simp [State.setLink, State.link, this]

@[simp] theorem modLink_link_self (s : State) (h : HeadNo) (f : Link → Link) : (s.modLink h f).link h = f (s.link h) := by simp [State.modLink]

theorem modLink_link (s : State) (h g : HeadNo) (f : Link → Link) : (s.modLink h f).link g = if g = h then f (s.link h) else s.link g := by
  by_cases e : g = h
  · subst e; simp
  · simp [e, State.modLink, setLink_link_ne e]

@[simp] theorem setTemplate_template_self (s : State) (n : TemplateNo) (x : Template) : (s.setTemplate n x).template n = x := by
  simp [State.setTemplate, State.template]

theorem setTemplate_template_ne {n m : TemplateNo} (e : m ≠ n) (s : State) (x : Template) : (s.setTemplate n x).template m = s.template m := by
  have : n.val ≠ m.val := fun k => e (Fin.ext k.symm)
  simp [State.setTemplate, State.template, this]

/-- Site states read the sites alone. -/
theorem siteState_congr {s t : State} (h : t.sites = s.sites) (i : SiteNo) : t.siteState i = s.siteState i := by
  simp [State.siteState, State.site, h]

/-- Gate sets read the sites and the link states alone. -/
theorem gateSet_congr {s t : State} (hs : t.sites = s.sites) (h : HeadNo) (hl : (t.link h).state = (s.link h).state) :
    t.gateSet h = s.gateSet h := by
  have hb : t.gateBit h = s.gateBit h := by
    funext sl
    simp only [State.gateBit, State.siteState, State.site, hl, hs]
  simp only [State.gateSet, hl, hb]

end Sys2Proof.Machine
end

