-- ==== Sys2Proof/Laws/Finish.lean ====
section
/-! SUPPORT. What the end of an event does (log entry 12): it leaves every block alone but the links, the Export Engine's beginnings, the
clock and the level sources; it settles every state and leaves a settled state as it is. -/

namespace Sys2Proof.Machine

/-! ### The bus initiator -/

/-- Everything taking an access can do (R164). -/
theorem takeAccess_cases (s : State) :
    s.takeAccess = s ∨
      ∃ k, s.ex.access = none ∧ s.ex.stall = none ∧ s.ex.nextAccess = some k ∧
        s.takeAccess = { s.readClock with ex := { s.ex with access := some { kind := k, deadline := s.readClock.now + s.ex.busTimeout * 10 } } } := by
  unfold State.takeAccess
  split
  · exact .inl rfl
  · rename_i h
    simp only [Bool.or_eq_true, Option.isSome_iff_ne_none, not_or, ne_eq, Decidable.not_not] at h
    split
    · exact .inl rfl
    · rename_i k hk
      exact .inr ⟨k, h.1, h.2, hk, rfl⟩

section
variable (s : State)

@[simp] theorem takeAccess_templates : s.takeAccess.templates = s.templates := by rcases takeAccess_cases s with h | ⟨_, _, _, _, h⟩ <;> rw [h] <;> rfl
@[simp] theorem takeAccess_sites : s.takeAccess.sites = s.sites := by rcases takeAccess_cases s with h | ⟨_, _, _, _, h⟩ <;> rw [h] <;> rfl
@[simp] theorem takeAccess_lists : s.takeAccess.lists = s.lists := by rcases takeAccess_cases s with h | ⟨_, _, _, _, h⟩ <;> rw [h] <;> rfl
@[simp] theorem takeAccess_store : s.takeAccess.store = s.store := by rcases takeAccess_cases s with h | ⟨_, _, _, _, h⟩ <;> rw [h] <;> rfl
@[simp] theorem takeAccess_engine : s.takeAccess.engine = s.engine := by rcases takeAccess_cases s with h | ⟨_, _, _, _, h⟩ <;> rw [h] <;> rfl
@[simp] theorem takeAccess_co : s.takeAccess.co = s.co := by rcases takeAccess_cases s with h | ⟨_, _, _, _, h⟩ <;> rw [h] <;> rfl
@[simp] theorem takeAccess_links : s.takeAccess.links = s.links := by rcases takeAccess_cases s with h | ⟨_, _, _, _, h⟩ <;> rw [h] <;> rfl
@[simp] theorem takeAccess_trainingTimeout : s.takeAccess.trainingTimeout = s.trainingTimeout := by rcases takeAccess_cases s with h | ⟨_, _, _, _, h⟩ <;> rw [h] <;> rfl
@[simp] theorem takeAccess_port : s.takeAccess.port = s.port := by rcases takeAccess_cases s with h | ⟨_, _, _, _, h⟩ <;> rw [h] <;> rfl
@[simp] theorem takeAccess_att : s.takeAccess.att = s.att := by rcases takeAccess_cases s with h | ⟨_, _, _, _, h⟩ <;> rw [h] <;> rfl
@[simp] theorem takeAccess_porHeld : s.takeAccess.porHeld = s.porHeld := by rcases takeAccess_cases s with h | ⟨_, _, _, _, h⟩ <;> rw [h] <;> rfl
@[simp] theorem takeAccess_pending : s.takeAccess.pending = s.pending := by rcases takeAccess_cases s with h | ⟨_, _, _, _, h⟩ <;> rw [h] <;> rfl
@[simp] theorem takeAccess_busRead : s.takeAccess.busRead = s.busRead := by rcases takeAccess_cases s with h | ⟨_, _, _, _, h⟩ <;> rw [h] <;> rfl

/-- An access in flight is all that taking an access changes in the Export Engine. -/
theorem takeAccess_ex : { s.takeAccess.ex with access := none } = { s.ex with access := none } := by
  rcases takeAccess_cases s with h | ⟨_, _, _, _, h⟩ <;> rw [h]

/-- A state that takes no access has none due (R164). -/
theorem takeAccess_done : s.takeAccess.ex.access = none → s.takeAccess.ex.stall = none → s.takeAccess.ex.nextAccess = none := by
  intro ha hs
  unfold State.takeAccess at *
  split at ha
  · rename_i h; simp_all
  · rename_i h
    split at ha
    · rename_i hk; simp_all
    · simp at ha

theorem takeAccess_eq (h : s.ex.access = none → s.ex.stall = none → s.ex.nextAccess = none) : s.takeAccess = s := by
  rcases takeAccess_cases s with e | ⟨k, ha, hs, hk, _⟩
  · exact e
  · rw [h ha hs] at hk; cases hk

end

/-! ### The Export Engine's beginnings (R166, R167) -/

/-- Beginning to write sets the write position and nothing else. -/
theorem beginWrite_keeps (e : Exporter) : { e.beginWrite with writePos := none } = { e with writePos := none } := by
  unfold Exporter.beginWrite; split <;> rfl

/-- Beginning an assembly sets the assembly in progress and nothing else. -/
theorem beginAssembly_keeps (e : Exporter) : { e.beginAssembly with assembling := none } = { e with assembling := none } := by
  unfold Exporter.beginAssembly; split <;> rfl

/-- No write begins exactly when no record waits for a held descriptor (R167). -/
theorem beginWrite_fix (e : Exporter) :
    e.beginWrite = e ↔ (e.buffer ≠ none → e.writePos = none → ∀ d, e.current ≠ .held d) := by
  unfold Exporter.beginWrite
  split
  · rename_i h1 h2 h3
    constructor
    · intro h; have := congrArg Exporter.writePos h; simp [h2] at this
    · intro h; exact absurd h3 (h (by simp [h1]) h2 _)
  · rename_i h
    refine ⟨fun _ hb hw d hd => ?_, fun _ => rfl⟩
    obtain ⟨r, hr⟩ := Option.ne_none_iff_exists'.mp hb
    exact h r d hr hw hd

/-- No assembly begins exactly when none can (R166). -/
theorem beginAssembly_fix (e : Exporter) :
    e.beginAssembly = e ↔ (e.buffer = none → e.assembling = none → e.stall = none → e.collectionQueue = []) := by
  unfold Exporter.beginAssembly
  split
  · rename_i h1 h2 h3 h4
    constructor
    · intro h; have := congrArg Exporter.assembling h; simp [h3] at this
    · intro h; have := h h2 h3 h4; simp [h1] at this
  · rename_i h
    refine ⟨fun _ hb ha hs => ?_, fun _ => rfl⟩
    cases hq : e.collectionQueue with
    | nil => rfl
    | cons i rest => exact absurd hs (h i rest hq hb ha)

/-- After both beginnings neither can begin again. -/
theorem beginnings_fix (e : Exporter) :
    e.beginWrite.beginAssembly.beginWrite = e.beginWrite.beginAssembly ∧
      e.beginWrite.beginAssembly.beginAssembly = e.beginWrite.beginAssembly := by
  have hw : e.beginWrite.buffer ≠ none → e.beginWrite.writePos = none → ∀ d, e.beginWrite.current ≠ .held d := by
    unfold Exporter.beginWrite
    split
    · simp
    · rename_i h
      intro hb hw d hd
      obtain ⟨r, hr⟩ := Option.ne_none_iff_exists'.mp hb
      exact h r d hr hw hd
  have k := beginAssembly_keeps e.beginWrite
  have k1 := congrArg Exporter.buffer k
  have k2 := congrArg Exporter.writePos k
  have k3 := congrArg Exporter.current k
  refine ⟨(beginWrite_fix _).mpr ?_, (beginAssembly_fix _).mpr ?_⟩
  · simp only at k1 k2 k3; rw [k1, k2, k3]; exact hw
  · unfold Exporter.beginAssembly
    split
    · simp
    · rename_i h
      intro hb ha hs
      cases hq : e.beginWrite.collectionQueue with
      | nil => rfl
      | cons i rest => exact absurd hs (h i rest hq hb ha)

/-! ### Links (R24, R155) -/

/-- Handing a gate set over changes the pending GATE and the set handed over alone. -/
theorem handGate_keeps (l : Link) (g : SlotSet) : { l.handGate g with downGate := none, gateHanded := 0 } = { l with downGate := none, gateHanded := 0 } := by
  unfold Link.handGate; split <;> rfl

/-- A take changes the downlink queue, the transmitter and the balance alone. -/
theorem takeDownlink_keeps (l : Link) :
    { l.takeDownlink with downGate := none, downCredit := none, drains := [], transmitter := none, balance := 0 }
      = { l with downGate := none, downCredit := none, drains := [], transmitter := none, balance := 0 } := by
  unfold Link.takeDownlink
  split
  · split
    · rfl
    · split
      · rfl
      · split <;> rfl
  · rfl

section
variable (l : Link) (g : SlotSet)

@[simp] theorem handGate_state : (l.handGate g).state = l.state := by have := congrArg Link.state (handGate_keeps l g); exact this
@[simp] theorem handGate_fifo : (l.handGate g).fifo = l.fifo := by have := congrArg Link.fifo (handGate_keeps l g); exact this
@[simp] theorem handGate_marker : (l.handGate g).marker = l.marker := by have := congrArg Link.marker (handGate_keeps l g); exact this
@[simp] theorem handGate_causes : (l.handGate g).causes = l.causes := by have := congrArg Link.causes (handGate_keeps l g); exact this
@[simp] theorem takeDownlink_state : l.takeDownlink.state = l.state := by have := congrArg Link.state (takeDownlink_keeps l); exact this
@[simp] theorem takeDownlink_fifo : l.takeDownlink.fifo = l.fifo := by have := congrArg Link.fifo (takeDownlink_keeps l); exact this
@[simp] theorem takeDownlink_marker : l.takeDownlink.marker = l.marker := by have := congrArg Link.marker (takeDownlink_keeps l); exact this
@[simp] theorem takeDownlink_causes : l.takeDownlink.causes = l.causes := by have := congrArg Link.causes (takeDownlink_keeps l); exact this
@[simp] theorem takeDownlink_gateHanded : l.takeDownlink.gateHanded = l.gateHanded := by have := congrArg Link.gateHanded (takeDownlink_keeps l); exact this

@[simp] theorem finished_state : (l.finished g).state = l.state := by simp [Link.finished]
@[simp] theorem finished_fifo : (l.finished g).fifo = l.fifo := by simp [Link.finished]
@[simp] theorem finished_marker : (l.finished g).marker = l.marker := by simp [Link.finished]
@[simp] theorem finished_causes : (l.finished g).causes = l.causes := by simp [Link.finished]

/-- An UP link has the set handed over at the end of the event. -/
theorem finished_gateHanded (h : l.state = .up) : (l.finished g).gateHanded = g := by
  unfold Link.finished Link.handGate
  split
  · simp
  · simp_all

/-- An IDLE transmitter of an UP link leaves nothing in the queue (R155). -/
theorem takeDownlink_done (h : l.state = .up) (ht : l.takeDownlink.transmitter = none) :
    l.takeDownlink.downGate = none ∧ l.takeDownlink.drains = [] ∧ l.takeDownlink.downCredit = none := by
  unfold Link.takeDownlink at *
  split at ht
  · rename_i c
    split at ht
    · simp at ht
    · split at ht
      · simp at ht
      · split at ht <;> simp_all
  · simp_all

/-- A link that has its set and leaves nothing waiting stays as it is. -/
theorem finished_eq (hg : l.state = .up → l.gateHanded = g)
    (ht : l.state = .up → l.transmitter = none → l.downGate = none ∧ l.drains = [] ∧ l.downCredit = none) : l.finished g = l := by
  have h1 : l.handGate g = l := by unfold Link.handGate; split <;> simp_all
  rw [Link.finished, h1]
  unfold Link.takeDownlink
  split
  · rename_i c; obtain ⟨a, b, d⟩ := ht c.1 c.2; simp [a, b, d]
  · rfl

end

/-! ### The end of an event -/

section
variable (s : State)

@[simp] theorem finish_templates : s.finish.templates = s.templates := by simp [State.finish]; rfl
@[simp] theorem finish_sites : s.finish.sites = s.sites := by simp [State.finish]; rfl
@[simp] theorem finish_lists : s.finish.lists = s.lists := by simp [State.finish]; rfl
@[simp] theorem finish_store : s.finish.store = s.store := by simp [State.finish]; rfl
@[simp] theorem finish_engine : s.finish.engine = s.engine := by simp [State.finish]; rfl
@[simp] theorem finish_co : s.finish.co = s.co := by simp [State.finish]; rfl
@[simp] theorem finish_trainingTimeout : s.finish.trainingTimeout = s.trainingTimeout := by simp [State.finish]; rfl
@[simp] theorem finish_port : s.finish.port = s.port := by simp [State.finish]; rfl
@[simp] theorem finish_porHeld : s.finish.porHeld = s.porHeld := by simp [State.finish]; rfl
@[simp] theorem finish_pending : s.finish.pending = s.pending := by simp [State.finish]; rfl
@[simp] theorem finish_busRead : s.finish.busRead = s.busRead := by simp [State.finish]; rfl

@[simp] theorem finish_isHeld : s.finish.isHeld = s.isHeld := by simp [State.isHeld]

@[simp] theorem finish_siteState (i : SiteNo) : s.finish.siteState i = s.siteState i := siteState_congr (finish_sites s) i

@[simp] theorem finish_site (i : SiteNo) : s.finish.site i = s.site i := by simp [State.site]

@[simp] theorem finish_ctx (i : SiteNo) : s.finish.ctx i = s.ctx i := by simp [State.ctx]

@[simp] theorem finish_template (n : TemplateNo) : s.finish.template n = s.template n := by simp [State.template]

/-- The links at the end of an event. -/
theorem finish_link (h : HeadNo) : s.finish.link h = (s.link h).finished (s.gateSet h) := by
  have : s.finish.links = s.handGates.takeDownlinks.links := by simp [State.finish, State.exportBegins]
  simp only [State.link, this, State.takeDownlinks, State.handGates, Vector.getElem_map, Vector.getElem_ofFn, Link.finished]

@[simp] theorem finish_gateSet (h : HeadNo) : s.finish.gateSet h = s.gateSet h :=
  gateSet_congr (finish_sites s) h (by simp [finish_link])

/-- The Export Engine at the end of an event. -/
theorem finish_ex : s.finish.ex = s.handGates.takeDownlinks.exportBegins.takeAccess.ex := rfl

/-- The Export Engine at the end of an event, but for the access in flight. -/
theorem finish_ex_keeps : { s.finish.ex with access := none } = { s.ex.beginWrite.beginAssembly with access := none } := by
  rw [finish_ex, takeAccess_ex]; rfl

@[simp] theorem finish_collectionQueue : s.finish.ex.collectionQueue = s.ex.collectionQueue := by
  have h1 := congrArg Exporter.collectionQueue (finish_ex_keeps s)
  have h2 := congrArg Exporter.collectionQueue (beginAssembly_keeps s.ex.beginWrite)
  have h3 := congrArg Exporter.collectionQueue (beginWrite_keeps s.ex)
  simpa using h1.trans (h2.trans h3)

@[simp] theorem finish_busTimeout : s.finish.ex.busTimeout = s.ex.busTimeout := by
  have h1 := congrArg Exporter.busTimeout (finish_ex_keeps s)
  have h2 := congrArg Exporter.busTimeout (beginAssembly_keeps s.ex.beginWrite)
  have h3 := congrArg Exporter.busTimeout (beginWrite_keeps s.ex)
  simpa using h1.trans (h2.trans h3)

@[simp] theorem finish_buffer : s.finish.ex.buffer = s.ex.buffer := by
  have h1 := congrArg Exporter.buffer (finish_ex_keeps s)
  have h2 := congrArg Exporter.buffer (beginAssembly_keeps s.ex.beginWrite)
  have h3 := congrArg Exporter.buffer (beginWrite_keeps s.ex)
  simpa using h1.trans (h2.trans h3)

/-- The attention sets at the end of an event: the pending set is judged and the others stay (R182). -/
theorem finish_att : s.finish.att = { s.att with pendingSet := s.finish.att.pendingSet } := by
  simp [State.finish, State.judgeAttention, State.exportBegins, State.takeDownlinks, State.handGates]

end

/-! ### The pending set (R182) -/

theorem getLsbD_ofBoolListLE (bs : List Bool) (i : Nat) : (BitVec.ofBoolListLE bs).getLsbD i = bs.getD i false := by
  induction bs generalizing i with
  | nil => simp [BitVec.ofBoolListLE]
  | cons b bs ih =>
    simp only [BitVec.ofBoolListLE, BitVec.getLsbD_concat, ih]
    cases i <;> simp

/-- Bit i of a set built from a test is the test of i. -/
theorem getLsbD_bitSet (n : Nat) (f : Fin n → Bool) (i : Fin n) : (bitSet n f).getLsbD i.val = f i := by
  simp only [bitSet, BitVec.getLsbD_setWidth, getLsbD_ofBoolListLE, i.isLt, decide_true, Bool.true_and]
  simp

theorem pendingJudged_event (s : State) (n : Fin 16) (h : isEventSource n.val = true) :
    s.pendingJudged.getLsbD n.val = s.att.pendingSet.getLsbD n.val := by
  rw [State.pendingJudged, getLsbD_bitSet 16 _ n]; simp only [h, if_true]

theorem pendingJudged_level (s : State) (n : Fin 16) (h : isEventSource n.val = false) :
    s.pendingJudged.getLsbD n.val = (s.levelCondition n && !s.att.inService.getLsbD n.val) := by
  rw [State.pendingJudged, getLsbD_bitSet 16 _ n]; simp [h]

/-- The levels read the stall, the causes, the table, the notices, the next slot and the low indication alone (R181). -/
theorem levelCondition_congr {s t : State} (h1 : t.ex.stall = s.ex.stall) (h2 : ∀ h, (t.link h).causes = (s.link h).causes)
    (h3 : t.co.table = s.co.table) (h4 : t.lists.stopNotices = s.lists.stopNotices) (h5 : t.ex.nextSlot = s.ex.nextSlot)
    (h6 : t.store.low = s.store.low) (n : Fin 16) : t.levelCondition n = s.levelCondition n := by
  simp only [State.levelCondition, h1, h2, h3, h4, h5, h6]

/-- A set of sources is its sixteen members. -/
theorem sources_ext {a b : SourceSet} (h : ∀ n : Fin 16, a.getLsbD n.val = b.getLsbD n.val) : a = b :=
  BitVec.eq_of_getLsbD_eq fun i hi => h ⟨i, hi⟩

theorem judgeAttention_judged (s : State) : s.judgeAttention.levelsJudged := by
  intro n hn
  exact pendingJudged_level s n hn

theorem judgeAttention_eq {s : State} (h : s.levelsJudged) : s.judgeAttention = s := by
  have : s.pendingJudged = s.att.pendingSet := sources_ext fun n => by
    cases hn : isEventSource n.val
    · rw [pendingJudged_level s n hn, h n hn]
    · exact pendingJudged_event s n hn
  simp [State.judgeAttention, this]

/-! ### Settled states -/

/-- The end of an event settles the part (R24, R155, R164, R166, R167, R182). -/
theorem finish_settled (s : State) : s.finish.Settled where
  gates h hu := by rw [finish_link] at *; simp only [finished_state] at hu; rw [finish_gateSet, finished_gateHanded _ _ hu]
  transmitters h hu ht := by
    rw [finish_link] at *
    simp only [finished_state] at hu
    exact takeDownlink_done _ (by simpa using hu) ht
  write := by
    rw [beginWrite_fix]
    have h := finish_ex_keeps s
    have h1 := congrArg Exporter.buffer h
    have h2 := congrArg Exporter.writePos h
    have h3 := congrArg Exporter.current h
    simp only at h1 h2 h3
    rw [h1, h2, h3]
    exact (beginWrite_fix _).mp (beginnings_fix s.ex).1
  assembly := by
    rw [beginAssembly_fix]
    have h := finish_ex_keeps s
    have h1 := congrArg Exporter.buffer h
    have h2 := congrArg Exporter.assembling h
    have h3 := congrArg Exporter.stall h
    have h4 := congrArg Exporter.collectionQueue h
    simp only at h1 h2 h3 h4
    rw [h1, h2, h3, h4]
    exact (beginAssembly_fix _).mp (beginnings_fix s.ex).2
  initiator := by rw [finish_ex]; exact takeAccess_done _
  levels := judgeAttention_judged _

/-- A settled state stays as it is at the end of an event. -/
theorem finish_of_settled {s : State} (h : s.Settled) : s.finish = s := by
  have h1 : s.handGates.takeDownlinks = s := by
    have : s.handGates.takeDownlinks.links = s.links := by
      apply Vector.ext
      intro i hi
      have := finished_eq (s.link ⟨i, hi⟩) (s.gateSet ⟨i, hi⟩) (h.gates _) (h.transmitters _)
      simpa [State.takeDownlinks, State.handGates, Link.finished, State.link] using this
    have e : s.handGates.takeDownlinks = { s with links := s.handGates.takeDownlinks.links } := rfl
    rw [e, this]
  have h2 : s.exportBegins = s := by simp [State.exportBegins, h.write, h.assembly]
  have h3 : s.takeAccess = s := takeAccess_eq s h.initiator
  simp [State.finish, h1, h2, h3, judgeAttention_eq h.levels]

/-- Settling does not look at the port, the engine, the queue or the masks. -/
theorem Settled_congr {s t : State} (h : s.Settled) (h1 : t.sites = s.sites) (h2 : t.links = s.links) (h3 : t.ex = s.ex)
    (h4 : t.co.table = s.co.table) (h5 : t.lists.stopNotices = s.lists.stopNotices) (h6 : t.store.low = s.store.low)
    (h7 : ∀ n : Fin 16, isEventSource n.val = false → t.att.pendingSet.getLsbD n.val = s.att.pendingSet.getLsbD n.val)
    (h8 : t.att.inService = s.att.inService) : t.Settled := by
  have hl : ∀ h, t.link h = s.link h := fun h => by simp [State.link, h2]
  have hg : ∀ h, t.gateSet h = s.gateSet h := fun h => gateSet_congr h1 h (by rw [hl])
  refine ⟨fun a => ?_, fun a => ?_, ?_, ?_, ?_, fun n hn => ?_⟩
  · rw [hl, hg]; exact h.gates a
  · rw [hl]; exact h.transmitters a
  · rw [h3]; exact h.write
  · rw [h3]; exact h.assembly
  · rw [h3]; exact h.initiator
  · rw [h7 n hn, h8, levelCondition_congr (s := s) (t := t) (by rw [h3]) (fun a => by rw [hl]) h4 h5 (by rw [h3]) h6]; exact h.levels n hn

/-! ### Events -/

theorem due_nothing_catchUp {s : State} (h : s.due = .nothing) : s.catchUp = s := by simp [State.catchUp, h]

/-- An event that finds the part ready has its own effect and then the end of the event. -/
theorem Ready.atEvent {s : State} (h : s.Ready) (f : State → State) : s.atEvent f = (f s).finish := by
  simp [State.atEvent, h.running, due_nothing_catchUp h.idle]

theorem due_running {s : State} (h : s.due ≠ .nothing) : s.isHeld = false := by
  cases e : s.isHeld
  · rfl
  · simp [State.due, e] at h

/-- The grant that is due is made as one event (R63). -/
theorem catchUp_of_due {s : State} {d : Due} (h : s.due = d) (hd : d ≠ .nothing) : s.catchUp = (s.perform d).finish := by
  unfold State.catchUp
  rw [h]
  cases d <;> simp_all

end Sys2Proof.Machine
end

