-- ==== Sys2Proof/Laws/Within.lean ====
section
/-! SUPPORT. What the service of a request and a grant can do to the port, the queue and the links: they leave the Command Port, the reset
input, the queue and the last bus read alone, and keep every link in order (R153). One lemma for each operation, cited by the next. -/

namespace Sys2Proof.Machine

/-- From s to t the port, the reset input, the queue and the last bus read stay, and every link in order stays in order. -/
structure State.Within (s t : State) : Prop where
  port : t.port = s.port
  porHeld : t.porHeld = s.porHeld
  pending : t.pending = s.pending
  busRead : t.busRead = s.busRead
  links : ∀ h, (s.link h).ordered → (t.link h).ordered

theorem within_refl (s : State) : s.Within s := ⟨rfl, rfl, rfl, rfl, fun _ o => o⟩

theorem State.Within.trans {s t u : State} (a : s.Within t) (b : t.Within u) : s.Within u :=
  ⟨b.port.trans a.port, b.porHeld.trans a.porHeld, b.pending.trans a.pending, b.busRead.trans a.busRead, fun h x => b.links h (a.links h x)⟩

/-- Steps over a list of sites or slots stay within when each does. -/
theorem within_foldl {α : Type} (f : State → α → State) (hf : ∀ s a, State.Within s (f s a)) :
    ∀ (l : List α) (s : State), State.Within s (l.foldl f s)
  | [], s => within_refl s
  | a :: l, s => State.Within.trans (hf s a) (within_foldl f hf l (f s a))

theorem link_congr_within {s t : State} (h1 : t.port = s.port) (h2 : t.porHeld = s.porHeld) (h3 : t.pending = s.pending) (h4 : t.busRead = s.busRead)
    (h5 : t.links = s.links) : s.Within t := ⟨h1, h2, h3, h4, fun h o => by simpa [State.link, h5] using o⟩

/-! ### Links -/

theorem modLink_within (s : State) (h : HeadNo) (f : Link → Link) (hf : (s.link h).ordered → (f (s.link h)).ordered) : s.Within (s.modLink h f) := by
  refine ⟨rfl, rfl, rfl, rfl, fun g hg => ?_⟩
  rw [modLink_link]
  split
  · rename_i e; subst e; exact hf hg
  · exact hg

theorem addCause_within (s : State) (h : HeadNo) (c : LinkCause) : s.Within (s.addCause h c) := modLink_within s h _ fun o => o

theorem addDrain_ordered (l : Link) (sl : SlotNo) (o : l.ordered) : (l.addDrain sl).ordered := by
  unfold Link.addDrain
  split
  · split
    · exact o
    · rename_i hu _
      exact ⟨fun _ => o.1 hu, fun hn => absurd hu hn, fun hd => by simp [hu] at hd⟩
  · exact o

theorem handGate_ordered (l : Link) (g : SlotSet) (o : l.ordered) : (l.handGate g).ordered := by
  unfold Link.handGate
  split
  · rename_i hu; exact ⟨fun _ => o.1 hu.1, fun hn => absurd hu.1 hn, fun hd => by simp [hu.1] at hd⟩
  · exact o

theorem takeDownlink_ordered (l : Link) (o : l.ordered) : l.takeDownlink.ordered := by
  unfold Link.takeDownlink
  split
  · rename_i hu
    have law := o.1 hu.1
    split
    · exact ⟨fun _ => law, fun hn => absurd hu.1 hn, fun hd => by simp [hu.1] at hd⟩
    · split
      · exact ⟨fun _ => law, fun hn => absurd hu.1 hn, fun hd => by simp [hu.1] at hd⟩
      · split
        · rename_i n hc
          refine ⟨fun _ => ?_, fun hn => absurd hu.1 hn, fun hd => by simp [hu.1] at hd⟩
          simp only [Link.pendingCredit, hc, Option.getD_some, Option.getD_none] at law ⊢
          omega
        · exact o
  · exact o

theorem popFrame_ordered (l : Link) (f : UpFrame) (rest : List UpFrame) (hf : l.fifo = f :: rest) (o : l.ordered) : l.popFrame.ordered := by
  unfold Link.popFrame
  have hb : ¬ (l.state = .down ∨ l.state = .training) := fun h => by have := (o.2.2 h).1; simp [hf] at this
  simp only
  split
  · rename_i hu
    refine ⟨fun _ => ?_, fun hn => absurd hu hn, fun hd => absurd hd hb⟩
    have law := o.1 hu
    simp only [hf, List.length_cons, Link.pendingCredit, Link.returnCredit, List.tail_cons, Option.getD_some] at law ⊢
    omega
  · rename_i hu
    exact ⟨fun hu' => absurd hu' hu, fun hn => o.2.1 hn, fun hd => absurd hd hb⟩

theorem badFrameCredit_ordered (l : Link) (hu : l.state = .up) (o : l.ordered) : l.badFrameCredit.ordered := by
  unfold Link.badFrameCredit
  split
  · refine ⟨fun _ => ?_, fun hn => absurd hu hn, fun hd => by simp [Link.returnCredit, hu] at hd⟩
    have law := o.1 hu
    simp only [Link.pendingCredit, Link.returnCredit, Option.getD_some] at law ⊢
    omega
  · exact o

theorem faulted_ordered (l : Link) : l.faulted.ordered :=
  ⟨fun h => by simp [Link.faulted] at h, fun _ => ⟨rfl, rfl, rfl, rfl, rfl⟩, fun h => by simp [Link.faulted] at h⟩

theorem down_ordered : Link.down.ordered :=
  ⟨fun h => by simp [Link.down] at h, fun _ => ⟨rfl, rfl, rfl, rfl, rfl⟩, fun _ => ⟨rfl, rfl⟩⟩

/-! ### Coincidence Unit -/

theorem coHold_within (s : State) (i : SiteNo) : s.Within (s.coHold i) := by
  unfold State.coHold; split <;> exact (link_congr_within (by rfl) (by rfl) (by rfl) (by rfl) (by rfl))

theorem coMark_within (s : State) (l : List SiteNo) : s.Within (s.coMark l) := by
  unfold State.coMark
  have h1 := within_foldl (fun s i => State.addFlag s i .coincident) (fun _ _ => (link_congr_within (by rfl) (by rfl) (by rfl) (by rfl) (by rfl))) l s
  have h2 := fun t => within_foldl (fun s i => State.coHold s i) coHold_within l t
  simp only
  split
  · exact h1
  · exact State.Within.trans h1 (h2 _)

theorem coAdded_within (s : State) (n : Fin 128) (i : SiteNo) (e : CoEntry) : s.Within (s.coAdded n i e) := by
  unfold State.coAdded
  have h := fun (t : State) l (x : s.Within t) => State.Within.trans x (coMark_within t l)
  split
  · exact h _ _ (link_congr_within (by rfl) (by rfl) (by rfl) (by rfl) (by rfl))
  · split
    · exact h _ _ (link_congr_within (by rfl) (by rfl) (by rfl) (by rfl) (by rfl))
    · exact (link_congr_within (by rfl) (by rfl) (by rfl) (by rfl) (by rfl))

theorem coJoin_within (s : State) (i : SiteNo) (d : DomainNo) (a : Axis) (x : LineAddr) : s.Within (s.coJoin i d a x) := by
  unfold State.coJoin
  split
  · exact within_refl s
  · simp only
    split
    · split
      · split
        · exact within_refl s
        · exact coAdded_within ..
      · exact within_refl s
    · split
      · exact coAdded_within ..
      · exact (link_congr_within (by rfl) (by rfl) (by rfl) (by rfl) (by rfl))

/-! ### Site Controller -/

theorem enterDraining_within (s : State) (i : SiteNo) : s.Within (s.enterDraining i) := by
  unfold State.enterDraining
  refine State.Within.trans (t := s.readClock.modSite i _) (link_congr_within (by rfl) (by rfl) (by rfl) (by rfl) (by rfl)) (modLink_within _ _ _ fun o => addDrain_ordered _ _ o)

theorem toSweeping_within (s : State) (i : SiteNo) : s.Within (s.toSweeping i) := (link_congr_within (by rfl) (by rfl) (by rfl) (by rfl) (by rfl))

theorem toHeld_within (s : State) (i : SiteNo) : s.Within (s.toHeld i) := (link_congr_within (by rfl) (by rfl) (by rfl) (by rfl) (by rfl))

theorem freeSite_within (s : State) (i : SiteNo) : s.Within (s.freeSite i) := (link_congr_within (by rfl) (by rfl) (by rfl) (by rfl) (by rfl))

theorem moveLost_within (s : State) (i : SiteNo) : s.Within (s.moveLost i) := by
  unfold State.moveLost
  split
  · exact toSweeping_within s i
  · exact enterDraining_within s i
  · exact toHeld_within s i
  all_goals exact within_refl s

theorem loseLines_within (s : State) (i : SiteNo) (r : Reason) (w : NoticeReason) : s.Within (s.loseLines i r w) :=
  State.Within.trans (t := (((s.freeSite i).setReason i r).postNotice i w)) (link_congr_within (by rfl) (by rfl) (by rfl) (by rfl) (by rfl)) (moveLost_within _ i)

theorem captureError_within (s : State) (i : SiteNo) (n : Nat) (a : Activity) : s.Within (s.captureError i n a) := by
  unfold State.captureError; split <;> exact (link_congr_within (by rfl) (by rfl) (by rfl) (by rfl) (by rfl))

theorem integrityFailure_within (s : State) (i : SiteNo) (r : LineRec) (a : Activity) : s.Within (s.integrityFailure i r a) :=
  State.Within.trans (loseLines_within s i .integrity .integrity) (captureError_within _ i r.index a)

theorem doom_within (s : State) (i : SiteNo) : s.Within (s.doom i) := by
  unfold State.doom
  have h : s.Within (s.modCtx i fun c => { c with doomed := true }) := (link_congr_within (by rfl) (by rfl) (by rfl) (by rfl) (by rfl))
  simp only
  split
  · refine State.Within.trans h ?_
    refine State.Within.trans (t := State.enterDraining (State.addFlag _ i .earlyStop) i) ?_ (link_congr_within (by rfl) (by rfl) (by rfl) (by rfl) (by rfl))
    refine State.Within.trans ?_ (enterDraining_within _ i)
    exact (link_congr_within (by rfl) (by rfl) (by rfl) (by rfl) (by rfl))
  · exact h

theorem loseDomain_within (s : State) (i : SiteNo) (d : DomainNo) : s.Within (s.loseDomain i d) := by
  unfold State.loseDomain
  refine State.Within.trans ?_ (doom_within _ i)
  exact (link_congr_within (by rfl) (by rfl) (by rfl) (by rfl) (by rfl))

theorem carryIn_within (s : State) (i : SiteNo) (e : CarryIn) : s.Within (s.carryIn i e) := (link_congr_within (by rfl) (by rfl) (by rfl) (by rfl) (by rfl))

theorem makeCurrent_within (s : State) (i : SiteNo) (x : Staged) (g : Geometry) : s.Within (s.makeCurrent i x g) := by
  unfold State.makeCurrent
  refine State.Within.trans ?_ (within_foldl (fun s e => State.carryIn s i e) (fun s e => carryIn_within s i e) x.carryIn _)
  exact (link_congr_within (by rfl) (by rfl) (by rfl) (by rfl) (by rfl))

theorem promote_within (s : State) (i : SiteNo) : s.Within (s.promote i) := by
  unfold State.promote
  split
  · exact within_refl s
  · simp only
    split
    · split
      · refine State.Within.trans ?_ (makeCurrent_within _ i _ _)
        exact (link_congr_within (by rfl) (by rfl) (by rfl) (by rfl) (by rfl))
      · exact (link_congr_within (by rfl) (by rfl) (by rfl) (by rfl) (by rfl))
    · exact (link_congr_within (by rfl) (by rfl) (by rfl) (by rfl) (by rfl))

theorem unuseTemplate_within (s : State) (i : SiteNo) : s.Within (s.unuseTemplate i) := by
  unfold State.unuseTemplate; split <;> exact (link_congr_within (by rfl) (by rfl) (by rfl) (by rfl) (by rfl))

theorem release_within (s : State) (i : SiteNo) : s.Within (s.release i) := by
  unfold State.release
  refine State.Within.trans ?_ (promote_within _ i)
  refine State.Within.trans (t := State.unuseTemplate _ i) ?_ ((link_congr_within (by rfl) (by rfl) (by rfl) (by rfl) (by rfl)))
  refine State.Within.trans ?_ (unuseTemplate_within _ i)
  exact (link_congr_within (by rfl) (by rfl) (by rfl) (by rfl) (by rfl))

theorem flagTested_within (s : State) (h : HeadNo) (f : QualityFlag) : s.Within (s.flagTested h f) :=
  within_foldl (fun s i => if s.siteState i = .testing ∨ s.siteState i = .draining then State.addFlag s i f else s)
    (fun s i => by split; exact (link_congr_within (by rfl) (by rfl) (by rfl) (by rfl) (by rfl)); exact within_refl s) (sitesOf h) s

theorem clearHeadHolds_within (s : State) (h : HeadNo) : s.Within (s.clearHeadHolds h) :=
  within_foldl (fun s i => State.modSite s i fun x => { x with headHold := false }) (fun _ _ => (link_congr_within (by rfl) (by rfl) (by rfl) (by rfl) (by rfl))) (sitesOf h) s

theorem gateHanded_ordered (l : Link) (g : SlotSet) (o : l.ordered) : ({ l with gateHanded := g } : Link).ordered := o

theorem causes_ordered (l : Link) (c : LinkCauses) (o : l.ordered) : ({ l with causes := c } : Link).ordered := o

theorem linkLeftUp_within (s : State) (h : HeadNo) : s.Within (s.linkLeftUp h) := by
  unfold State.linkLeftUp
  exact State.Within.trans ((flagTested_within s h _).trans (clearHeadHolds_within _ h)) (modLink_within _ h _ (gateHanded_ordered _ 0))

theorem linkLostCompletion_within (s : State) (h : HeadNo) : s.Within (s.linkLostCompletion h) := by
  unfold State.linkLostCompletion
  refine within_foldl _ (fun s i => ?_) _ s
  split
  · split
    · exact toSweeping_within s i
    · exact within_refl s
  · exact within_refl s

theorem linkFault_within (s : State) (h : HeadNo) : s.Within (s.linkFault h) :=
  State.Within.trans (modLink_within s h _ fun _ => faulted_ordered _) (linkLeftUp_within _ h)

/-! ### Runs of the Repair Engine -/

/-- Everything a run can come to stays within. -/
def Run.Within (s : State) (r : Run) : Prop := s.Within r.state

theorem andThen_within {s : State} {r : Run} {f : State → Run} (hr : r.Within s) (hf : ∀ t, (f t).Within t) : (r.andThen f).Within s := by
  cases r with
  | more t => exact State.Within.trans hr (hf t)
  | halt t => exact hr

theorem readLine_within (s : State) (i : SiteNo) (a : Activity) (r : LineRec) : (s.readLine i a r).Within s := by
  unfold State.readLine
  split
  · exact within_refl s
  · exact integrityFailure_within s i r a

theorem uncross_within (s : State) (a : Activity) (k : Key) (x : LineAddr) : (s.uncross a k x).Within s := by
  simp only [State.uncross, Run.Within]
  split
  · exact within_refl s
  · refine andThen_within (readLine_within ..) fun t => ?_
    simp only [Run.Within]
    split <;> exact (link_congr_within (by rfl) (by rfl) (by rfl) (by rfl) (by rfl))

theorem uncrossAll_within (a : Activity) (k : Key) : ∀ (l : List LineAddr) (s : State), (State.uncrossAll a k l s).Within s
  | [], s => within_refl s
  | x :: l, s => andThen_within (uncross_within s a k x) fun t => uncrossAll_within a k l t

theorem assignClaims_within (s : State) (a : Activity) (k : Key) (o : Origin) : s.Within (s.assignClaims a k o) := by
  unfold State.assignClaims
  have h : s.Within (if a = .sweep then s else s.appendSettle k.site k.domain) := by split <;> exact (link_congr_within (by rfl) (by rfl) (by rfl) (by rfl) (by rfl))
  simp only
  split
  · exact State.Within.trans h (coJoin_within ..)
  · exact h

theorem assign_within (s : State) (a : Activity) (o : Origin) (k : Key) (cross : List LineAddr) : (s.assign a o k cross).Within s := by
  unfold State.assign
  refine andThen_within (r := State.uncrossAll a k cross _) ?_ fun t => ?_
  · refine State.Within.trans ?_ (uncrossAll_within a k cross _)
    exact (link_congr_within (by rfl) (by rfl) (by rfl) (by rfl) (by rfl))
  refine State.Within.trans ?_ (assignClaims_within ..)
  exact (link_congr_within (by rfl) (by rfl) (by rfl) (by rfl) (by rfl))

theorem foldAssign_within (s : State) (k : Key) (cross : List LineAddr) : (s.foldAssign k cross).Within s := by
  unfold State.foldAssign
  split
  · exact assign_within ..
  · exact loseDomain_within ..

theorem freeIfEmpty_within (s : State) (k : Key) : s.Within (s.freeIfEmpty k) := by
  unfold State.freeIfEmpty
  split
  · split <;> exact (link_congr_within (by rfl) (by rfl) (by rfl) (by rfl) (by rfl))
  · exact within_refl s

theorem foldJudge_within (s : State) (kr kc : Key) : (s.foldJudge kr kc).Within s := by
  unfold State.foldJudge
  simp only
  split
  · exact andThen_within (foldAssign_within ..) fun t => freeIfEmpty_within t kc
  · have h : ∀ f g, s.Within ((s.writeLine kr f).writeLine kc g) := fun _ _ => (link_congr_within (by rfl) (by rfl) (by rfl) (by rfl) (by rfl))
    split
    · exact State.Within.trans (h _ _) (foldAssign_within ..)
    · split
      · exact State.Within.trans (h _ _) (foldAssign_within ..)
      · exact h _ _

theorem createAbsent_within (s : State) (k : Key) : s.Within (s.createAbsent k) := by
  unfold State.createAbsent; split <;> exact (link_congr_within (by rfl) (by rfl) (by rfl) (by rfl) (by rfl))

theorem foldUncovered_within (s : State) (kr kc : Key) : (s.foldUncovered kr kc).Within s := by
  unfold State.foldUncovered
  simp only
  split
  · exact loseLines_within ..
  · exact loseLines_within ..
  · have h : s.Within ((((s.createAbsent kr).createAbsent kc).countLine kr).countLine kc) :=
      State.Within.trans (t := (s.createAbsent kr).createAbsent kc) (State.Within.trans (createAbsent_within s kr) (createAbsent_within _ kc)) (link_congr_within (by rfl) (by rfl) (by rfl) (by rfl) (by rfl))
    split
    · exact h
    · exact State.Within.trans h (foldJudge_within ..)

theorem readIfPresent_within (s : State) (i : SiteNo) (a : Activity) (k : Key) : (s.readIfPresent i a k).Within s := by
  unfold State.readIfPresent
  split
  · exact within_refl s
  · exact readLine_within ..

theorem foldCell_within (s : State) (i : SiteNo) (d : DomainNo) (r c : LineAddr) : (s.foldCell i d r c).Within s := by
  unfold State.foldCell
  simp only
  have h : s.Within (s.modDomain i d DomainRec.countFail) := (link_congr_within (by rfl) (by rfl) (by rfl) (by rfl) (by rfl))
  split
  · exact h
  · refine andThen_within (State.Within.trans h (readIfPresent_within ..)) fun t => andThen_within (readIfPresent_within ..) fun u => ?_
    split
    · exact (link_congr_within (by rfl) (by rfl) (by rfl) (by rfl) (by rfl))
    · split
      · exact (link_congr_within (by rfl) (by rfl) (by rfl) (by rfl) (by rfl))
      · exact foldUncovered_within ..

theorem foldRun_within (i : SiteNo) (d : DomainNo) (r : LineAddr) : ∀ (l : List LineAddr) (s : State), (State.foldRun i d r l s).Within s
  | [], s => within_refl s
  | c :: l, s => andThen_within (foldCell_within s i d r c) fun t => foldRun_within i d r l t

theorem settleStep_within (s : State) : s.Within s.settleStep := by
  unfold State.settleStep
  split
  · exact within_refl s
  · split
    · exact (link_congr_within (by rfl) (by rfl) (by rfl) (by rfl) (by rfl))
    · refine andThen_within (readLine_within ..) fun t => ?_
      split
      · split
        · exact andThen_within (assign_within ..) fun u => (link_congr_within (by rfl) (by rfl) (by rfl) (by rfl) (by rfl))
        · exact loseDomain_within ..
      · exact (link_congr_within (by rfl) (by rfl) (by rfl) (by rfl) (by rfl))

theorem concludeDomain_within (s : State) (i : SiteNo) (d : DomainNo) : s.Within (s.concludeDomain i d) := by
  unfold State.concludeDomain
  simp only
  split
  · split <;> exact (link_congr_within (by rfl) (by rfl) (by rfl) (by rfl) (by rfl))
  · exact (link_congr_within (by rfl) (by rfl) (by rfl) (by rfl) (by rfl))

theorem sweepAssign_within (s : State) (o : Origin) (r : LineRec) (p : SweepPos) : s.Within (s.sweepAssign o r p) :=
  State.Within.trans (t := s.setSweepPos (some p)) (link_congr_within (by rfl) (by rfl) (by rfl) (by rfl) (by rfl)) (assign_within ..)

theorem sweepGreedy_within (s : State) (p : SweepPos) : s.Within (s.sweepGreedy p) := by
  unfold State.sweepGreedy
  have hl := (loseDomain_within s p.site p.domain).trans (concludeDomain_within _ p.site p.domain)
  simp only
  split
  · exact integrityFailure_within ..
  · split
    · exact concludeDomain_within ..
    · split
      · exact sweepAssign_within ..
      · split
        · split
          · exact sweepAssign_within ..
          · exact hl
        · exact hl

theorem sweepStop_within (s : State) (p : SweepPos) (r : LineRec) : s.Within (s.sweepStop p r) := by
  unfold State.sweepStop
  split
  · exact integrityFailure_within ..
  · split
    · exact sweepAssign_within ..
    · exact (loseDomain_within s p.site p.domain).trans (concludeDomain_within _ p.site p.domain)

theorem sweepSettle_within (s : State) (p : SweepPos) : s.Within (s.sweepSettle p) := by
  unfold State.sweepSettle
  have hg : ∀ q, s.Within ((s.setSweepPos (some q)).sweepGreedy q) := fun q =>
    State.Within.trans (t := s.setSweepPos (some q)) (link_congr_within (by rfl) (by rfl) (by rfl) (by rfl) (by rfl)) (sweepGreedy_within _ q)
  split
  · exact sweepStop_within ..
  · split
    · simp only
      split
      · exact sweepStop_within ..
      · exact hg _
    · exact hg _

theorem sweepEnter_within (s : State) (p : SweepPos) : s.Within (s.sweepEnter p) := by
  unfold State.sweepEnter
  split
  · exact concludeDomain_within ..
  · exact State.Within.trans (link_congr_within (by rfl) (by rfl) (by rfl) (by rfl) (by rfl)) (sweepSettle_within _ _)

theorem sweepStep_within (s : State) : s.Within s.sweepStep := by
  unfold State.sweepStep
  split
  · exact within_refl s
  · split
    · exact toHeld_within ..
    · have h : ∀ p, s.Within (s.setSweepPos p) := fun _ => (link_congr_within (by rfl) (by rfl) (by rfl) (by rfl) (by rfl))
      simp only
      split
      · exact (h _).trans (sweepEnter_within ..)
      · exact (h _).trans (sweepSettle_within ..)
      · exact (h _).trans (sweepGreedy_within ..)

/-! ### Intake -/

theorem takeFail_within (s : State) (h : HeadNo) (sl : SlotNo) (d : DomainNo) (r : LineAddr) (c : BitVec 12) (n : Fin 16) :
    s.Within (s.takeFail h sl d r c n) := by
  unfold State.takeFail
  split
  · exact addCause_within ..
  · have ho : ∀ c', s.Within (s.takeFailOpen h (siteOf h sl) c' d r c n) := fun c' => by
      unfold State.takeFailOpen
      split
      · exact within_refl s
      · split
        · exact foldRun_within ..
        · exact State.Within.trans (t := s.addFlag _ _) (link_congr_within (by rfl) (by rfl) (by rfl) (by rfl) (by rfl)) (addCause_within ..)
    split
    all_goals first | exact addCause_within .. | exact ho _

theorem takeEnd_within (s : State) (h : HeadNo) (sl : SlotNo) : s.Within (s.takeEnd h sl) := by
  unfold State.takeEnd
  split
  all_goals first | exact toSweeping_within .. | exact addCause_within ..

theorem takeItem_within (s : State) (h : HeadNo) : s.Within (s.takeItem h) := by
  unfold State.takeItem
  split
  · rename_i hf; exact (modLink_within s h _ fun o => popFrame_ordered _ _ _ hf o).trans (takeFail_within ..)
  · rename_i hf; exact (modLink_within s h _ fun o => popFrame_ordered _ _ _ hf o).trans (takeEnd_within ..)
  · rename_i hf
    exact (modLink_within s h _ fun o => popFrame_ordered _ _ _ hf o).trans (t := s.modLink h Link.popFrame) (link_congr_within (by rfl) (by rfl) (by rfl) (by rfl) (by rfl))
  · split
    · exact (modLink_within s h _ fun o => ⟨o.1, o.2.1, fun hd => ⟨(o.2.2 hd).1, rfl⟩⟩).trans (linkLostCompletion_within ..)
    · exact within_refl s

/-! ### Requests -/

theorem onSite_within (s : State) (f : SiteNo → State × Reply) (hf : ∀ i, s.Within (f i).1) : s.Within (s.onSite f).1 := by
  unfold State.onSite
  split
  · exact within_refl s
  · exact hf _

theorem armVacant_within (s : State) (i : SiteNo) (x : Staged) (w : List ReplyWord) : s.Within (s.armVacant i x w).1 := by
  unfold State.armVacant
  split
  · exact within_refl s
  · split
    · exact within_refl s
    · split
      · exact within_refl s
      · split
        · exact within_refl s
        · exact makeCurrent_within ..

theorem onRecord_within (s : State) (e l n : Bool) (f : SiteNo → DomainNo → Axis → State × Reply) (hf : ∀ i d a, s.Within (f i d a).1) :
    s.Within (s.onRecord e l n f).1 := by
  unfold State.onRecord
  split
  · exact within_refl s
  · split
    · split
      · exact within_refl s
      · exact hf _ _ _
    · exact within_refl s

theorem lookupFailed_within (s : State) (i : SiteNo) (r : LineRec) : s.Within (s.lookupFailed i r).1 := integrityFailure_within ..

theorem pinReply_within (s : State) (k : Key) (b : Bool) (n : Nat) (c : Count16) : s.Within (pinReply s k b n c).1 :=
  (link_congr_within (by rfl) (by rfl) (by rfl) (by rfl) (by rfl))

theorem pinPresent_within (s : State) (r : LineRec) : s.Within (s.pinPresent r).1 := by
  unfold State.pinPresent
  have h := assign_within s .lookup .pinned r.key r.cross
  split
  · rename_i e; rw [e] at h; exact h
  · rename_i e; rw [e] at h; exact State.Within.trans h (pinReply_within ..)

theorem pinAbsent_within (s : State) (k : Key) : s.Within (s.pinAbsent k).1 := by
  unfold State.pinAbsent
  split
  · exact within_refl s
  · exact within_refl s
  · exact (link_congr_within (by rfl) (by rfl) (by rfl) (by rfl) (by rfl))

theorem retire_within (s : State) (r : LineRec) : s.Within (s.retire r).1 := by
  unfold State.retire
  have h := uncrossAll_within .lookup r.key r.cross s
  split
  · rename_i e; rw [e] at h; exact h
  · rename_i t e; rw [e] at h; exact State.Within.trans h (t := t) (link_congr_within (by rfl) (by rfl) (by rfl) (by rfl) (by rfl))

theorem startTraining_within (s : State) (h : HeadNo) (hd : (s.link h).state = .down) : s.Within (s.startTraining h) := by
  unfold State.startTraining
  refine (show s.Within s.readClock from link_congr_within rfl rfl rfl rfl rfl).trans (modLink_within _ _ _ fun o => ?_)
  exact ⟨fun hu => by simp at hu, fun _ => o.2.1 (by rw [show (s.readClock.link h).state = .down from hd]; simp), fun _ => o.2.2 (.inl hd)⟩

theorem setDown_within (s : State) (h : HeadNo) : s.Within (s.setLink h Link.down) := by
  refine ⟨rfl, rfl, rfl, rfl, fun g o => ?_⟩
  by_cases e : g = h
  · subst e; rw [setLink_link_self]; exact down_ordered
  · rw [setLink_link_ne e]; exact o

theorem linkReset_within (s : State) : s.Within (serveLinkReset s).1 := by
  unfold serveLinkReset
  split
  · exact within_refl s
  · rename_i h _
    simp only
    split
    · exact within_refl s
    · have h1 : s.Within (if (s.link h).state = .up then s.linkLeftUp h else s) := by
        split
        · exact linkLeftUp_within s h
        · exact within_refl s
      exact (h1.trans (clearHeadHolds_within _ h)).trans (setDown_within _ h)

/-- The service of a request leaves the port, the reset input, the queue and the last bus read alone and keeps links in order. -/
theorem serve_within (r : Request) (s : State) : s.Within (serve r s).1 := by
  have triv : ∀ t : State, t.port = s.port → t.porHeld = s.porHeld → t.pending = s.pending → t.busRead = s.busRead → t.links = s.links → s.Within t :=
    fun t a b c d e => link_congr_within a b c d e
  cases r <;> simp only [serve]
  case loadTemplate => unfold serveLoadTemplate; split; exact within_refl s; simp only; split <;> exact triv _ rfl rfl rfl rfl rfl
  case queryTemplate => unfold serveQueryTemplate; split <;> exact within_refl s
  case arm =>
    unfold serveArm; split
    · exact within_refl s
    · split
      · exact armVacant_within ..
      · exact within_refl s
  case stage =>
    unfold serveStage; split
    · exact within_refl s
    · split
      · exact armVacant_within ..
      · split
        · exact within_refl s
        · exact triv _ rfl rfl rfl rfl rfl
  case unstage => exact onSite_within s _ fun i => triv _ rfl rfl rfl rfl rfl
  case disarm =>
    refine onSite_within s _ fun i => ?_
    split
    · exact State.Within.trans (State.Within.trans (freeSite_within s i) (unuseTemplate_within _ i)) (link_congr_within (by rfl) (by rfl) (by rfl) (by rfl) (by rfl))
    · exact within_refl s
  case startSites =>
    unfold serveStartSites; split
    · exact within_refl s
    · split
      · exact within_refl s
      · exact within_foldl _ (fun t sl => (link_congr_within (by rfl) (by rfl) (by rfl) (by rfl) (by rfl))) _ s
  case close =>
    refine onSite_within s _ fun i => ?_
    split
    all_goals first | exact within_refl s | exact toSweeping_within .. | exact enterDraining_within ..
  case abort =>
    refine onSite_within s _ fun i => ?_
    have h : s.Within ((s.freeSite i).setReason i .aborted) := (link_congr_within (by rfl) (by rfl) (by rfl) (by rfl) (by rfl))
    split
    all_goals first | exact within_refl s | exact h.trans (enterDraining_within _ i) | exact h | exact h.trans (toHeld_within _ i)
  case holdSite => refine onSite_within s _ fun i => ?_; split; exact within_refl s; exact triv _ rfl rfl rfl rfl rfl
  case releaseHold => exact onSite_within s _ fun i => triv _ rfl rfl rfl rfl rfl
  case querySite => exact onSite_within s _ fun i => triv _ rfl rfl rfl rfl rfl
  case takeStopNotices => exact triv _ rfl rfl rfl rfl rfl
  case queryIntegrity => exact triv _ rfl rfl rfl rfl rfl
  case lookupLine =>
    refine onRecord_within s _ _ _ _ fun i d a => ?_
    split
    · exact within_refl s
    · split
      · exact within_refl s
      · exact lookupFailed_within ..
  case listLines =>
    unfold serveListLines; split
    · exact within_refl s
    · split
      · split
        · exact within_refl s
        · unfold State.listPage; simp only; split
          · exact lookupFailed_within ..
          · exact within_refl s
      · exact within_refl s
  case pinLine =>
    refine onRecord_within s _ _ _ _ fun i d a => ?_
    simp only
    split
    · split
      · exact within_refl s
      · exact pinAbsent_within ..
    · split
      · exact lookupFailed_within ..
      · split
        · exact within_refl s
        · split
          · exact within_refl s
          · exact pinPresent_within ..
  case retireLine =>
    refine onRecord_within s _ _ _ _ fun i d a => ?_
    split
    · exact within_refl s
    · split
      · exact lookupFailed_within ..
      · split
        · exact retire_within ..
        · exact within_refl s
  case markSpareDefective => refine onRecord_within s _ _ _ _ fun i d a => ?_; split; exact within_refl s; exact triv _ rfl rfl rfl rfl rfl
  case setCoincidence => unfold serveSetCoincidence; simp only; split; exact within_refl s; split; exact within_refl s; exact triv _ rfl rfl rfl rfl rfl
  case listCoincidence => unfold serveListCoincidence; split <;> exact within_refl s
  case clearTrip =>
    unfold serveClearTrip
    split
    · split
      · split
        · exact within_refl s
        · split
          · exact triv _ rfl rfl rfl rfl rfl
          · exact within_refl s
      · exact within_refl s
    · split
      · exact within_refl s
      · exact triv _ rfl rfl rfl rfl rfl
    · exact triv _ rfl rfl rfl rfl rfl
    · exact within_refl s
  case queryCoincidence => exact triv _ rfl rfl rfl rfl rfl
  case linkEnable =>
    unfold serveLinkEnable; split
    · exact within_refl s
    · split
      · rename_i h _ _ hd
        exact startTraining_within s h hd
      all_goals exact within_refl s
  case linkReset => exact linkReset_within s
  case queryLink =>
    unfold serveQueryLink; split
    · exact within_refl s
    · rename_i h _
      refine ⟨rfl, rfl, rfl, rfl, fun g o => ?_⟩
      by_cases e : g = h
      · subst e; rw [setLink_link_self]; exact causes_ordered _ _ o
      · rw [setLink_link_ne e]; exact o
  case giveExportChain =>
    unfold serveGiveExportChain; simp only; split
    · exact within_refl s
    · split
      · exact triv _ rfl rfl rfl rfl rfl
      · split
        · exact triv _ rfl rfl rfl rfl rfl
        · exact within_refl s
  case flushExport =>
    unfold serveFlushExport; split
    · split <;> exact triv _ rfl rfl rfl rfl rfl
    · exact within_refl s
  case resumeExport => unfold serveResumeExport; split; exact within_refl s; exact triv _ rfl rfl rfl rfl rfl
  case abandonBuffer => unfold serveAbandonBuffer; split; exact within_refl s; exact triv _ rfl rfl rfl rfl rfl
  case queryExport => exact triv _ rfl rfl rfl rfl rfl
  case setLimits => unfold serveSetLimits; split; exact within_refl s; exact triv _ rfl rfl rfl rfl rfl
  case queryPart => exact within_refl s
  case setAttention => exact triv _ rfl rfl rfl rfl rfl

end Sys2Proof.Machine
end

