-- ==== Sys2Proof/Laws/Events.lean ====
section
/-! SUPPORT. What doing the work that is due, and any event, leaves alone: the reset inputs, the queue, and the order of the links (log entries 1 and 12). -/

namespace Sys2Proof.Machine

/-- What is due is the same before and after the end of an event: it looks at the reset inputs, the lists, the engine and the FIFOs. -/
theorem finish_due (s : State) : s.finish.due = s.due := by
  have hl : ∀ h, (s.finish.link h).fifo = (s.link h).fifo := fun h => by simp [finish_link]
  have hm : ∀ h, (s.finish.link h).marker = (s.link h).marker := fun h => by simp [finish_link]
  simp only [State.due, finish_isHeld, finish_engine, State.nextGrant, State.backgroundDue, finish_lists, State.chooseHead, Link.isUrgent, Link.hasItem, hl, hm]

theorem catchUp_held (s : State) (h : s.isHeld = true) : s.catchUp = s := due_nothing_catchUp (by simp [State.due, h])

/-- From s to t the reset input, the soft-reset word and the queue stay, and every link in order stays in order. -/
structure Kept (s t : State) : Prop where
  porHeld : t.porHeld = s.porHeld
  soft : t.port.softWord = s.port.softWord
  pending : t.pending = s.pending
  links : ∀ h, (s.link h).ordered → (t.link h).ordered

theorem Kept.isHeld {s t : State} (k : Kept s t) : t.isHeld = s.isHeld := by simp [State.isHeld, k.porHeld, k.soft]
theorem Kept.trans {s t u : State} (a : Kept s t) (b : Kept t u) : Kept s u :=
  ⟨b.porHeld.trans a.porHeld, b.soft.trans a.soft, b.pending.trans a.pending, fun h o => b.links h (a.links h o)⟩
theorem Kept.of {s t : State} (k : s.Within t) : Kept s t := ⟨k.porHeld, by rw [k.port], k.pending, k.links⟩
theorem finish_kept (s : State) : Kept s s.finish :=
  ⟨by simp, by simp, by simp, fun h o => by rw [finish_link]; exact takeDownlink_ordered _ (handGate_ordered _ _ o)⟩

/-- A grant keeps them. -/
theorem perform_kept (s : State) (d : Due) : Kept s (s.perform d) := by
  cases d with
  | nothing => exact ⟨rfl, rfl, rfl, fun _ h => h⟩
  | host r =>
    have w := serve_within r { s with engine := { s.engine with pendingHost := none } }
    simp only [State.perform, State.grantHost]
    exact ⟨w.porHeld, by simp [w.port], w.pending, w.links⟩
  | sweep => have w := sweepStep_within s; exact ⟨w.porHeld, by simp [State.perform, State.grantBackground, w.port], w.pending, w.links⟩
  | settle => have w := settleStep_within s; exact ⟨w.porHeld, by simp [State.perform, State.grantBackground, w.port], w.pending, w.links⟩
  | intake h => have w := takeItem_within s h; exact ⟨w.porHeld, by simp [State.perform, State.grantIntake, w.port], w.pending, w.links⟩

theorem catchUp_kept (s : State) : Kept s s.catchUp := by
  unfold State.catchUp
  split
  · exact ⟨rfl, rfl, rfl, fun _ h => h⟩
  · exact (perform_kept s _).trans (finish_kept _)

/-- While an item is in progress no grant is due (R63). -/
theorem busy_due {s : State} (h : s.engine.inProgress.isSome) : s.due = .nothing := by simp [State.due, h]

/-- A grant leaves an item in progress (R63). -/
theorem perform_busy (s : State) {d : Due} (h : d ≠ .nothing) : (s.perform d).engine.inProgress.isSome := by
  cases d <;> simp_all [State.perform, State.grantHost, State.grantBackground, State.grantIntake]

/-- After the grant that is due none is due (log entry 1). -/
theorem catchUp_due (s : State) : s.catchUp.due = .nothing := by
  unfold State.catchUp
  split
  · assumption
  · rename_i h
    rw [finish_due]
    exact busy_due (perform_busy s fun e => h e)

theorem catchUp_isHeld (s : State) : s.catchUp.isHeld = s.isHeld := (catchUp_kept s).isHeld

/-- Catching up twice is catching up once. -/
theorem catchUp_catchUp (s : State) : s.catchUp.catchUp = s.catchUp := due_nothing_catchUp (catchUp_due s)

end Sys2Proof.Machine
end

