-- ==== Sys2Proof/Laws/Answers.lean ====
section
/-! SUPPORT. Frames through the end of an event, and what the service of a request, a grant and an event leave (log entries 1 and 12). -/

namespace Sys2Proof.Machine

/-! ### Frames -/

theorem FrameBut.refl (s : State) (c : List Block) : FrameBut c s s := by
  intro b _; cases b <;> simp [Block.same]

theorem FrameBut.trans {a b : List Block} {s t u : State} (h1 : FrameBut a s t) (h2 : FrameBut b t u) : FrameBut (a ++ b) s u := by
  intro x hx
  simp only [List.mem_append, not_or] at hx
  have e1 := h1 x hx.1
  have e2 := h2 x hx.2
  cases x <;> simp only [Block.same] at * <;> simp_all

theorem FrameBut.mono {a b : List Block} {s t : State} (h : FrameBut a s t) (hab : ∀ x, x ∈ a → x ∈ b) : FrameBut b s t :=
  fun x hx => h x fun m => hx (hab x m)

/-! ### The end of an event, part by part -/

/-- Every UP link has its set and leaves nothing waiting (R24, R155). -/
def State.linksSettled (s : State) : Prop :=
  ∀ h, (s.link h).finished (s.gateSet h) = s.link h

/-- The Export Engine begins nothing and its initiator takes nothing (R164, R166, R167). -/
structure Exporter.atRest (e : Exporter) : Prop where
  write : e.beginWrite = e
  assembly : e.beginAssembly = e
  initiator : e.access = none → e.stall = none → e.nextAccess = none

theorem State.Settled.linksSettled {s : State} (h : s.Settled) : s.linksSettled :=
  fun k => finished_eq _ _ (h.gates k) (h.transmitters k)

theorem State.Settled.exportAtRest {s : State} (h : s.Settled) : s.ex.atRest := ⟨h.write, h.assembly, h.initiator⟩

/-- Links settle when the sites and the links are those of a settled state. -/
theorem linksSettled_congr {s t : State} (h : s.linksSettled) (h1 : t.sites = s.sites) (h2 : t.links = s.links) : t.linksSettled := by
  intro k
  have e : t.link k = s.link k := by simp [State.link, h2]
  rw [e, gateSet_congr h1 k (by rw [e])]; exact h k

theorem handGates_takeDownlinks (s : State) (h : s.linksSettled) : s.handGates.takeDownlinks = s := by
  have : s.handGates.takeDownlinks.links = s.links := by
    apply Vector.ext
    intro i hi
    have := h ⟨i, hi⟩
    simpa [State.takeDownlinks, State.handGates, Link.finished, State.link] using this
  have e : s.handGates.takeDownlinks = { s with links := s.handGates.takeDownlinks.links } := rfl
  rw [e, this]

theorem exportBegins_takeAccess (s : State) (h : s.ex.atRest) : s.exportBegins.takeAccess = s := by
  have h2 : s.exportBegins = s := by simp [State.exportBegins, h.write, h.assembly]
  rw [h2]; exact takeAccess_eq s h.initiator

/-- When links and Export Engine are settled, the end of an event judges the pending set and does nothing else. -/
theorem finish_quiet {s : State} (h1 : s.linksSettled) (h2 : s.ex.atRest) : s.finish = s.judgeAttention := by
  rw [State.finish, handGates_takeDownlinks s h1, exportBegins_takeAccess s h2]

/-- When the Export Engine is at rest, the end of an event reaches the links and the pending set. -/
theorem finish_export_rest {s : State} (h2 : s.ex.atRest) : s.finish = s.handGates.takeDownlinks.judgeAttention := by
  rw [State.finish, exportBegins_takeAccess s.handGates.takeDownlinks h2]

/-- When the links are settled, the end of an event reaches the Export Engine, the clock and the pending set. -/
theorem finish_links_rest {s : State} (h1 : s.linksSettled) : s.finish = s.exportBegins.takeAccess.judgeAttention := by
  rw [State.finish, handGates_takeDownlinks s h1]

theorem finish_frame (s : State) : FrameBut [.links, .export_, .clock, .pendingSet] s s.finish := by
  intro b hb
  have ha := finish_att s
  have h1 := congrArg Attention.inService ha
  have h2 := congrArg Attention.mask ha
  have h3 := congrArg Attention.vectors ha
  have h4 := congrArg Attention.defaultVector ha
  clear ha
  cases b <;> simp_all [Block.same]

theorem finish_frame_quiet {s : State} (h1 : s.linksSettled) (h2 : s.ex.atRest) : FrameBut [.pendingSet] s s.finish := by
  rw [finish_quiet h1 h2]
  intro b hb
  cases b <;> simp_all [Block.same, State.judgeAttention]

theorem finish_frame_links {s : State} (h2 : s.ex.atRest) : FrameBut [.links, .pendingSet] s s.finish := by
  rw [finish_export_rest h2]
  intro b hb
  cases b <;> simp_all [Block.same, State.judgeAttention, State.handGates, State.takeDownlinks]

theorem finish_frame_export {s : State} (h1 : s.linksSettled) : FrameBut [.export_, .clock, .pendingSet] s s.finish := by
  intro b hb
  by_cases hl : b = .links
  · subst hl
    rw [finish_links_rest h1]
    simp [Block.same, State.judgeAttention, State.exportBegins]
  · exact finish_frame s b (by simp_all)

/-- The Export Engine after the end of an event (R164, R166, R167). -/
theorem finish_followed (s : State) : s.ex.Followed s.finish where
  holdings := finish_ex_keeps s
  access := by
    have k1 := congrArg Exporter.access (beginWrite_keeps s.ex)
    have k2 := congrArg Exporter.access (beginAssembly_keeps s.ex.beginWrite)
    have j1 := congrArg Exporter.stall (beginWrite_keeps s.ex)
    have j2 := congrArg Exporter.stall (beginAssembly_keeps s.ex.beginWrite)
    have b1 := congrArg Exporter.busTimeout (beginWrite_keeps s.ex)
    have b2 := congrArg Exporter.busTimeout (beginAssembly_keeps s.ex.beginWrite)
    have e : s.ex.beginWrite.beginAssembly.access = s.ex.access := k2.trans k1
    have j : s.ex.beginWrite.beginAssembly.stall = s.ex.stall := j2.trans j1
    have b : s.ex.beginWrite.beginAssembly.busTimeout = s.ex.busTimeout := b2.trans b1
    have hx : s.handGates.takeDownlinks.exportBegins.ex = s.ex.beginWrite.beginAssembly := rfl
    have hn : s.finish.now = s.handGates.takeDownlinks.exportBegins.takeAccess.now := rfl
    rw [finish_ex, hn]
    unfold State.takeAccess
    rw [hx, e, j]
    split
    · rw [hx, e]
    · split
      · rename_i h hk; rw [hk, hx, e]; simp_all
      · rename_i h k hk; rw [hk]; simp [b, hx]

/-- Every link after the end of an event. -/
theorem finish_linksFollow (s t : State) (f : HeadNo → Link → Link) (h : ∀ k, t.link k = f k (s.link k)) : s.LinksFollow t.finish f :=
  fun k => by rw [finish_link, finish_gateSet, h k]

theorem finish_now_le (s : State) : s.now ≤ s.finish.now := by
  have : s.finish.now = s.handGates.takeDownlinks.exportBegins.takeAccess.now := rfl
  rw [this]
  rcases takeAccess_cases s.handGates.takeDownlinks.exportBegins with h | ⟨_, _, _, _, h⟩ <;> rw [h]
  · exact Nat.le_refl _
  · exact Nat.le_add_right _ _

/-- After the end of an event the levels are judged, and the event sources are as they were. -/
theorem finish_sources {s t : State} {raised : List Nat}
    (h : ∀ n : Fin 16, isEventSource n.val = true → n.val ∉ raised → t.att.pendingSet.getLsbD n.val = s.att.pendingSet.getLsbD n.val) :
    s.SourcesKept t.finish raised where
  levels := (finish_settled t).levels
  events n hn hr := by
    rw [← h n hn hr]
    have : t.finish.att.pendingSet = t.handGates.takeDownlinks.exportBegins.takeAccess.pendingJudged := rfl
    rw [this, pendingJudged_event _ n hn]
    simp [State.exportBegins, State.takeDownlinks, State.handGates]

/-! ### Requests served directly -/

/-- The state in which the owner serves a request directly: the GO has moved the port to RUNNING (R176). -/
def State.served (s : State) : State := { s with port := { s.port with state := .running } }

theorem needsGrant_served (s : State) (r : Request) : s.served.needsGrant r = s.needsGrant r := rfl

/-- A GO that hands a request to an owner that serves it directly posts the reply at that event (R177, R178). -/
theorem State.GoServes.goWritten {s t : State} {r : Request} {reply : Reply} (h : s.GoServes r) (hs : serve r s.served = (t, reply)) :
    s.goWritten = t.postReply reply := by
  have c : requestOfCode (s.served.param 0) = some r := h.code
  have e : s.goWritten = s.served.route r := by
    unfold State.goWritten
    rw [h.port]
    show (match requestOfCode (s.served.param 0) with | some r => s.served.route r | none => _) = _
    rw [c]
  rw [e, State.route, needsGrant_served, h.direct, hs]; rfl

/-- The row of the request is that GO (log entry 2). -/
theorem State.GoServes.directRow {s t : State} {r : Request} {reply : Reply} (h : s.GoServes r) (hs : serve r s.served = (t, reply)) :
    s.directRow r = (t.postReply reply).finish := by
  have g : s.goServes r = true := by simp [State.goServes, h.port, h.code, h.direct]
  rw [State.directRow, due_nothing_catchUp h.ready.idle, if_pos g, Ready.atEvent h.ready, h.goWritten hs]

theorem serve_port {s t : State} {r : Request} {reply : Reply} (h : serve r s.served = (t, reply)) : t.port = s.served.port := by
  have := (serve_within r s.served).port; rwa [h] at this

theorem sourceBit_mem : ∀ n m : Fin 16, (sourceBit m.val).getLsbD n.val = (n == m) := by decide

/-- Raising a source makes it pending and leaves the others. -/
theorem raise_getLsbD (s : State) (m n : Fin 16) : (s.raise m.val).att.pendingSet.getLsbD n.val = (s.att.pendingSet.getLsbD n.val || n == m) := by
  rw [← sourceBit_mem n m]; simp [State.raise]

/-- What every request served directly comes to (R177, R178): `changed` are the blocks the service changed, `followed` those that the end
of the event reaches beside the pending set. -/
theorem State.GoServes.answers {s t : State} {r : Request} {reply : Reply} {changed followed all : List Block} (_hd : s.GoServes r)
    (_hs : serve r s.served = (t, reply)) (hp : t.att.pendingSet = s.att.pendingSet) (hf : FrameBut changed s.served t)
    (he : FrameBut (.pendingSet :: followed) (t.postReply reply) (t.postReply reply).finish)
    (hall : ∀ b, b ∈ changed ++ followed → b ∈ [.portState, .replyBuf, .pendingSet] ++ all) :
    s.Answers (t.postReply reply).finish reply all where
  posted := by
    refine ⟨by simp; rfl, by simp; rfl, ?_⟩
    have k := finish_sources (s := t.postReply reply) (t := t.postReply reply) (raised := []) fun _ _ _ => rfl
    show (t.postReply reply).finish.att.pendingSet.getLsbD (15 : Fin 16).val = true
    rw [k.events 15 (by decide) (by simp)]
    exact (raise_getLsbD _ 15 15).trans (by simp)
  sources := by
    refine finish_sources fun n hn hr => ?_
    have e : (n == (15 : Fin 16)) = false := by simp at hr ⊢; intro h; subst h; exact hr rfl
    exact (raise_getLsbD _ 15 n).trans (by simp [e, hp])
  frame := by
    have h0 : FrameBut [.portState] s s.served := by
      intro b hb; cases b <;> simp_all [Block.same, State.served]
    have h1 : FrameBut [.portState, .replyBuf, .pendingSet] t (t.postReply reply) := by
      intro b hb; cases b <;> simp_all [Block.same, State.postReply, State.raise]
    refine (((h0.trans hf).trans h1).trans he).mono fun b hb => ?_
    have := hall b
    simp only [List.mem_append, List.mem_cons, List.not_mem_nil, or_false] at hb this ⊢
    rcases hb with ((h | h) | (h | h | h)) | h | h <;> simp_all

/-- A request whose service leaves links and Export Engine settled. -/
theorem State.GoServes.quiet {s t : State} {r : Request} {reply : Reply} {changed : List Block} (hd : s.GoServes r)
    (hs : serve r s.served = (t, reply)) (hp : t.att.pendingSet = s.att.pendingSet) (hf : FrameBut changed s.served t)
    (h1 : t.linksSettled) (h2 : t.ex.atRest) : s.Answers (t.postReply reply).finish reply changed := by
  have l : (t.postReply reply).linksSettled := linksSettled_congr h1 rfl rfl
  exact hd.answers (followed := []) hs hp hf ((finish_frame_quiet l h2).mono fun b hb => by simp_all) (fun b hb => by simp_all)

/-- A request whose service changes nothing (R178). -/
theorem State.GoServes.unchanged {s : State} {r : Request} {reply : Reply} (hd : s.GoServes r) (hs : serve r s.served = (s.served, reply)) :
    s.Answers (s.served.postReply reply).finish reply [] := by
  exact hd.quiet hs rfl (FrameBut.refl _ _) (linksSettled_congr hd.ready.settled.linksSettled rfl rfl) hd.ready.settled.exportAtRest

end Sys2Proof.Machine
end

