-- ==== Sys2Proof/Laws/Shared.lean ====
section
/-! SUPPORT. What the small shared functions compute, in the terms of their rules: ascending lists, the key order, look-ups, causes, the check byte. -/

namespace Sys2Proof.Machine

/-! ### Ascending lists (R49, R117) -/

theorem mem_crossInsert (x : LineAddr) (l : List LineAddr) (y : LineAddr) : y ∈ crossInsert x l ↔ y = x ∨ y ∈ l := by
  induction l with
  | nil => simp [crossInsert]
  | cons z zs ih => unfold crossInsert; split <;> (try split) <;> simp_all <;> grind

theorem crossInsert_ascends (x : LineAddr) (l : List LineAddr) (p : l.Pairwise fun a b => a.toNat < b.toNat) :
    (crossInsert x l).Pairwise fun a b => a.toNat < b.toNat := by
  induction l with
  | nil => simp [crossInsert]
  | cons y ys ih =>
    have q := List.pairwise_cons.mp p
    unfold crossInsert
    split
    · rename_i h
      refine List.pairwise_cons.mpr ⟨fun j hj => ?_, p⟩
      rcases List.mem_cons.mp hj with rfl | hj
      · exact h
      · exact Nat.lt_trans h (q.1 j hj)
    · split
      · exact p
      · refine List.pairwise_cons.mpr ⟨fun j hj => ?_, ih q.2⟩
        rcases (mem_crossInsert x ys j).mp hj with rfl | hj
        · rename_i a b; have : j.toNat ≠ y.toNat := fun e => b (BitVec.eq_of_toNat_eq e); omega
        · exact q.1 j hj

theorem mem_memberInsert (i : SiteNo) (l : List SiteNo) (j : SiteNo) : j ∈ memberInsert i l ↔ j = i ∨ j ∈ l := by
  induction l with
  | nil => simp [memberInsert]
  | cons z zs ih => unfold memberInsert; split <;> (try split) <;> simp_all <;> grind

theorem memberInsert_ascends (i : SiteNo) (l : List SiteNo) (p : l.Pairwise fun a b => a.val < b.val) :
    (memberInsert i l).Pairwise fun a b => a.val < b.val := by
  induction l with
  | nil => simp [memberInsert]
  | cons y ys ih =>
    have q := List.pairwise_cons.mp p
    unfold memberInsert
    split
    · rename_i h
      refine List.pairwise_cons.mpr ⟨fun j hj => ?_, p⟩
      rcases List.mem_cons.mp hj with rfl | hj
      · exact h
      · exact Nat.lt_trans h (q.1 j hj)
    · split
      · exact p
      · refine List.pairwise_cons.mpr ⟨fun j hj => ?_, ih q.2⟩
        rcases (mem_memberInsert i ys j).mp hj with rfl | hj
        · rename_i a b; have : j.val ≠ y.val := fun e => b (Fin.ext e); omega
        · exact q.1 j hj

/-! ### Keys and look-ups (R46) -/

/-- The key order: site, domain, ROW before COLUMN, ascending address (R46, section 3.2). -/
theorem rank_lt (a b : Key) : a.rank < b.rank ↔
    a.site.val < b.site.val ∨ (a.site = b.site ∧ (a.domain.val < b.domain.val ∨ (a.domain = b.domain ∧
      ((a.axis = .row ∧ b.axis = .column) ∨ (a.axis = b.axis ∧ a.addr.toNat < b.addr.toNat))))) := by
  obtain ⟨a1, a2, a3, a4⟩ := a
  obtain ⟨b1, b2, b3, b4⟩ := b
  have := a1.isLt; have := b1.isLt; have := a2.isLt; have := b2.isLt; have := a4.isLt; have := b4.isLt
  simp only [Key.rank, Fin.ext_iff]
  cases a3 <;> cases b3 <;> simp [Axis.rank] <;> omega

theorem findLine_some {s : State} {k : Key} {r : LineRec} (h : s.findLine k = some r) : r ∈ s.store.lines ∧ r.key = k :=
  ⟨List.mem_of_find?_eq_some h, by simpa using List.find?_some h⟩

theorem findLine_none (s : State) (k : Key) : s.findLine k = none ↔ ∀ r ∈ s.store.lines, r.key ≠ k := by
  simp [State.findLine, List.find?_eq_none]

/-! ### Causes (R156) -/

theorem causes_nonempty (c : LinkCauses) : c.nonempty = true ↔ c ≠ {} := by
  cases c; simp [LinkCauses.nonempty]; grind

/-! ### The check byte (R187) -/

/-- One bit of a message through the CRC-8: the register moves up, and the polynomial is taken in when the bit that leaves differs from it. -/
def crcStep (c : Byte) (x : Bool) : Byte := (c <<< 1) ^^^ (if c.getLsbD 7 = x then 0x00 else 0x07)

theorem crcBit_xor (c b : Byte) : crcBit (c ^^^ b) = crcStep c (b.getLsbD 7) ^^^ (b <<< 1) := by
  have e : (c ^^^ b).msb = (c.getLsbD 7 ^^ b.getLsbD 7) := by simp [BitVec.msb_eq_getLsbD_last]
  unfold crcBit crcStep
  rw [e, BitVec.shiftLeft_xor_distrib]
  cases c.getLsbD 7 <;> cases b.getLsbD 7 <;> simp <;> (ext i; simp; grind)

/-- A byte is its eight bits, the most significant first (R187). -/
theorem crcByte_bits (c b : Byte) : crcByte c b =
    [b.getLsbD 7, b.getLsbD 6, b.getLsbD 5, b.getLsbD 4, b.getLsbD 3, b.getLsbD 2, b.getLsbD 1, b.getLsbD 0].foldl crcStep c := by
  have g : ∀ n : Nat, (b <<< n).getLsbD 7 = (decide (n ≤ 7) && b.getLsbD (7 - n)) := by
    intro n; simp; grind
  simp only [crcByte, crcBit_xor, List.foldl, ← BitVec.shiftLeft_add, g]
  simp

end Sys2Proof.Machine
end

