-- ==== Sys2Proof/WellFormed.lean ====
section
/-! DEFINITION. Which commands name an event that the window or a head link can make. -/

namespace Sys2Proof

/-- A command is well formed when its operands are those of the event it names:
a soft reset is a write of the soft-reset word with bit 0 set and its release one with bit 0 clear (R185); an ignored write names
a word of the 38-word window other than the soft-reset word, which is never ignored (section 11, R176, R185). Every value of the
other operands is an event of the part: the widths of their types are the widths of the fields (R187, R188). -/
def Instr.wf : Instr → Bool
  | .softReset v => v.getLsbD 0
  | .softResetRelease v => !v.getLsbD 0
  | .ignoredWrite off _ => off % 4 == 0 && off ≤ 0x94 && !(off == 0x88)
  | _ => true

end Sys2Proof
end

