-- ==== Sys2Proof/Tests/Slice0.lean ====
section
/-! SUPPORT. The tests: the ill-formed commands, the manual's worked numbers, one event of each kind, and a state that meets the hypotheses of each obligation. -/

namespace Sys2Proof.Tests

open Sys2Proof Sys2Proof.Machine

/-! ### Small states -/

/-- Two domains of 1,024 rows and 256 columns, columns grouped by 4, with two spares of each axis. -/
def geo : Geometry :=
  { domainCount := 2, rows := 1024, columns := 256, rowGroup := 1, columnGroup := 4, spareRows := 2, spareColumns := 2 }

/-- A context on template 0 in a phase. -/
def ctx (phase : Phase) : Context :=
  { phase, tag := 0xD1E, template := 0, geometry := geo, policy := .stop, quota := 48, reason := none, flags := {}, doomed := false,
    domains := freshDomains geo }

/-- The part after reset with template 0 loaded and site 3 in a context. -/
def withCtx (c : Context) : State :=
  (State.reset.setTemplate 0 { active := some geo, pendingCopy := none, useCount := 1 }).modSite 3 fun x => { x with ctx := some c }

def inPhase (p : Phase) : State := withCtx (ctx p)

def withLines (s : State) (ls : List LineRec) : State := { s with store := { s.store with lines := ls } }

def line (a : Axis) (addr : LineAddr) (st : LineState) (cross : List LineAddr) : LineRec :=
  { index := 0, key := ⟨3, 0, a, addr⟩, state := st, failCount := 1, cross, syndrome := 0 }

/-- The failing cell of row line 5 and column line 9, on its two CANDIDATE lines. -/
def cellLines : List LineRec := [line .row 5 .candidate [9], line .column 9 .candidate [5]]

/-- The column line of that cell, damaged. -/
def badColumn : LineRec := { line .column 9 .candidate [5] with syndrome := 1 }

/-- A request, code first, in the request buffer of a READY port. -/
def direct (ws : List Word) (s : State) : State :=
  { s with port := { s.port with state := .ready, requestBuf := Vector.ofFn fun n => ws.getD n.val 0 } }

/-- A request as the pending host request. -/
def pendingHost (r : Request) (ws : List Word) (s : State) : State :=
  { s with port := { s.port with state := .running, requestBuf := Vector.ofFn fun n => (0 :: ws).getD n.val 0 },
           engine := { s.engine with pendingHost := some r } }

/-- Head 0's link UP with a FIFO. -/
def up (fifo : List UpFrame) (balance : Nat) (s : State) : State :=
  s.setLink 0 { Link.down with state := .up, slotCount := 8, balance, fifo, transmitter := some (.credit 1) }

def training (s : State) : State := s.setLink 0 { Link.down with state := .training, trainingDeadline := some 50000 }

/-- A held export descriptor with a buffer of the least length. -/
def desc : Descriptor := { addr := 0x1000, bufAddr := 0x2000, bufLen := 528, nextAddr := none, notify := true }

def withEx (e : Exporter) (s : State) : State := { s with ex := e }

/-- A work item is in progress, so no grant is due. -/
def busy (s : State) : State := { s with engine := { s.engine with inProgress := some .intake } }

theorem meets_goServes {r : Request} {p : State → Prop} (s : State)
    (h : (s.finish.isHeld = false ∧ s.finish.due = .nothing ∧ s.finish.goServes r = true) ∧ p s.finish) : ∃ s : State, s.GoServes r ∧ p s := by
  have g := h.1.2.2
  simp only [State.goServes, Bool.and_eq_true, beq_iff_eq, Bool.not_eq_true'] at g
  exact ⟨s.finish, ⟨⟨h.1.1, h.1.2.1, finish_settled s⟩, g.1.1, g.1.2, g.2⟩, h.2⟩

/-- The one partner of a line is damaged. -/
theorem firstBad_single {s : State} {l p : LineRec} {x : LineAddr} (h : l.cross = [x]) (hp : s.partnerAt l.key x = some p) (hs : p.syndrome ≠ 0) :
    s.firstBadPartner l p := ⟨[], x, [], h, fun _ hx => absurd hx List.not_mem_nil, hp, hs⟩

theorem meets_hostDue {r : Request} {p : State → Prop} (s : State) (h : s.finish.due = .host r ∧ p s.finish) : ∃ s : State, s.HostDue r ∧ p s :=
  ⟨s.finish, ⟨h.1, finish_settled s⟩, h.2⟩

theorem meets_ready {p : State → Prop} (s : State) (h : s.finish.isHeld = false ∧ s.finish.due = .nothing ∧ p s.finish) : ∃ s : State, s.Ready ∧ p s :=
  ⟨s.finish, ⟨h.1, h.2.1, finish_settled s⟩, h.2.2⟩

theorem meets_settled {p : State → Prop} (s : State) (h : p s.finish) : ∃ s : State, s.Settled ∧ p s := ⟨s.finish, finish_settled s, h⟩

/-! ### Well-formed commands (R176, R185, section 11) -/

theorem test_wf_soft_reset_needs_its_bit : Instr.wf (.softReset 2) = false ∧ Instr.wf (.softReset 3) = true := by decide

theorem test_wf_soft_reset_release_needs_a_clear_bit : Instr.wf (.softResetRelease 1) = false ∧ Instr.wf (.softResetRelease 2) = true := by decide

theorem test_wf_ignored_write_is_aligned : Instr.wf (.ignoredWrite 0x42 0) = false ∧ Instr.wf (.ignoredWrite 0x40 0) = true := by decide

theorem test_wf_ignored_write_lies_in_the_window : Instr.wf (.ignoredWrite 0x98 0) = false ∧ Instr.wf (.ignoredWrite 0x94 0) = true := by decide

theorem test_wf_soft_reset_word_is_never_ignored : Instr.wf (.ignoredWrite 0x88 0) = false := by decide

/-! ### The manual's worked numbers -/

/-- The low-water example of section 3.8, row by row. -/
theorem test_low_water_example :
    lowJudged 513 512 false = false ∧ lowJudged 511 512 false = true ∧ lowJudged 549 512 true = true ∧ lowJudged 579 512 true = false ∧
      lowJudged 579 600 false = true ∧ lowJudged 626 600 true = true ∧ lowJudged 626 560 true = false := by decide

/-- Line words of the record of site 200 (section 12.4). -/
theorem test_line_words_of_the_example :
    lineWord (line .row 3 (.assigned .pinned) []) = 0x00200003 ∧ lineWord (line .row 20 (.assigned .must) []) = 0x00000014 ∧
      lineWord (line .column 2 (.assigned .must) []) = 0x00010002 ∧ lineWord (line .column 9 (.assigned .must) []) = 0x00010009 := by decide

/-- Domain 1's two words of the same example. -/
theorem test_domain_words_of_the_example :
    domainSection { state := .repaired, base := ⟨4, 4⟩, defective := ⟨0, 0⟩, assigned := ⟨2, 2⟩, failTotal := 9 } [] = [0x00002201, 0x00000009] := by decide

/-- The header of the same example: site 200, outcome FAIL, HOST_EDITED, four domains, 23 words. -/
theorem test_header_words_of_the_example :
    headerWords 200 { ctx .held with tag := 0x0C3A0010, geometry := { geo with domainCount := 4 }, flags := { hostEdited := true },
                                     domains := [{ state := .unrepairable, base := ⟨1, 1⟩, defective := ⟨0, 0⟩, assigned := ⟨0, 0⟩, failTotal := 1 }] } 23
      = [0x000000C8, 0x0C3A0010, 0x00041002, 0x00000017] := by decide

/-- Section 7.1: with a span of 4, column lines 20 to 23 share coarse address 5 and line 24 has 6. -/
theorem test_coarse_addresses :
    ([20, 21, 22, 23, 24].map fun n => (coKeyOf 0 0 .column n 4).coarse) = [5, 5, 5, 5, 6] := by decide

/-- The check byte of an END frame for slot 3, worked outside the model from R187's polynomial and initial value. -/
theorem test_check_byte : checkByte [0x03, 0x03, 0, 0, 0, 0, 0] = 0x59 := by decide +kernel

/-- The bytes of a FAIL frame read field by field: slot 17, domain 2, run of 4, row 1,000 (03E8h), column 300 (12Ch). -/
theorem test_fail_frame_fields :
    commandOfFrame 1 { bytes := #v[0x02, 0x11, 0x32, 0xE8, 0x03, 0x2C, 0x01, 0xE4], framingFault := false } = .failReceived 1 17 2 1000 300 3 := by decide +kernel

theorem test_downstream_kind_is_bad : commandOfFrame 1 (DownFrame.raw (.credit 64)) = .badFrameReceived 1 := by decide +kernel

/-- R176: port control with both bits is RELEASE, with none an ignored write. -/
theorem test_port_control_writes :
    commandOfWrite 0x80 3 = .release ∧ commandOfWrite 0x80 1 = .go ∧ commandOfWrite 0x80 4 = .ignoredWrite 0x80 4 ∧
      commandOfWrite 0x3C 7 = .requestBufferWrite 15 7 ∧ commandOfWrite 0x40 7 = .ignoredWrite 0x40 7 := by decide

/-! ### States that meet the hypotheses of the obligations -/

/-- HeldPartIgnoresCommands, SoftResetValues. -/
theorem test_resets_meet :
    (State.powerOn.isHeld = true ∧ (State.reset.setSoftWord 1).isHeld = true ∧ (State.reset.setSoftWord 1).porHeld = false) ∧
    (∃ s : State, s.Ready ∧ (1 : Word).getLsbD 0 = true ∧ (0xFFFFFFFE : Word).getLsbD 0 = false) :=
  ⟨by decide +kernel,
    meets_ready (State.reset) (by decide +kernel)⟩

/-- PortWritesByState, GoRoutesTheRequest. -/
theorem test_port_meet :
    (∃ s : State, s.Ready ∧ s.port.state = .ready ∧ s.param 0 = 0) ∧
    (∃ s : State, s.Ready ∧ s.port.state = .replied) ∧
    (∃ s : State, s.Ready ∧ s.port.state = .running) ∧
    (∃ s : State, s.Ready ∧ s.port.state = .ready ∧ requestOfCode (s.param 0) = some .loadTemplate ∧ s.needsGrant .loadTemplate = false) ∧
    (∃ s : State, s.Ready ∧ s.port.state = .ready ∧ requestOfCode (s.param 0) = some .setAttention ∧ s.needsGrant .setAttention = false) ∧
    (∃ s : State, s.Ready ∧ s.port.state = .ready ∧ 34 < s.param 0) ∧
    (∃ s : State, s.Ready ∧ s.port.state = .ready ∧ requestOfCode (s.param 0) = some .stage ∧ s.needsGrant .stage = true) ∧
    (∃ s : State, s.Ready ∧ requestOfCode (s.param 0) = some .stage ∧ s.armWords.site = 256 ∧ s.needsGrant .stage = false) :=
  ⟨meets_ready (State.reset) (by decide +kernel),
    meets_ready ({ State.reset with port := { State.reset.port with state := .replied } }) (by decide +kernel),
    meets_ready ({ State.reset with port := { State.reset.port with state := .running }, engine := { State.reset.engine with inProgress := some .sweep } }) (by decide +kernel),
    meets_ready (State.reset.requestWordWritten 0 1) (by decide +kernel),
    meets_ready (State.reset.requestWordWritten 0 34) (by decide +kernel),
    meets_ready (State.reset.requestWordWritten 0 35) (by decide +kernel),
    meets_ready (State.reset.requestWordWritten 0 4) (by decide +kernel),
    meets_ready ((State.reset.requestWordWritten 0 4).requestWordWritten 1 256) (by decide +kernel)⟩

/-- AckServesHighestSource, EosEndsHighestService. -/
theorem test_attention_meet :
    (∃ s : State, s.Ready ∧ s.attentionLine = false ∧ s.att.inService = 0) ∧
    (∃ s : State, s.Ready ∧ s.attentionLine = true) ∧
    (∃ s : State, s.Ready ∧ s.att.wins 15 ∧ s.att.pendingSet.getLsbD 12 = true) ∧
    (∃ s : State, s.Ready ∧ s.att.inService = sourceBit 15 ∧ s.att.wins 11) ∧
    (∃ s : State, s.Ready ∧ s.att.inService.getLsbD 0 = true ∧ s.att.inService.getLsbD 15 = true) :=
  ⟨meets_ready (State.reset) (by decide +kernel),
    meets_ready ({ State.reset with att := { State.reset.att with mask := 0 } }) (by decide +kernel),
    meets_ready ({ (State.reset.raise 15) with att := { (State.reset.raise 15).att with mask := 0x7FFF } }) (by unfold Attention.wins; decide +kernel),
    meets_ready ({ (State.reset.postNoticeTag 3 .spill 0) with att := { State.reset.att with mask := 0, inService := sourceBit 15 } }) (by unfold Attention.wins; decide +kernel),
    meets_ready ({ State.reset with att := { State.reset.att with inService := 0x8001 } }) (by decide +kernel)⟩

/-- LoadTemplateWritesOneCopy, with a template number on each side of the bound. -/
theorem test_load_template_meets :
    (∃ s : State, s.GoServes .loadTemplate ∧ 7 < s.param 1) ∧
    (∃ s : State, s.GoServes .loadTemplate ∧ s.param 1 = (7 : TemplateNo).val ∧ s.geometryParams.badField = some 1) ∧
    (∃ s : State, s.GoServes .loadTemplate ∧ s.param 1 = (7 : TemplateNo).val ∧ s.geometryParams.badField = none) :=
  ⟨meets_goServes (direct [1, 8] State.reset) (by decide +kernel),
    meets_goServes (direct [1, 7, 17, 256, 64, 1, 1, 0, 0] State.reset) (by decide +kernel),
    meets_goServes (direct [1, 7, 1, 256, 64, 1, 1, 0, 0] State.reset) (by decide +kernel)⟩

/-- ListingRequestsChangeNothing. -/
theorem test_listings_meet :
    (∃ s : State, s.GoServes .queryTemplate ∧ 7 < s.param 1) ∧
    (∃ s : State, s.GoServes .queryTemplate ∧ s.param 1 = (0 : TemplateNo).val) ∧
    (∃ s : State, s.GoServes .listCoincidence ∧ 127 < s.param 1) ∧
    (∃ s : State, s.GoServes .listCoincidence ∧ s.param 1 ≤ 127) :=
  ⟨meets_goServes (direct [2, 8] State.reset) (by decide +kernel),
    meets_goServes (direct [2, 0] (inPhase .armed)) (by decide +kernel),
    meets_goServes (direct [21, 128] State.reset) (by decide +kernel),
    meets_goServes (direct [21, 127] State.reset) (by decide +kernel)⟩

/-- QueryPartReadsTheBlocks, QuerySiteViewsTheSite, QueriesThatTakeAway, QueriesOfLinkAndExport. -/
theorem test_queries_meet :
    (∃ s : State, s.GoServes .queryPart ∧ s.freeCount = 12288) ∧
    (∃ s : State, s.GoServes .querySite ∧ 255 < s.param 1) ∧
    (∃ s : State, s.GoServes .querySite ∧ s.param 1 = (255 : SiteNo).val ∧ s.ctx 255 = none) ∧
    (∃ s : State, s.GoServes .querySite ∧ s.param 1 = (3 : SiteNo).val ∧ s.ctx 3 = some (ctx .armed)) ∧
    (∃ s : State, s.GoServes .takeStopNotices ∧ s.lists.stopNotices = []) ∧
    (∃ s : State, s.GoServes .queryIntegrity ∧ s.store.capture = none) ∧
    (∃ s : State, s.GoServes .queryCoincidence ∧ s.co.tableFull = false) ∧
    (∃ s : State, s.GoServes .queryLink ∧ 7 < s.param 1) ∧
    (∃ s : State, s.GoServes .queryLink ∧ s.param 1 = (7 : HeadNo).val) ∧
    (∃ s : State, s.GoServes .queryExport ∧ s.ex.badDescriptor = false) :=
  ⟨meets_goServes (direct [33] State.reset) (by decide +kernel),
    meets_goServes (direct [12, 256] State.reset) (by decide +kernel),
    meets_goServes (direct [12, 255] State.reset) (by decide +kernel),
    meets_goServes (direct [12, 3, 1] (inPhase .armed)) (by decide +kernel),
    meets_goServes (direct [13] State.reset) (by decide +kernel),
    meets_goServes (direct [14] State.reset) (by decide +kernel),
    meets_goServes (direct [23] State.reset) (by decide +kernel),
    meets_goServes (direct [26, 8] State.reset) (by decide +kernel),
    meets_goServes (direct [26, 7] State.reset) (by decide +kernel),
    meets_goServes (direct [31] State.reset) (by decide +kernel)⟩

/-- GateSetAndDownlinkOrder, HoldsAndUnstaging. -/
theorem test_holds_meet :
    (∃ s : State, s.Ready ∧ (s.link 0).transmitter.isSome = true ∧ (s.link 0).state = .up) ∧
    (∃ s : State, s.GoServes .holdSite ∧ 255 < s.param 1) ∧
    (∃ s : State, s.GoServes .holdSite ∧ s.param 1 = (255 : SiteNo).val ∧ s.siteState 255 = .vacant) ∧
    (∃ s : State, s.GoServes .holdSite ∧ s.param 1 = (3 : SiteNo).val ∧ s.siteState 3 ≠ .vacant) ∧
    (∃ s : State, s.GoServes .releaseHold ∧ 255 < s.param 1) ∧
    (∃ s : State, s.GoServes .releaseHold ∧ s.param 1 = (0 : SiteNo).val) ∧
    (∃ s : State, s.GoServes .unstage ∧ 255 < s.param 1) ∧
    (∃ s : State, s.GoServes .unstage ∧ s.param 1 = (255 : SiteNo).val) :=
  ⟨meets_ready (up [] 60 State.reset) (by decide +kernel),
    meets_goServes (direct [10, 256] State.reset) (by decide +kernel),
    meets_goServes (direct [10, 255] State.reset) (by decide +kernel),
    meets_goServes (direct [10, 3] (inPhase .testing)) (by decide +kernel),
    meets_goServes (direct [11, 256] State.reset) (by decide +kernel),
    meets_goServes (direct [11, 0] State.reset) (by decide +kernel),
    meets_goServes (direct [5, 256] State.reset) (by decide +kernel),
    meets_goServes (direct [5, 255] State.reset) (by decide +kernel)⟩

/-- StartSitesStartsArmedSlots. -/
theorem test_start_sites_meets :
    (∃ s : State, s.GoServes .startSites ∧ 7 < s.param 1) ∧
    (∃ s : State, s.GoServes .startSites ∧ s.param 1 = (7 : HeadNo).val ∧ (s.link 7).state ≠ .up) ∧
    (∃ s : State, s.GoServes .startSites ∧ s.param 1 = (0 : HeadNo).val ∧ (s.link 0).state = .up ∧ s.siteState 3 = .armed) :=
  ⟨meets_goServes (direct [7, 8] State.reset) (by decide +kernel),
    meets_goServes (direct [7, 7] State.reset) (by decide +kernel),
    meets_goServes (direct [7, 0, 8] (up [] 60 (inPhase .armed))) (by decide +kernel)⟩

/-- CloseByState. -/
theorem test_close_meets :
    (∃ s : State, s.GoServes .close ∧ 255 < s.param 1) ∧
    (∃ s : State, s.GoServes .close ∧ s.param 1 = (3 : SiteNo).val ∧ s.siteState 3 = .vacant) ∧
    (∃ s : State, s.GoServes .close ∧ s.param 1 = (3 : SiteNo).val ∧ s.siteState 3 ∈ [SiteState.draining, .sweeping, .held]) ∧
    (∃ s : State, s.GoServes .close ∧ s.param 1 = (3 : SiteNo).val ∧ s.siteState 3 = .armed) ∧
    (∃ s : State, s.GoServes .close ∧ s.param 1 = (3 : SiteNo).val ∧ s.siteState 3 = .testing) :=
  ⟨meets_goServes (direct [8, 256] State.reset) (by decide +kernel),
    meets_goServes (direct [8, 3] State.reset) (by decide +kernel),
    meets_goServes (direct [8, 3] (inPhase .held)) (by decide +kernel),
    meets_goServes (direct [8, 3] (inPhase .armed)) (by decide +kernel),
    meets_goServes (direct [8, 3] (inPhase .testing)) (by decide +kernel)⟩

/-- SetCoincidenceSetsAllThree, ClearTripReturnsToCounting. -/
theorem test_coincidence_meets :
    (∃ s : State, s.GoServes .setCoincidence ∧ s.param 1 < 2) ∧
    (∃ s : State, s.GoServes .setCoincidence ∧ 32 < s.param 1) ∧
    (∃ s : State, s.GoServes .setCoincidence ∧ s.param 2 ∉ [1, 2, 4, 8, 16]) ∧
    (∃ s : State, s.GoServes .setCoincidence ∧ s.param 3 ∉ [1, 2]) ∧
    (∃ s : State, s.GoServes .setCoincidence ∧ 2 ≤ s.param 1 ∧ s.param 1 ≤ 32 ∧ s.param 2 ∈ [1, 2, 4, 8, 16] ∧ action? (s.param 3) = some .hold) ∧
    (∃ s : State, s.GoServes .clearTrip ∧ s.param 1 = 1 ∧ 127 < s.param 2) ∧
    (∃ s : State, s.GoServes .clearTrip ∧ s.param 1 = 2 ∧ 7 < s.param 2) ∧
    (∃ s : State, s.GoServes .clearTrip ∧ s.param 1 ∉ [1, 2, 3]) ∧
    (∃ s : State, s.GoServes .clearTrip ∧ s.param 1 = 1 ∧ s.param 2 = (127 : Fin 128).val ∧ s.co.table[127] = none) ∧
    (∃ s : State, s.GoServes .clearTrip ∧ s.param 1 = 1 ∧ s.param 2 = (127 : Fin 128).val ∧ (s.co.table[127]).map (·.key) = some ⟨7, 15, .column, 9⟩ ∧ s.param 3 = 7 ∧ s.param 4 = 15 ∧ s.param 5 = 2 ∧ s.param 6 = 9) ∧
    (∃ s : State, s.GoServes .clearTrip ∧ s.param 1 = 2 ∧ s.param 2 = (7 : TemplateNo).val) ∧
    (∃ s : State, s.GoServes .clearTrip ∧ s.param 1 = 3) :=
  ⟨meets_goServes (direct [20, 1, 4, 1] State.reset) (by decide +kernel),
    meets_goServes (direct [20, 33, 4, 1] State.reset) (by decide +kernel),
    meets_goServes (direct [20, 32, 3, 1] State.reset) (by decide +kernel),
    meets_goServes (direct [20, 2, 16, 3] State.reset) (by decide +kernel),
    meets_goServes (direct [20, 32, 16, 2] State.reset) (by decide +kernel),
    meets_goServes (direct [22, 1, 128] State.reset) (by decide +kernel),
    meets_goServes (direct [22, 2, 8] State.reset) (by decide +kernel),
    meets_goServes (direct [22, 4] State.reset) (by decide +kernel),
    meets_goServes (direct [22, 1, 127] State.reset) (by decide +kernel),
    meets_goServes (direct [22, 1, 127, 7, 15, 2, 9] (State.reset.setCoEntry 127 (some { key := ⟨7, 15, .column, 9⟩, members := [3], state := .tripped }))) (by decide +kernel),
    meets_goServes (direct [22, 2, 7] (State.reset.setCoEntry 127 (some { key := ⟨7, 15, .column, 9⟩, members := [3], state := .tripped }))) (by decide +kernel),
    meets_goServes (direct [22, 3] (State.reset.setCoEntry 127 (some { key := ⟨7, 15, .column, 9⟩, members := [3], state := .tripped }))) (by decide +kernel)⟩

/-- CoincidenceJoinsAndTrips: a free table, a COUNTING entry below and at the threshold, a TRIPPED entry; a full table of other keys. -/
theorem test_coincidence_join_meets :
    ((inPhase .testing).ctx 3 = some (ctx .testing) ∧ 2 ≤ (inPhase .testing).co.threshold ∧ (inPhase .testing).co.table[0] = none) ∧
    (∃ e : CoEntry, e.key = coKeyOf 0 0 .row 5 4 ∧ (3 : SiteNo) ∉ e.members ∧ e.members.Nodup ∧ e.state = .counting ∧ e.members.length + 1 < 6) ∧
    (∃ e : CoEntry, e.key = coKeyOf 0 0 .row 5 4 ∧ (3 : SiteNo) ∉ e.members ∧ e.members.Nodup ∧ e.state = .counting ∧ 6 ≤ e.members.length + 1) ∧
    (∀ n : Fin 128, (Vector.replicate 128 (some ({ key := coKeyOf 1 0 .row 5 4, members := [1], state := .counting } : CoEntry)))[n.val] ≠ none) :=
  ⟨by decide +kernel,
    ⟨{ key := coKeyOf 0 0 .row 5 4, members := [1, 2, 4, 5], state := .counting }, by decide +kernel⟩,
    ⟨{ key := coKeyOf 0 0 .row 5 4, members := [1, 2, 4, 5, 6], state := .counting }, by decide +kernel⟩,
    by decide +kernel⟩

/-- LinkEnableStartsTraining, LinkResetReturnsToDown. -/
theorem test_link_requests_meet :
    (∃ s : State, s.GoServes .linkEnable ∧ 7 < s.param 1) ∧
    (∃ s : State, s.GoServes .linkEnable ∧ s.param 1 = (0 : HeadNo).val ∧ (s.link 0).state ∈ [LinkState.training, .up]) ∧
    (∃ s : State, s.GoServes .linkEnable ∧ (s.link 0).state = .faulted ∧ (s.link 0).marker = true) ∧
    (∃ s : State, s.GoServes .linkEnable ∧ (s.link 0).state = .faulted ∧ (s.link 0).marker = false) ∧
    (∃ s : State, s.GoServes .linkEnable ∧ s.param 1 = (7 : HeadNo).val ∧ (s.link 7).state = .down) ∧
    (∃ s : State, s.GoServes .linkReset ∧ 7 < s.param 1) ∧
    (∃ s : State, s.GoServes .linkReset ∧ (s.link 0).state = .up ∧ s.siteState (siteOf 0 3) = .testing) ∧
    (∃ s : State, s.GoServes .linkReset ∧ (s.link 0).marker = false ∧ (s.link 0).state = .up ∧ ∀ sl : SlotNo, s.siteState (siteOf 0 sl) ≠ .testing ∧ s.siteState (siteOf 0 sl) ≠ .draining) :=
  ⟨meets_goServes (direct [24, 8] State.reset) (by decide +kernel),
    meets_goServes (direct [24, 0] (up [] 60 State.reset)) (by decide +kernel),
    meets_goServes (direct [24, 0] (busy (State.reset.setLink 0 { Link.down with state := .faulted, marker := true }))) (by decide +kernel),
    meets_goServes (direct [24, 0] (State.reset.setLink 0 { Link.down with state := .faulted })) (by decide +kernel),
    meets_goServes (direct [24, 7] State.reset) (by decide +kernel),
    meets_goServes (direct [25, 8] State.reset) (by decide +kernel),
    meets_goServes (direct [25, 0] (up [] 60 (inPhase .testing))) (by decide +kernel),
    meets_goServes (direct [25, 0] (up [] 60 (inPhase .armed))) (by decide +kernel)⟩

/-- ChainAndFlush, StallRequests. -/
theorem test_export_requests_meet :
    (∃ s : State, s.GoServes .giveExportChain ∧ (s.reqWord 1).toNat % 4 ≠ 0) ∧
    (∃ s : State, s.GoServes .giveExportChain ∧ (s.reqWord 1).toNat % 4 = 0 ∧ s.ex.current = .empty) ∧
    (∃ s : State, s.GoServes .giveExportChain ∧ s.ex.current ≠ .empty ∧ s.ex.nextSlot = .empty) ∧
    (∃ s : State, s.GoServes .giveExportChain ∧ s.ex.current ≠ .empty ∧ s.ex.nextSlot ≠ .empty) ∧
    (∃ s : State, s.GoServes .flushExport ∧ s.ex.current = .empty) ∧
    (∃ s : State, s.GoServes .flushExport ∧ s.ex.current = .held desc ∧ s.ex.writePos = none) ∧
    (∃ s : State, s.GoServes .flushExport ∧ s.ex.current = .held desc ∧ s.ex.writePos ≠ none) ∧
    (∃ s : State, s.GoServes .resumeExport ∧ s.ex.stall = none) ∧
    (∃ s : State, s.GoServes .abandonBuffer ∧ s.ex.stall = none) ∧
    (∃ s : State, s.GoServes .resumeExport ∧ s.ex.stall = some (.fetch .current) ∧ s.ex.current = .fetching 4 [3]) ∧
    (∃ s : State, s.GoServes .abandonBuffer ∧ s.ex.stall = some .write) ∧
    (∃ s : State, s.GoServes .abandonBuffer ∧ s.ex.stall = some .writeBack) ∧
    (∃ s : State, s.GoServes .resumeExport ∧ s.ex.stall = some .writeBack) ∧
    (∃ s : State, s.GoServes .resumeExport ∧ s.ex.stall = some .write ∧ s.ex.writePos = some 2) ∧
    (∃ s : State, s.GoServes .resumeExport ∧ s.ex.stall = some (.fetch .next) ∧ s.ex.nextSlot = .fetching 8 [3]) ∧
    (∃ s : State, s.GoServes .abandonBuffer ∧ s.ex.stall = some (.fetch .next) ∧ s.ex.current = .held desc) ∧
    (∃ s : State, s.GoServes .abandonBuffer ∧ s.ex.stall = some (.fetch .current) ∧ s.ex.nextSlot = .held desc) :=
  ⟨meets_goServes (direct [27, 2] State.reset) (by decide +kernel),
    meets_goServes (direct [27, 4] State.reset) (by decide +kernel),
    meets_goServes (direct [27, 4] (withEx { State.reset.ex with current := .held desc, fillOffset := some 0 } State.reset)) (by decide +kernel),
    meets_goServes (direct [27, 4] (withEx { State.reset.ex with current := .held desc, fillOffset := some 0, nextSlot := .held desc } State.reset)) (by decide +kernel),
    meets_goServes (direct [28] State.reset) (by decide +kernel),
    meets_goServes (direct [28] (withEx { State.reset.ex with current := .held desc, fillOffset := some 0 } State.reset)) (by decide +kernel),
    meets_goServes (direct [28] (withEx { State.reset.ex with current := .held desc, fillOffset := some 0, buffer := some ⟨3, [0, 0, 0, 4]⟩ } State.reset)) (by decide +kernel),
    meets_goServes (direct [29] State.reset) (by decide +kernel),
    meets_goServes (direct [30] State.reset) (by decide +kernel),
    meets_goServes (direct [29] (withEx { State.reset.ex with current := .fetching 4 [3], fetchOrder := [.current], stall := some (.fetch .current) } State.reset)) (by decide +kernel),
    meets_goServes (direct [30] (withEx { State.reset.ex with current := .held desc, fillOffset := some 0, buffer := some ⟨3, [0, 0, 0, 4]⟩, stall := some .write } State.reset)) (by decide +kernel),
    meets_goServes (direct [30] (withEx { State.reset.ex with writeBacks := [⟨4, true, 0, .full⟩], stall := some .writeBack } State.reset)) (by decide +kernel),
    meets_goServes (direct [29] (withEx { State.reset.ex with writeBacks := [⟨4, true, 0, .full⟩], stall := some .writeBack } State.reset)) (by decide +kernel),
    meets_goServes (direct [29] (withEx { State.reset.ex with current := .held desc, fillOffset := some 0, buffer := some ⟨3, [0, 0, 0, 4]⟩, writePos := some 2, stall := some .write } State.reset)) (by decide +kernel),
    meets_goServes (direct [29] (withEx { State.reset.ex with current := .held desc, fillOffset := some 0, nextSlot := .fetching 8 [3], fetchOrder := [.next], stall := some (.fetch .next) } State.reset)) (by decide +kernel),
    meets_goServes (direct [30] (withEx { State.reset.ex with current := .held desc, fillOffset := some 0, nextSlot := .fetching 8 [3], fetchOrder := [.next], stall := some (.fetch .next) } State.reset)) (by decide +kernel),
    meets_goServes (direct [30] (withEx { State.reset.ex with current := .fetching 4 [3], fetchOrder := [.current], nextSlot := .held desc, stall := some (.fetch .current) } State.reset)) (by decide +kernel)⟩

/-- SetLimitsTogether, SetAttentionSetsPresentItems: a field just outside its range, all fields at their bounds, the empty presence set. -/
theorem test_settings_meet :
    (∃ s : State, s.GoServes .setLimits ∧ s.badLimit = some 1) ∧
    (∃ s : State, s.GoServes .setLimits ∧ s.badLimit = some 5) ∧
    (∃ s : State, s.GoServes .setLimits ∧ s.badLimit = none) ∧
    (∃ s : State, s.GoServes .setLimits ∧ s.badLimit = none) ∧
    (∃ s : State, s.GoServes .setAttention ∧ (s.reqWord 1).getLsbD 0 = true ∧ (s.reqWord 1).getLsbD 2 = true) ∧
    (∃ s : State, s.GoServes .setAttention ∧ s.reqWord 1 = 0) :=
  ⟨meets_goServes (direct [32, 1, 0] State.reset) (by decide +kernel),
    meets_goServes (direct [32, 16, 0, 0, 0, 0, 12289] State.reset) (by decide +kernel),
    meets_goServes (direct [32, 31, 65535, 1000, 255, 8, 12288] State.reset) (by decide +kernel),
    meets_goServes (direct [32, 0] State.reset) (by decide +kernel),
    meets_goServes (direct [34, 7, 1, 2, 3, 4, 0xFFFF, 255] State.reset) (by decide +kernel),
    meets_goServes (direct [34, 0] State.reset) (by decide +kernel)⟩

/-- ArmWordsAndFirstChecks, ArmMakesContextCurrent: each refusal, a VACANT site with no carry-in entry and with one. -/
theorem test_arm_meets :
    (∃ s : State, s.HostDue .arm ∧ (match s.armFields with | .error why => why == .badSite | .ok _ => false) = true) ∧
    (∃ s : State, s.HostDue .arm ∧ (match s.armFields with | .error why => why == .badTemplate | .ok _ => false) = true) ∧
    (∃ s : State, s.HostDue .arm ∧ (match s.armFields with | .error why => why == .badField | .ok _ => false) = true) ∧
    (∃ s : State, s.HostDue .arm ∧ (match s.armFields with | .error why => why == .badCarryIn | .ok _ => false) = true) ∧
    (∃ s : State, s.HostDue .arm ∧ (match s.armFields with | .error why => why == .templateInvalid | .ok _ => false) = true) ∧
    (∃ s : State, s.HostDue .arm ∧ (match s.armFields with | .ok (i, x) => i == 3 && decide (x.carryIn.length = 0) | .error _ => false) = true ∧ s.siteState 3 ≠ .vacant) ∧
    (∃ s : State, s.HostDue .arm ∧ (match s.armFields with | .ok (i, x) => i == 3 && decide (x.carryIn.length = 0) | .error _ => false) = true ∧ s.siteState 3 = .vacant ∧ (s.template 0).active = some geo ∧ 0 ≤ s.freeCount) ∧
    (∃ s : State, s.HostDue .arm ∧ (match s.armFields with | .ok (i, x) => i == 3 && decide (x.carryIn.length = 1) | .error _ => false) = true ∧ s.siteState 3 = .vacant ∧ 1 ≤ s.freeCount) ∧
    (∃ s : State, s.HostDue .arm ∧ (match s.armFields with | .ok (i, x) => i == 3 && decide (x.carryIn.length = 1) | .error _ => false) = true ∧ geo.lineCount .row ≤ 0x400) ∧
    (∃ s : State, s.HostDue .arm ∧ (match s.armFields with | .ok (i, x) => i == 3 && decide (x.carryIn.length = 3) | .error _ => false) = true ∧ geo.spares .row < 3) :=
  ⟨meets_hostDue (pendingHost .arm [256] State.reset) (by decide +kernel),
    meets_hostDue (pendingHost .arm [0x00180003] State.reset) (by decide +kernel),
    meets_hostDue (pendingHost .arm [0x00300003] State.reset) (by decide +kernel),
    meets_hostDue (pendingHost .arm [0x02100003, 0, 0, 0x01000005, 0x01000005] State.reset) (by decide +kernel),
    meets_hostDue (pendingHost .arm [0x00100003] State.reset) (by decide +kernel),
    meets_hostDue (pendingHost .arm [0x00100003, 0xBEEF] (inPhase .armed)) (by decide +kernel),
    meets_hostDue (pendingHost .arm [0x00100003, 0xBEEF] (State.reset.setTemplate 0 { active := some geo, pendingCopy := none, useCount := 0 })) (by decide +kernel),
    meets_hostDue (pendingHost .arm [0x01100003, 0xBEEF, 0, 0x010003FF] (State.reset.setTemplate 0 { active := some geo, pendingCopy := none, useCount := 0 })) (by decide +kernel),
    meets_hostDue (pendingHost .arm [0x01100003, 0xBEEF, 0, 0x01000400] (State.reset.setTemplate 0 { active := some geo, pendingCopy := none, useCount := 0 })) (by decide +kernel),
    meets_hostDue (pendingHost .arm [0x03100003, 0xBEEF, 0, 0x01000000, 0x01000001, 0x01000002] (State.reset.setTemplate 0 { active := some geo, pendingCopy := none, useCount := 0 })) (by decide +kernel)⟩

/-- StageByState. -/
theorem test_stage_meets :
    (∃ s : State, s.HostDue .stage ∧ (match s.armFields with | .error why => why == .badSite | .ok _ => false) = true ∧ s.port.state = .running) ∧
    (∃ s : State, s.HostDue .stage ∧ (match s.armFields with | .ok (i, x) => i == 3 && decide (x.carryIn.length = 0) | .error _ => false) = true ∧ s.port.state = .running ∧ s.siteState 3 = .vacant) ∧
    (∃ s : State, s.HostDue .stage ∧ (match s.armFields with | .ok (i, x) => i == 3 && decide (x.carryIn.length = 0) | .error _ => false) = true ∧ s.port.state = .running ∧ s.siteState 3 ≠ .vacant ∧ (s.site 3).staged = none) ∧
    (∃ s : State, s.GoServes .stage ∧ (match s.armFields with | .ok (i, x) => i == 3 && decide (x.carryIn.length = 0) | .error _ => false) = true ∧ s.siteState 3 ≠ .vacant ∧ (s.site 3).staged = none) ∧
    (∃ s : State, s.GoServes .stage ∧ (match s.armFields with | .ok (i, x) => i == 3 && decide (x.carryIn.length = 0) | .error _ => false) = true ∧ s.siteState 3 ≠ .vacant ∧ (s.site 3).staged ≠ none) :=
  ⟨meets_hostDue (pendingHost .stage [256] State.reset) (by decide +kernel),
    meets_hostDue (pendingHost .stage [0x00100003, 0xBEEF] (State.reset.setTemplate 0 { active := some geo, pendingCopy := none, useCount := 0 })) (by decide +kernel),
    meets_hostDue (pendingHost .stage [0x00100003, 0xBEEF] (inPhase .held)) (by decide +kernel),
    meets_goServes (direct [4, 0x00100003, 0xBEEF] (inPhase .held)) (by decide +kernel),
    meets_goServes (direct [4, 0x00100003, 0xBEEF] ((inPhase .held).modSite 3 fun x => { x with staged := some ⟨0, 0, .stop, none, []⟩ })) (by decide +kernel)⟩

/-- DisarmReturnsToVacant, AbortByState. -/
theorem test_disarm_and_abort_meet :
    (∃ s : State, s.HostDue .disarm ∧ 255 < s.param 1) ∧
    (∃ s : State, s.HostDue .disarm ∧ s.param 1 = (3 : SiteNo).val ∧ s.siteState 3 ≠ .armed) ∧
    (∃ s : State, s.HostDue .disarm ∧ s.param 1 = (3 : SiteNo).val ∧ s.ctx 3 = some (ctx .armed)) ∧
    (∃ s : State, s.HostDue .abort ∧ 255 < s.param 1) ∧
    (∃ s : State, s.HostDue .abort ∧ s.siteState 3 ∈ [SiteState.vacant, .armed, .held]) ∧
    (∃ s : State, s.HostDue .abort ∧ s.ctx 3 = some (ctx .testing)) ∧
    (∃ s : State, s.HostDue .abort ∧ s.ctx 3 = some (ctx .draining)) ∧
    (∃ s : State, s.HostDue .abort ∧ (s.ctx 3).map (·.phase) = some .sweeping ∧ s.reasonOf 3 = some .spill) :=
  ⟨meets_hostDue (pendingHost .disarm [256] State.reset) (by decide +kernel),
    meets_hostDue (pendingHost .disarm [3] (inPhase .testing)) (by decide +kernel),
    meets_hostDue (pendingHost .disarm [3] (inPhase .armed)) (by decide +kernel),
    meets_hostDue (pendingHost .abort [256] State.reset) (by decide +kernel),
    meets_hostDue (pendingHost .abort [3] (inPhase .held)) (by decide +kernel),
    meets_hostDue (pendingHost .abort [3] (inPhase .testing)) (by decide +kernel),
    meets_hostDue (pendingHost .abort [3] (inPhase .draining)) (by decide +kernel),
    meets_hostDue (pendingHost .abort [3] (withCtx { ctx .sweeping with reason := some .spill })) (by decide +kernel)⟩

/-- RecordRequestsRefused: each check at the value next to its bound. -/
theorem test_record_refusals_meet :
    (∃ s : State, s.HostDue .lookupLine ∧ 255 < s.param 1) ∧
    (∃ s : State, s.HostDue .markSpareDefective ∧ s.param 1 = (3 : SiteNo).val ∧ 15 < s.param 2) ∧
    (∃ s : State, s.HostDue .pinLine ∧ s.param 2 = (15 : DomainNo).val ∧ s.param 3 ∉ [1, 2]) ∧
    (∃ s : State, s.HostDue .listLines ∧ s.param 3 ≠ 0 ∧ 65535 < s.param 4) ∧
    (∃ s : State, s.HostDue .retireLine ∧ s.siteState 3 = .vacant) ∧
    (∃ s : State, s.HostDue .pinLine ∧ s.siteState 3 ∈ [SiteState.sweeping, .held]) ∧
    (∃ s : State, s.HostDue .pinLine ∧ s.siteState 3 ∈ [SiteState.armed, .testing, .draining] ∧ s.reasonOf 3 ≠ none) ∧
    (∃ s : State, s.HostDue .listLines ∧ geo.domainCount ≤ (2 : DomainNo).val ∧ s.ctx 3 = some (ctx .held)) ∧
    (∃ s : State, s.HostDue .lookupLine ∧ geo.lineCount .column ≤ s.param 4) ∧
    (∃ s : State, s.HostDue .lookupLine ∧ s.param 4 < geo.lineCount .row) ∧
    (∃ s : State, s.HostDue .markSpareDefective ∧ (s.domain? 3 0).map (·.state) = some .unrepairable) :=
  ⟨meets_hostDue (pendingHost .lookupLine [256] State.reset) (by decide +kernel),
    meets_hostDue (pendingHost .markSpareDefective [3, 16, 1] State.reset) (by decide +kernel),
    meets_hostDue (pendingHost .pinLine [3, 15, 3] State.reset) (by decide +kernel),
    meets_hostDue (pendingHost .listLines [3, 0, 1, 65536] State.reset) (by decide +kernel),
    meets_hostDue (pendingHost .retireLine [3, 0, 1, 5] State.reset) (by decide +kernel),
    meets_hostDue (pendingHost .pinLine [3, 0, 1, 5] (inPhase .sweeping)) (by decide +kernel),
    meets_hostDue (pendingHost .pinLine [3, 0, 1, 5] (withCtx { ctx .draining with reason := some .aborted })) (by decide +kernel),
    meets_hostDue (pendingHost .listLines [3, 2, 0] (inPhase .held)) (by decide +kernel),
    meets_hostDue (pendingHost .lookupLine [3, 0, 2, 64] (inPhase .held)) (by decide +kernel),
    meets_hostDue (pendingHost .lookupLine [3, 0, 1, 1023] (inPhase .held)) (by decide +kernel),
    meets_hostDue (pendingHost .markSpareDefective [3, 0, 1] ((inPhase .testing).modDomain 3 0 fun r => { r with state := .unrepairable })) (by decide +kernel)⟩

/-- ReadingRequestsReadLines, PinLineAssignsOrCreates, RetireAndMarkSpare: absent, CANDIDATE, ASSIGNED and lost lines, and the budgets. -/
theorem test_line_requests_meet :
    (∃ s : State, s.HostDue .lookupLine ∧ s.findLine ⟨3, 0, .row, 5⟩ = none) ∧
    (∃ s : State, s.HostDue .lookupLine ∧ s.findLine ⟨3, 0, .row, 5⟩ = some (line .row 5 .candidate [9])) ∧
    (∃ s : State, s.HostDue .lookupLine ∧ s.ctx 3 = none ∧ 65536 ≤ s.param 4) ∧
    (∃ s : State, s.HostDue .lookupLine ∧ (s.findLine ⟨3, 0, .row, 5⟩).map (·.syndrome) = some 1) ∧
    (∃ s : State, s.HostDue .listLines ∧ cursor? (s.param 3) (s.param 4) = some none ∧ ∀ r ∈ s.store.lines, r.syndrome = 0) ∧
    (∃ s : State, s.HostDue .listLines ∧ cursor? (s.param 3) (s.param 4) = some (some (.column, 65535))) ∧
    (∃ s : State, s.HostDue .pinLine ∧ (s.findLine ⟨3, 0, .row, 5⟩).map (·.state) = some (.assigned .must)) ∧
    (∃ s : State, s.HostDue .pinLine ∧ s.findLine ⟨3, 0, .row, 5⟩ = none ∧ s.available 3 0 .row = 0) ∧
    (∃ s : State, s.HostDue .pinLine ∧ s.findLine ⟨3, 0, .row, 5⟩ = none ∧ 0 < s.available 3 0 .row ∧ 0 < s.freeCount ∧ s.inUse 3 < 48) ∧
    (∃ s : State, s.HostDue .pinLine ∧ 0 < s.available 3 0 .row ∧ 2 ≤ s.inUse 3) ∧
    (∃ s : State, s.HostDue .pinLine ∧ s.freeCount = 0) ∧
    (∃ s : State, s.HostDue .pinLine ∧ s.findLine ⟨3, 0, .row, 5⟩ = some (line .row 5 .candidate [9]) ∧ 0 < s.available 3 0 .row ∧ s.findLine ⟨3, 0, .column, 9⟩ = some (line .column 9 .candidate [5])) ∧
    (∃ s : State, s.HostDue .pinLine ∧ s.findLine ⟨3, 0, .row, 5⟩ = some (line .row 5 .candidate [9]) ∧ 0 < s.available 3 0 .row ∧ s.firstBadPartner (line .row 5 .candidate [9]) badColumn) ∧
    (∃ s : State, s.HostDue .retireLine ∧ s.findLine ⟨3, 0, .row, 5⟩ = some (line .row 5 .candidate [9]) ∧ s.firstBadPartner (line .row 5 .candidate [9]) badColumn) ∧
    (∃ s : State, s.HostDue .listLines ∧ cursor? (s.param 3) (s.param 4) = some none ∧ s.store.lines = [line .row 5 .candidate [9]] ++ badColumn :: []) ∧
    (∃ s : State, s.HostDue .pinLine ∧ (s.findLine ⟨3, 0, .row, 5⟩).map (·.syndrome) = some 1) ∧
    (∃ s : State, s.HostDue .retireLine ∧ s.findLine ⟨3, 0, .row, 5⟩ = some (line .row 5 .candidate [9]) ∧ keysRise s.store.lines) ∧
    (∃ s : State, s.HostDue .retireLine ∧ s.findLine ⟨3, 0, .row, 6⟩ = none) ∧
    (∃ s : State, s.HostDue .retireLine ∧ (s.findLine ⟨3, 0, .row, 5⟩).map (·.syndrome) = some 1) ∧
    (∃ s : State, s.HostDue .markSpareDefective ∧ s.available 3 0 .column = 0) ∧
    (∃ s : State, s.HostDue .markSpareDefective ∧ 0 < s.available 3 0 .column ∧ (s.domain? 3 0).map (·.state) = some .opened) :=
  ⟨meets_hostDue (pendingHost .lookupLine [3, 0, 1, 5] (inPhase .testing)) (by decide +kernel),
    meets_hostDue (pendingHost .lookupLine [3, 0, 1, 5] (withLines (inPhase .testing) cellLines)) (by decide +kernel),
    meets_hostDue (pendingHost .lookupLine [3, 0, 1, 65536] State.reset) (by decide +kernel),
    meets_hostDue (pendingHost .lookupLine [3, 0, 1, 5] (withLines (inPhase .testing) [{ line .row 5 .candidate [9] with syndrome := 1 }])) (by decide +kernel),
    meets_hostDue (pendingHost .listLines [3, 0, 0] (withLines (inPhase .testing) cellLines)) (by decide +kernel),
    meets_hostDue (pendingHost .listLines [3, 0, 2, 65535] (withLines (inPhase .testing) cellLines)) (by decide +kernel),
    meets_hostDue (pendingHost .pinLine [3, 0, 1, 5] (withLines (inPhase .testing) [line .row 5 (.assigned .must) []])) (by decide +kernel),
    meets_hostDue (pendingHost .pinLine [3, 0, 1, 5] ((inPhase .testing).modDomain 3 0 fun r => { r with assigned := ⟨2, 0⟩ })) (by decide +kernel),
    meets_hostDue (pendingHost .pinLine [3, 0, 1, 5] (inPhase .testing)) (by decide +kernel),
    meets_hostDue (pendingHost .pinLine [3, 0, 1, 6] (withLines (withCtx { ctx .testing with quota := 2 }) cellLines)) (by decide +kernel),
    meets_hostDue (pendingHost .pinLine [3, 0, 1, 6] (withLines (inPhase .testing) (List.replicate 12288 (line .row 5 .candidate [9])))) (by decide +kernel),
    meets_hostDue (pendingHost .pinLine [3, 0, 1, 5] (withLines (inPhase .testing) cellLines)) (by decide +kernel),
    meets_hostDue (pendingHost .pinLine [3, 0, 1, 5] (withLines (inPhase .testing) [line .row 5 .candidate [9], badColumn])) (by exact ⟨by decide +kernel, by decide +kernel, by decide +kernel, firstBad_single rfl (by decide +kernel) (by decide)⟩),
    meets_hostDue (pendingHost .retireLine [3, 0, 1, 5] (withLines (inPhase .testing) [line .row 5 .candidate [9], badColumn])) (by exact ⟨by decide +kernel, by decide +kernel, firstBad_single rfl (by decide +kernel) (by decide)⟩),
    meets_hostDue (pendingHost .listLines [3, 0, 0] (withLines (inPhase .testing) [line .row 5 .candidate [9], badColumn])) (by decide +kernel),
    meets_hostDue (pendingHost .pinLine [3, 0, 1, 5] (withLines (inPhase .testing) [{ line .row 5 .candidate [9] with syndrome := 1 }])) (by decide +kernel),
    meets_hostDue (pendingHost .retireLine [3, 0, 1, 5] (withLines (inPhase .testing) cellLines)) (by decide +kernel),
    meets_hostDue (pendingHost .retireLine [3, 0, 1, 6] (withLines (inPhase .testing) cellLines)) (by decide +kernel),
    meets_hostDue (pendingHost .retireLine [3, 0, 1, 5] (withLines (inPhase .testing) [{ line .row 5 .candidate [9] with syndrome := 1 }])) (by decide +kernel),
    meets_hostDue (pendingHost .markSpareDefective [3, 0, 2] ((inPhase .testing).modDomain 3 0 fun r => { r with defective := ⟨0, 2⟩ })) (by decide +kernel),
    meets_hostDue (pendingHost .markSpareDefective [3, 0, 2] (inPhase .draining)) (by decide +kernel)⟩

/-- HelloJudgedByState, CountedFramesTakeACredit, BadFramesAreCounted, TrainingDeadlineFaultsTheLink, DrainDeadlineSweepsTheSite. -/
theorem test_frames_received_meet :
    (∃ s : State, s.Ready ∧ (s.link 0).state ∈ [LinkState.down, .faulted] ∧ (s.link 0).trainingDeadline = none) ∧
    (∃ s : State, s.Ready ∧ (s.link 0).state = .up ∧ 0 < (s.link 0).balance) ∧
    (∃ s : State, s.Ready ∧ (s.link 0).state = .training ∧ (s.link 0).trainingDeadline = some 50000) ∧
    (¬ ((1 : Byte) = 1 ∧ 1 ≤ (33 : Byte).toNat ∧ (33 : Byte).toNat ≤ 32) ∧ 1 ≤ (32 : Byte).toNat ∧ (32 : Byte).toNat ≤ 32) ∧
    (∃ s : State, s.Ready ∧ (s.link 0).state = .up ∧ (s.link 0).balance = 0) ∧
    (∃ s : State, s.Ready ∧ (s.link 0).state = .up ∧ (s.link 0).badCount < 3) ∧
    (∃ s : State, s.Ready ∧ (s.link 0).state = .up ∧ 3 ≤ (s.link 0).badCount) ∧
    (∃ s : State, s.Ready ∧ s.ctx 3 = some (ctx .draining) ∧ (s.site 3).drainDeadline = some 10000) ∧
    (∃ s : State, s.Ready ∧ s.siteState 3 ≠ .draining) :=
  ⟨meets_ready (State.reset) (by decide +kernel),
    meets_ready (up [] 1 State.reset) (by decide +kernel),
    meets_ready (training State.reset) (by decide +kernel),
    by decide +kernel,
    meets_ready (up [] 0 State.reset) (by decide +kernel),
    meets_ready ((up [] 60 State.reset).modLink 0 fun l => { l with badCount := 2 }) (by decide +kernel),
    meets_ready ((up [] 60 State.reset).modLink 0 fun l => { l with badCount := 3 }) (by decide +kernel),
    meets_ready ((inPhase .draining).modSite 3 fun x => { x with drainDeadline := some 10000 }) (by decide +kernel),
    meets_ready (inPhase .testing) (by decide +kernel)⟩

/-- DescriptorsAreFetchedAhead, RecordWordsAndRelease, WriteBackAndBusTimeout, AssemblyFormsTheRecord. -/
theorem test_initiator_meets :
    (∃ s : State, s.Ready ∧ s.ex.access = none ∧ s.ex.assembling = none) ∧
    (∃ s : State, s.Ready ∧ (s.ex.access.map (·.kind)) = some (.read .current 0x1008) ∧ s.ex.current = .fetching 0x1000 [3]) ∧
    (judgeFetch 0x1000 [3, 0x2000, 528] = .taken { desc with notify := false } ∧ judgeFetch 0x1000 [3, 0x2000, 527] = .refused ∧ judgeFetch 0x1000 [3] = .reading ∧ judgeFetch 0x1000 [16] = .refused) ∧
    (∃ w : WriteBack, w.used < 2 ^ 21) ∧
    (∃ s : State, s.Ready ∧ s.ex.writePos = some 2 ∧ (s.ex.access.map (·.kind)) = some (.record 0x2008 0)) ∧
    (∃ s : State, s.Ready ∧ s.ex.writePos = some 3 ∧ s.siteState 3 = .held ∧ s.ex.fillOffset = some 0 ∧ 0 + 4 + 516 ≤ desc.bufLen ∧ s.ex.flushPending = false) ∧
    (∃ s : State, s.Ready ∧ s.ex.writePos = some 3 ∧ s.siteState 3 = .held ∧ s.ex.fillOffset = some 8 ∧ 8 + 4 + 516 ≤ desc.bufLen ∧ s.ex.flushPending = true) ∧
    (∃ s : State, s.Ready ∧ s.ex.writePos = some 3 ∧ s.siteState 3 = .held ∧ s.ex.fillOffset = some 9 ∧ desc.bufLen < 9 + 4 + 516) ∧
    ((inPhase .held).ctx 3 = some (ctx .held) ∧ (inPhase .held).ctx 4 = none) ∧
    (∃ s : State, s.Ready ∧ s.ex.writeBacks = [⟨0x1000, true, 4, .flushed⟩]) ∧
    (∃ s : State, s.Ready ∧ s.ex.assembling = some 3 ∧ s.ctx 3 = some (ctx .held) ∧ s.store.lines = []) ∧
    (∃ s : State, s.Ready ∧ s.ex.assembling = some 3 ∧ s.reasonOf 3 = none ∧ s.store.lines = [line .row 4 (.assigned .must) []] ++ { line .row 5 (.assigned .must) [] with syndrome := 1 } :: []) :=
  ⟨meets_ready (State.reset) (by decide +kernel),
    meets_ready (withEx { State.reset.ex with current := .fetching 0x1000 [3], fetchOrder := [.current], access := some ⟨.read .current 0x1008, 200⟩ } State.reset) (by decide +kernel),
    by decide +kernel,
    ⟨⟨4, true, 1048576, .full⟩, by decide +kernel⟩,
    meets_ready (withEx { State.reset.ex with current := .held desc, fillOffset := some 0, buffer := some ⟨3, [0, 0, 0, 4]⟩, writePos := some 2, collectionQueue := [3], access := some ⟨.record 0x2008 0, 200⟩ } (inPhase .held)) (by decide +kernel),
    meets_ready (withEx { State.reset.ex with current := .held desc, fillOffset := some 0, flushPending := false, buffer := some ⟨3, [0, 0, 0, 4]⟩, writePos := some 3, collectionQueue := [3], access := some ⟨.record 0x200C 4, 200⟩ } (inPhase .held)) (by decide +kernel),
    meets_ready (withEx { State.reset.ex with current := .held desc, fillOffset := some 8, flushPending := true, buffer := some ⟨3, [0, 0, 0, 4]⟩, writePos := some 3, collectionQueue := [3], access := some ⟨.record 0x200C 4, 200⟩ } (inPhase .held)) (by decide +kernel),
    meets_ready (withEx { State.reset.ex with current := .held desc, fillOffset := some 9, flushPending := false, buffer := some ⟨3, [0, 0, 0, 4]⟩, writePos := some 3, collectionQueue := [3], access := some ⟨.record 0x200C 4, 200⟩ } (inPhase .held)) (by decide +kernel),
    by decide +kernel,
    meets_ready (withEx { State.reset.ex with writeBacks := [⟨0x1000, true, 4, .flushed⟩], access := some ⟨.status 0x1004 0x83000004, 200⟩ } State.reset) (by decide +kernel),
    meets_ready (withEx { State.reset.ex with assembling := some 3, collectionQueue := [3] } (inPhase .held)) (by decide +kernel),
    meets_ready (withEx { State.reset.ex with assembling := some 3, collectionQueue := [3] } (withLines (inPhase .held) [line .row 4 (.assigned .must) [], { line .row 5 (.assigned .must) [] with syndrome := 1 }])) (by decide +kernel)⟩

/-- ArbiterAlternatesGroups: the completion of a host request and of other work, and an urgent head. -/
theorem test_arbiter_meets :
    (∃ s : State, s.Ready ∧ s.engine.inProgress = none ∧ s.chooseHead = none) ∧
    (∃ s : State, s.Ready ∧ s.engine.inProgress = some .intake) ∧
    (∃ s : State, s.Ready ∧ s.engine.inProgress = some (.host { status := .done })) ∧
    ((up (List.replicate 48 (.endFrame 3)) 16 State.reset).chooseHead = some 0 ∧ (up [] 60 State.reset).nextGrant = .nothing) :=
  ⟨meets_ready (State.reset) (by decide +kernel),
    meets_ready ({ State.reset with engine := { State.reset.engine with inProgress := some .intake } }) (by decide +kernel),
    meets_ready ({ State.reset with engine := { State.reset.engine with inProgress := some (.host { status := .done }) } }) (by decide +kernel),
    by decide +kernel⟩

/-- SweepStepFinishesTheSite: the four kinds of conclusion, and an over-budget, a damaged and no line in the passes from ENTER and from SETTLE. -/
theorem test_sweep_meets :
    (∃ s : State, s.Settled ∧ s.due = .sweep ∧ s.lists.sweepQueue = [3] ∧ s.reasonOf 3 = some .spill) ∧
    (∃ s : State, s.Settled ∧ s.due = .sweep ∧ s.ctx 3 = some (ctx .sweeping) ∧ s.engine.sweepPos = none ∧ s.candidates 3 0 = []) ∧
    (∃ s : State, s.Settled ∧ s.due = .sweep ∧ (s.domain? 3 0).map (·.state) = some .unrepairable) ∧
    (∃ s : State, s.Settled ∧ s.due = .sweep ∧ s.sweepPass ⟨3, 0, .settle, none, false⟩ = .stopAt (line .row 5 .candidate [9]) ∧ 0 < s.available 3 0 .row) ∧
    (∃ s : State, s.Settled ∧ s.due = .sweep ∧ s.sweepPass ⟨3, 0, .settle, none, false⟩ = .stopAt (line .row 5 .candidate [9]) ∧ s.available 3 0 .row = 0) ∧
    (∃ s : State, s.Settled ∧ s.due = .sweep ∧ keysRise s.store.lines ∧ s.sweepPass ⟨3, 0, .settle, some ⟨3, 0, .row, 5⟩, true⟩ = .stopAt (line .column 9 .candidate [5]) ∧ 0 < s.available 3 0 .column) ∧
    (∃ s : State, s.Settled ∧ s.due = .sweep ∧ s.sweepPass ⟨3, 0, .settle, some ⟨3, 0, .row, 5⟩, true⟩ = .passed (some ⟨3, 0, .column, 9⟩) ∧ s.sweepPass ⟨3, 0, .settle, none, false⟩ = .stopAt (line .row 5 .candidate [9])) ∧
    (∃ s : State, s.Settled ∧ s.due = .sweep ∧ s.sweepPass ⟨3, 0, .settle, some ⟨3, 0, .row, 5⟩, true⟩ = .passed (some ⟨3, 0, .column, 9⟩) ∧ s.sweepPass ⟨3, 0, .settle, none, false⟩ = .passed (some ⟨3, 0, .column, 9⟩)) ∧
    (∃ s : State, s.Settled ∧ s.due = .sweep ∧ s.sweepPass ⟨3, 0, .settle, some ⟨3, 0, .row, 5⟩, false⟩ = .stopAt badColumn ∧ keysRise s.store.lines) ∧
    (∃ s : State, s.Settled ∧ s.due = .sweep ∧ s.sweepPass ⟨3, 0, .settle, some ⟨3, 0, .row, 5⟩, false⟩ = .passed (some ⟨3, 0, .column, 9⟩) ∧ (s.candidates 3 0).any (fun r => r.syndrome != 0) = true) ∧
    (∃ s : State, s.Settled ∧ s.due = .sweep ∧ s.sweepPass ⟨3, 0, .settle, none, false⟩ = .stopAt (line .row 5 .candidate [9]) ∧ s.firstBadPartner (line .row 5 .candidate [9]) badColumn) ∧
    (∃ s : State, s.Settled ∧ s.due = .sweep ∧ keysRise s.store.lines ∧ bestLine (s.candidates 3 0) = some (line .row 5 .candidate [9]) ∧ ∀ r ∈ s.store.lines, s.overBudget r = false) ∧
    (∃ s : State, s.Settled ∧ s.due = .sweep ∧ s.available 3 0 .row = 0 ∧ 0 < s.available 3 0 .column) ∧
    (∃ s : State, s.Settled ∧ s.due = .sweep ∧ s.available 3 0 .row = 0 ∧ s.available 3 0 .column = 0) ∧
    (∃ s : State, s.Settled ∧ s.due = .sweep ∧ s.store.lines.any (fun r => r.syndrome != 0) = true) ∧
    (∃ s : State, s.Settled ∧ s.due = .sweep ∧ bestLine (s.candidates 3 0) = some (line .row 5 .candidate [9]) ∧ s.firstBadPartner (line .row 5 .candidate [9]) { badColumn with state := .assigned .carried }) :=
  ⟨meets_settled ({ withLines (withCtx { ctx .sweeping with reason := some .spill }) [] with lists := { State.reset.lists with sweepQueue := [3] }, engine := { State.reset.engine with sweepPos := none } }) (by decide +kernel),
    meets_settled ({ withLines (withCtx (ctx .sweeping)) [] with lists := { State.reset.lists with sweepQueue := [3] }, engine := { State.reset.engine with sweepPos := none } }) (by decide +kernel),
    meets_settled ({ withLines (withCtx { ctx .sweeping with domains := [{ state := .unrepairable, base := ⟨2, 2⟩, defective := ⟨0, 0⟩, assigned := ⟨0, 0⟩, failTotal := 1 }] }) [] with lists := { State.reset.lists with sweepQueue := [3] }, engine := { State.reset.engine with sweepPos := none } }) (by decide +kernel),
    meets_settled ({ withLines (withCtx { ctx .sweeping with domains := [{ state := .failing, base := ⟨1, 0⟩, defective := ⟨0, 0⟩, assigned := ⟨0, 0⟩, failTotal := 1 }] }) cellLines with lists := { State.reset.lists with sweepQueue := [3] }, engine := { State.reset.engine with sweepPos := none } }) (by decide +kernel),
    meets_settled ({ withLines (withCtx { ctx .sweeping with domains := [{ state := .failing, base := ⟨0, 0⟩, defective := ⟨0, 0⟩, assigned := ⟨0, 0⟩, failTotal := 1 }] }) cellLines with lists := { State.reset.lists with sweepQueue := [3] }, engine := { State.reset.engine with sweepPos := none } }) (by decide +kernel),
    meets_settled ({ withLines (withCtx { ctx .sweeping with domains := [{ state := .failing, base := ⟨0, 1⟩, defective := ⟨0, 0⟩, assigned := ⟨0, 0⟩, failTotal := 1 }] }) cellLines with lists := { State.reset.lists with sweepQueue := [3] }, engine := { State.reset.engine with sweepPos := (some ⟨3, 0, .settle, some ⟨3, 0, .row, 5⟩, true⟩) } }) (by decide +kernel),
    meets_settled ({ withLines (withCtx { ctx .sweeping with domains := [{ state := .failing, base := ⟨1, 0⟩, defective := ⟨0, 0⟩, assigned := ⟨0, 0⟩, failTotal := 1 }] }) cellLines with lists := { State.reset.lists with sweepQueue := [3] }, engine := { State.reset.engine with sweepPos := (some ⟨3, 0, .settle, some ⟨3, 0, .row, 5⟩, true⟩) } }) (by decide +kernel),
    meets_settled ({ withLines (withCtx (ctx .sweeping)) cellLines with lists := { State.reset.lists with sweepQueue := [3] }, engine := { State.reset.engine with sweepPos := (some ⟨3, 0, .settle, some ⟨3, 0, .row, 5⟩, true⟩) } }) (by decide +kernel),
    meets_settled ({ withLines (withCtx (ctx .sweeping)) [line .row 5 .candidate [9], badColumn] with lists := { State.reset.lists with sweepQueue := [3] }, engine := { State.reset.engine with sweepPos := (some ⟨3, 0, .settle, some ⟨3, 0, .row, 5⟩, false⟩) } }) (by decide +kernel),
    meets_settled ({ withLines (withCtx (ctx .sweeping)) [{ line .row 5 .candidate [9] with syndrome := 1 }, line .column 9 .candidate [5]] with lists := { State.reset.lists with sweepQueue := [3] }, engine := { State.reset.engine with sweepPos := (some ⟨3, 0, .settle, some ⟨3, 0, .row, 5⟩, false⟩) } }) (by decide +kernel),
    meets_settled ({ withLines (withCtx { ctx .sweeping with domains := [{ state := .failing, base := ⟨1, 0⟩, defective := ⟨0, 0⟩, assigned := ⟨0, 0⟩, failTotal := 1 }] }) [line .row 5 .candidate [9], badColumn] with lists := { State.reset.lists with sweepQueue := [3] }, engine := { State.reset.engine with sweepPos := none } }) (by exact ⟨by decide +kernel, by decide +kernel, firstBad_single rfl (by decide +kernel) (by decide)⟩),
    meets_settled ({ withLines (withCtx (ctx .sweeping)) cellLines with lists := { State.reset.lists with sweepQueue := [3] }, engine := { State.reset.engine with sweepPos := none } }) (by decide +kernel),
    meets_settled ({ withLines (withCtx { ctx .sweeping with domains := [{ state := .failing, base := ⟨0, 1⟩, defective := ⟨0, 0⟩, assigned := ⟨0, 0⟩, failTotal := 1 }] }) cellLines with lists := { State.reset.lists with sweepQueue := [3] }, engine := { State.reset.engine with sweepPos := (some ⟨3, 0, .greedy, none, false⟩) } }) (by decide +kernel),
    meets_settled ({ withLines (withCtx { ctx .sweeping with domains := [{ state := .failing, base := ⟨0, 0⟩, defective := ⟨0, 0⟩, assigned := ⟨0, 0⟩, failTotal := 1 }] }) cellLines with lists := { State.reset.lists with sweepQueue := [3] }, engine := { State.reset.engine with sweepPos := (some ⟨3, 0, .greedy, none, false⟩) } }) (by decide +kernel),
    meets_settled ({ withLines (withCtx (ctx .sweeping)) [{ line .row 5 .candidate [9] with syndrome := 1 }] with lists := { State.reset.lists with sweepQueue := [3] }, engine := { State.reset.engine with sweepPos := (some ⟨3, 0, .greedy, none, false⟩) } }) (by decide +kernel),
    meets_settled ({ withLines (withCtx (ctx .sweeping)) [line .row 5 .candidate [9], { badColumn with state := .assigned .carried }] with lists := { State.reset.lists with sweepQueue := [3] }, engine := { State.reset.engine with sweepPos := (some ⟨3, 0, .greedy, none, false⟩) } }) (by exact ⟨by decide +kernel, by decide +kernel, firstBad_single rfl (by decide +kernel) (by decide)⟩)⟩

/-- SettleStepJudgesOneLine. -/
theorem test_settle_meets :
    (∃ s : State, s.Settled ∧ s.due = .settle ∧ s.engine.settleList = [⟨3, 0, none, true⟩]) ∧
    (∃ s : State, s.Settled ∧ s.due = .settle ∧ s.nextCandidate 3 0 none = some (line .row 5 .candidate [9]) ∧ s.overBudget (line .row 5 .candidate [9]) = false) ∧
    (∃ s : State, s.Settled ∧ s.due = .settle ∧ s.overBudget (line .row 5 .candidate [9]) = true ∧ 0 < s.available 3 0 .row ∧ keysRise s.store.lines) ∧
    (∃ s : State, s.Settled ∧ s.due = .settle ∧ s.nextCandidate 3 0 none = some (line .row 5 .candidate [9]) ∧ s.overBudget (line .row 5 .candidate [9]) = true ∧ 0 < s.available 3 0 .row ∧ s.firstBadPartner (line .row 5 .candidate [9]) badColumn) ∧
    (∃ s : State, s.Settled ∧ s.due = .settle ∧ s.overBudget (line .row 5 .candidate [9]) = true ∧ s.available 3 0 .row = 0) ∧
    (∃ s : State, s.Settled ∧ s.due = .settle ∧ s.reasonOf 3 = none ∧ s.store.lines.any (fun r => r.syndrome != 0) = true) :=
  ⟨meets_settled ({ withLines (withCtx (ctx .testing)) [] with engine := { State.reset.engine with settleList := [⟨3, 0, none, true⟩] } }) (by decide +kernel),
    meets_settled ({ withLines (withCtx (ctx .testing)) cellLines with engine := { State.reset.engine with settleList := [⟨3, 0, none, false⟩] } }) (by decide +kernel),
    meets_settled ({ withLines (withCtx { ctx .testing with domains := [{ state := .failing, base := ⟨1, 0⟩, defective := ⟨0, 0⟩, assigned := ⟨0, 0⟩, failTotal := 1 }] }) cellLines with engine := { State.reset.engine with settleList := [⟨3, 0, none, false⟩] } }) (by decide +kernel),
    meets_settled ({ withLines (withCtx { ctx .testing with domains := [{ state := .failing, base := ⟨1, 0⟩, defective := ⟨0, 0⟩, assigned := ⟨0, 0⟩, failTotal := 1 }] }) [line .row 5 .candidate [9], badColumn] with engine := { State.reset.engine with settleList := [⟨3, 0, none, false⟩] } }) (by exact ⟨by decide +kernel, by decide +kernel, by decide +kernel, by decide +kernel, firstBad_single rfl (by decide +kernel) (by decide)⟩),
    meets_settled ({ withLines (withCtx { ctx .testing with domains := [{ state := .failing, base := ⟨0, 0⟩, defective := ⟨0, 0⟩, assigned := ⟨0, 0⟩, failTotal := 1 }] }) cellLines with engine := { State.reset.engine with settleList := [⟨3, 0, none, false⟩] } }) (by decide +kernel),
    meets_settled ({ withLines (withCtx (ctx .testing)) [{ line .row 5 .candidate [9] with syndrome := 1 }] with engine := { State.reset.engine with settleList := [⟨3, 0, none, false⟩] } }) (by decide +kernel)⟩

/-- FailFramesAreCheckedAndFolded, EndHoldAndMarkerTaken: each site state, and a run just inside and just outside the geometry. -/
theorem test_intake_meets :
    (∃ s : State, s.Settled ∧ s.due = .intake 0 ∧ s.siteState (siteOf 0 3) ∈ [SiteState.vacant, .armed, .held]) ∧
    (∃ s : State, s.Settled ∧ s.due = .intake 0 ∧ s.siteState (siteOf 0 3) = .sweeping) ∧
    (∃ s : State, s.Settled ∧ s.due = .intake 0 ∧ s.reasonOf (siteOf 0 3) ≠ none) ∧
    (∃ s : State, s.Settled ∧ s.due = .intake 0 ∧ s.ctx (siteOf 0 3) = some (ctx .testing) ∧ geo.runInside 0 5 255 0 = true) ∧
    (∃ s : State, s.Settled ∧ s.due = .intake 0 ∧ geo.runInside 0 5 256 0 = false) ∧
    (∃ s : State, s.Settled ∧ s.due = .intake 0 ∧ s.ctx (siteOf 0 3) = some (ctx .draining)) ∧
    (∃ s : State, s.Settled ∧ s.due = .intake 0 ∧ s.siteState (siteOf 0 3) ∈ [SiteState.sweeping, .held]) ∧
    (∃ s : State, s.Settled ∧ s.due = .intake 0 ∧ s.siteState (siteOf 0 3) ∈ [SiteState.vacant, .armed, .testing]) ∧
    (∃ s : State, s.Settled ∧ s.due = .intake 0 ∧ (s.link 0).fifo = [.hold 31 true]) ∧
    (∃ s : State, s.Settled ∧ s.due = .intake 0 ∧ (s.link 0).fifo = [] ∧ (s.link 0).marker = true) :=
  ⟨meets_settled (up [.fail 3 0 5 255 0] 60 (inPhase .armed)) (by decide +kernel),
    meets_settled (up [.fail 3 0 5 255 0] 60 (inPhase .sweeping)) (by decide +kernel),
    meets_settled (up [.fail 3 0 5 255 0] 60 (withCtx { ctx .draining with reason := some .spill })) (by decide +kernel),
    meets_settled (up [.fail 3 0 5 255 0] 60 (inPhase .testing)) (by decide +kernel),
    meets_settled (up [.fail 3 0 5 256 0] 60 (inPhase .testing)) (by decide +kernel),
    meets_settled (up [.endFrame 3] 60 (inPhase .draining)) (by decide +kernel),
    meets_settled (up [.endFrame 3] 60 (inPhase .held)) (by decide +kernel),
    meets_settled (up [.endFrame 3] 60 (inPhase .testing)) (by decide +kernel),
    meets_settled (up [.hold 31 true] 60 State.reset) (by decide +kernel),
    meets_settled (State.reset.setLink 0 { Link.down with state := .faulted, marker := true }) (by decide +kernel)⟩

/-- FoldCountsCells, FoldJudgesRowSideFirst: the lines of the cell absent, CANDIDATE and ASSIGNED, the budgets met and exceeded, the demands that fail. -/
theorem test_fold_meets :
    ((inPhase .testing).domain? 3 0 = (freshDomains geo)[0]? ∧ (inPhase .testing).findLine ⟨3, 0, .row, 5⟩ = none) ∧
    ((withLines (inPhase .testing) cellLines).findLine ⟨3, 0, .row, 5⟩ = some (line .row 5 .candidate [9])) ∧
    ((withLines (inPhase .testing) [line .column 9 (.assigned .carried) []]).findLine ⟨3, 0, .column, 9⟩ = some (line .column 9 (.assigned .carried) [])) ∧
    ((withCtx { ctx .testing with quota := 1 }).inUse 3 + 2 > 1 ∧ 2 ≤ (inPhase .testing).freeCount) ∧
    ((withLines (inPhase .testing) (List.replicate 12287 (line .row 5 .candidate [9]))).freeCount < 2) ∧
    ((withLines (inPhase .testing) [line .row 5 .candidate [9], badColumn]).findLine ⟨3, 0, .row, 5⟩ = some (line .row 5 .candidate [9]) ∧ (withLines (inPhase .testing) [line .row 5 .candidate [9], badColumn]).findLine ⟨3, 0, .column, 9⟩ = some badColumn) ∧
    ((withCtx { ctx .testing with domains := [{ state := .failing, base := ⟨1, 0⟩, defective := ⟨0, 0⟩, assigned := ⟨0, 0⟩, failTotal := 1 }] }).available 3 0 .column = 0 ∧ 0 < (withCtx { ctx .testing with domains := [{ state := .failing, base := ⟨1, 0⟩, defective := ⟨0, 0⟩, assigned := ⟨0, 0⟩, failTotal := 1 }] }).available 3 0 .row) ∧
    ((withCtx { ctx .testing with domains := [{ state := .failing, base := ⟨0, 1⟩, defective := ⟨0, 0⟩, assigned := ⟨0, 0⟩, failTotal := 1 }] }).available 3 0 .row = 0 ∧ 0 + 1 ≤ (withCtx { ctx .testing with domains := [{ state := .failing, base := ⟨0, 1⟩, defective := ⟨0, 0⟩, assigned := ⟨0, 0⟩, failTotal := 1 }] }).available 3 0 .column) ∧
    ((inPhase .testing).available 3 0 .column = 2 ∧ ¬ ([7, 8].length + 1 ≤ 2) ∧ [7].length + 1 ≤ 2) ∧
    ((withCtx { ctx .testing with domains := [{ state := .failing, base := ⟨0, 0⟩, defective := ⟨0, 0⟩, assigned := ⟨0, 0⟩, failTotal := 1 }] }).available 3 0 .row = 0 ∧ (withCtx { ctx .testing with domains := [{ state := .failing, base := ⟨0, 0⟩, defective := ⟨0, 0⟩, assigned := ⟨0, 0⟩, failTotal := 1 }] }).stopsEarly 3) ∧
    ((inPhase .testing).store.lowWater ≤ 12288 ∧ (withLines (inPhase .testing) cellLines).store.low = lowJudged 12286 512 false) ∧
    (¬ (inPhase .draining).stopsEarly 3 ∧ ¬ (withCtx { ctx .testing with policy := .continue_ }).stopsEarly 3) := by
  and_intros <;> decide +kernel

/-- FoldJudgesRowSideFirst: a fold of the cell of row line 5 and column line 8 whose assignment meets a damaged partner. -/
theorem test_fold_lost_meets :
    ((withLines (withCtx { ctx .testing with domains := [{ state := .failing, base := ⟨1, 0⟩, defective := ⟨0, 0⟩, assigned := ⟨0, 0⟩, failTotal := 1 }] }) [line .row 5 .candidate [9], badColumn]).findLine ⟨3, 0, .row, 5⟩ = some (line .row 5 .candidate [9]) ∧ (withLines (withCtx { ctx .testing with domains := [{ state := .failing, base := ⟨1, 0⟩, defective := ⟨0, 0⟩, assigned := ⟨0, 0⟩, failTotal := 1 }] }) [line .row 5 .candidate [9], badColumn]).findLine ⟨3, 0, .column, 8⟩ = none) ∧
    ((withLines (withCtx { ctx .testing with domains := [{ state := .failing, base := ⟨1, 0⟩, defective := ⟨0, 0⟩, assigned := ⟨0, 0⟩, failTotal := 1 }] }) [line .row 5 .candidate [9], badColumn]).available 3 0 .column = 0 ∧ 0 < (withLines (withCtx { ctx .testing with domains := [{ state := .failing, base := ⟨1, 0⟩, defective := ⟨0, 0⟩, assigned := ⟨0, 0⟩, failTotal := 1 }] }) [line .row 5 .candidate [9], badColumn]).available 3 0 .row) ∧
    ((withLines (withCtx { ctx .testing with domains := [{ state := .failing, base := ⟨1, 0⟩, defective := ⟨0, 0⟩, assigned := ⟨0, 0⟩, failTotal := 1 }] }) [line .row 5 .candidate [9], badColumn]).firstBadPartner (line .row 5 .candidate [9]) badColumn) :=
  ⟨by decide +kernel,
    by decide +kernel,
    firstBad_single rfl (by decide +kernel) (by decide)⟩

/-- The clauses on shared functions: a notice for a site with and without an entry, an ascending list, the key order at its bounds, a record that can be written, an assembly that can begin, no access due, a domain with and without a record. -/
theorem test_shared_meet :
    ((∃ n ∈ [(⟨3, .spill, 7, false⟩ : Notice)], n.site = 3) ∧ ∀ n ∈ [(⟨3, .spill, 7, false⟩ : Notice)], n.site ≠ 255) ∧
    (noticePosted 3 .quota 9 [⟨3, .spill, 7, false⟩] = [⟨3, .spill, 7, true⟩] ∧ noticePosted 255 .quota 9 [⟨3, .spill, 7, false⟩] = [⟨3, .spill, 7, false⟩, ⟨255, .quota, 9, false⟩]) ∧
    (([5, 9] : List LineAddr).Pairwise (fun a b => a.toNat < b.toNat) ∧ crossInsert 7 [5, 9] = [5, 7, 9] ∧ ([0, 255] : List SiteNo).Pairwise (fun a b => a.val < b.val) ∧ memberInsert 255 [0, 255] = [0, 255]) ∧
    (Key.rank ⟨3, 0, .row, 65535⟩ < Key.rank ⟨3, 0, .column, 0⟩ ∧ Key.rank ⟨3, 0, .column, 65535⟩ < Key.rank ⟨3, 1, .row, 0⟩ ∧ Key.rank ⟨3, 15, .column, 65535⟩ < Key.rank ⟨4, 0, .row, 0⟩) ∧
    ((9 : Fin 16).val = 2 + (7 : HeadNo).val ∧ (2 : Fin 16).val = 2 + (0 : HeadNo).val ∧ axis? 2 = some .column) ∧
    (∃ e : Exporter, e.buffer = some ⟨3, [0, 0, 0, 4]⟩ ∧ e.writePos = none ∧ e.current = .held desc) ∧
    (∃ e : Exporter, e.collectionQueue = 3 :: [255] ∧ e.buffer = none ∧ e.assembling = none ∧ e.stall = none) ∧
    (State.reset.ex.writeBacks = [] ∧ State.reset.ex.fetchOrder = [] ∧ State.reset.ex.buffer = none ∧ State.reset.ex.collectionQueue = []) ∧
    (((inPhase .armed).domain? 3 0).isSome = true ∧ (inPhase .armed).domain? 3 15 = none) :=
  ⟨by decide +kernel,
    by decide +kernel,
    by decide +kernel,
    by decide +kernel,
    by decide +kernel,
    ⟨{ State.reset.ex with current := .held desc, buffer := some ⟨3, [0, 0, 0, 4]⟩ }, rfl, rfl, rfl⟩,
    ⟨{ State.reset.ex with collectionQueue := [3, 255] }, rfl, rfl, rfl, rfl⟩,
    by decide +kernel,
    by decide +kernel⟩

/-- FramesAreReceivedAsSent: a checked frame of each upstream kind, reserved bits set. -/
theorem test_frame_bytes_meet :
    (∀ b : Byte, b ∈ [(1 : Byte), 2, 3, 4] → (frameOf b 0xE3 0x5B 0x34 0x12 0xCD 0xFB).framingFault = false ∧ (frameOf b 0xE3 0x5B 0x34 0x12 0xCD 0xFB).bytes[7] = checkByte ((frameOf b 0xE3 0x5B 0x34 0x12 0xCD 0xFB).bytes.toList.take 7) ∧ (frameOf b 0xE3 0x5B 0x34 0x12 0xCD 0xFB).bytes[0] = b) ∧
    (commandOfFrame 7 (frameOf 2 0xE3 0x5B 0x34 0x12 0xCD 0xFB) = .failReceived 7 3 11 0x1234 0xBCD 5 ∧ commandOfFrame 7 (frameOf 4 0xE3 0x5B 0x34 0x12 0xCD 0xFB) = .holdReceived 7 3 true) := by
  and_intros <;> decide +kernel

/-- EventsFindDueWorkDone: a grant of each kind that is due; the intake items stand in test_intake_meets. -/
theorem test_due_rows_meet :
    (∃ s : State, s.due = .host .stage ∧ s.port.state = .running) ∧
    (∃ s : State, s.due = .host .abort) ∧
    (∃ s : State, s.due = .sweep ∧ s.lists.sweepQueue = [3]) ∧
    (∃ s : State, s.due = .settle) :=
  ⟨⟨pendingHost .stage [] State.reset, by decide +kernel, by decide +kernel⟩,
    ⟨pendingHost .abort [3] State.reset, by decide +kernel⟩,
    ⟨{ inPhase .sweeping with lists := { State.reset.lists with sweepQueue := [3] }, engine := { State.reset.engine with lastGroup := .intake } }, by decide +kernel, by decide +kernel⟩,
    ⟨{ inPhase .testing with engine := { State.reset.engine with settleList := [⟨3, 0, none, true⟩] } }, by decide +kernel⟩⟩

/-- PortWritesByState: the edges of the window words, and a port control value with both bits set. -/
theorem test_window_meets :
    (commandOfWrite 0x3C 7 = .requestBufferWrite 15 7 ∧ commandOfWrite 0x40 7 = .ignoredWrite 0x40 7 ∧ commandOfWrite 0x7C 7 = .ignoredWrite 0x7C 7) ∧
    (commandOfWrite 0x80 3 = .release ∧ commandOfWrite 0x80 1 = .go ∧ commandOfWrite 0x80 4 = .ignoredWrite 0x80 4) ∧
    (State.reset.readWindow 0x3C = 0 ∧ State.reset.readWindow 0x7C = 0 ∧ State.reset.due = .nothing) := by
  and_intros <;> decide +kernel

/-- The invariants hold of the reset state, from which every step keeps them. -/
theorem test_steps_meet :
    (State.reset.isHeld = false ∧ State.reset.due = .nothing ∧ State.reset.store.lines = []) ∧
    (∀ h : HeadNo, (State.reset.link h).ordered ∧ (State.reset.link h).timedInTraining) ∧
    (State.reset.LinesIndexed) ∧
    (State.reset.RequestAgrees) ∧
    ((pendingHost .stage [] State.reset).RequestAgrees) ∧
    (State.reset.QueuesAgree) :=
  ⟨by decide +kernel,
    fun h => by rw [show State.reset.link h = Link.down from by simp [State.link, State.reset, State.powerOn]]; exact ⟨down_ordered, by unfold Link.timedInTraining; decide +kernel⟩,
    ⟨List.Pairwise.nil, List.nodup_nil, fun r hr => absurd hr (List.not_mem_nil), Nat.zero_le _, ⟨by decide +kernel, by decide +kernel⟩, fun r hr => absurd hr (List.not_mem_nil), fun i x hx => by simp [State.site, State.reset, State.powerOn, Site.vacantSite] at hx⟩,
    ⟨by simp [State.reset, State.powerOn, Engine.idle], fun h => absurd rfl h⟩,
    ⟨by simp [pendingHost], fun _ _ => by simp [pendingHost, State.reset, State.powerOn, Engine.idle]⟩,
    ⟨List.nodup_nil, fun i => by simp [State.siteState, Site.state, State.site, State.reset, State.powerOn, Site.vacantSite], List.nodup_nil, fun i => by simp [State.siteState, Site.state, State.site, State.reset, State.powerOn, Site.vacantSite, Exporter.idle], fun r hr => by simp [State.reset, State.powerOn, Exporter.idle] at hr, fun i hi => by simp [State.reset, State.powerOn, Exporter.idle] at hi⟩⟩


end Sys2Proof.Tests
end

section
/-! What the training deadline follows: every operation but enabling, resetting, raising and faulting a link leaves each link's state and
training deadline as they are (R142, R144 to R146, R150). One lemma for each operation, tagged for `simp` and used by the next. -/

namespace Sys2Proof.Machine

/-! ### The timers of the links -/

/-- What the training deadline concerns of a link: its state and the deadline itself. -/
def Link.timer (l : Link) : LinkState × Option Nat := (l.state, l.trainingDeadline)

theorem timers_eq_iff (s t : State) : t.links.map Link.timer = s.links.map Link.timer ↔ ∀ h, (t.link h).timer = (s.link h).timer := by
  constructor
  · intro e h
    simpa [State.link] using congrArg (fun v => v[h.val]) e
  · intro e
    ext1 i hi
    simpa [State.link] using e ⟨i, hi⟩

section
variable (l : Link)

@[simp] theorem addDrain_timer (sl : SlotNo) : (l.addDrain sl).timer = l.timer := by
  unfold Link.addDrain
  split
  · split <;> rfl
  · rfl

@[simp] theorem popFrame_timer : l.popFrame.timer = l.timer := by
  unfold Link.popFrame
  simp only
  split <;> rfl

@[simp] theorem badFrameCredit_timer : l.badFrameCredit.timer = l.timer := by
  unfold Link.badFrameCredit; split <;> rfl

@[simp] theorem finished_timer (g : SlotSet) : (l.finished g).timer = l.timer := by
  have hg := congrArg Link.timer (handGate_keeps l g)
  have hd := congrArg Link.timer (takeDownlink_keeps (l.handGate g))
  exact hd.trans hg

end

/-- A change of one link that keeps its timer keeps every timer. -/
theorem modLink_timers (s : State) (h : HeadNo) (f : Link → Link) (hf : ∀ l, (f l).timer = l.timer) :
    (s.modLink h f).links.map Link.timer = s.links.map Link.timer := by
  rw [timers_eq_iff]
  intro k
  rw [modLink_link]
  split
  · rename_i e; rw [e, hf]
  · rfl

@[simp] theorem addCause_timers (s : State) (h : HeadNo) (c : LinkCause) : (s.addCause h c).links.map Link.timer = s.links.map Link.timer :=
  modLink_timers s h _ fun _ => rfl

@[simp] theorem finish_timers (s : State) : s.finish.links.map Link.timer = s.links.map Link.timer := by
  rw [timers_eq_iff]
  intro k
  rw [finish_link, finished_timer]

/-- Steps over a list keep what each step keeps. -/
theorem foldl_keeps {α β : Type} (g : State → β) (f : State → α → State) (hf : ∀ s a, g (f s a) = g s) (l : List α) (s : State) :
    g (l.foldl f s) = g s := by
  induction l generalizing s with
  | nil => rfl
  | cons a l ih => rw [List.foldl_cons, ih, hf]

@[simp] theorem more_state (s : State) : (Run.more s).state = s := rfl

@[simp] theorem halt_state (s : State) : (Run.halt s).state = s := rfl

/-- A run keeps the timers when both of its parts do. -/
theorem andThen_timers {s : State} {r : Run} {f : State → Run} (hr : r.state.links.map Link.timer = s.links.map Link.timer)
    (hf : ∀ t, (f t).state.links.map Link.timer = t.links.map Link.timer) :
    (r.andThen f).state.links.map Link.timer = s.links.map Link.timer := by
  cases r with
  | more t => exact (hf t).trans hr
  | halt t => exact hr

/-! ### Operations that do not touch the links -/

section
variable (s : State) (i : SiteNo)

@[simp] theorem coHold_links : (s.coHold i).links = s.links := by
  unfold State.coHold; split <;> rfl

@[simp] theorem coMark_links (l : List SiteNo) : (s.coMark l).links = s.links := by
  have flags := fun t => foldl_keeps State.links (fun s i => State.addFlag s i .coincident) (fun _ _ => rfl) l t
  have holds := fun t => foldl_keeps State.links (fun s i => State.coHold s i) coHold_links l t
  unfold State.coMark
  simp only
  split
  · exact flags s
  · exact (holds _).trans (flags s)

@[simp] theorem coAdded_links (n : Fin 128) (e : CoEntry) : (s.coAdded n i e).links = s.links := by
  unfold State.coAdded; split
  · simp
  · split <;> simp

@[simp] theorem coJoin_links (d : DomainNo) (a : Axis) (x : LineAddr) : (s.coJoin i d a x).links = s.links := by
  unfold State.coJoin
  split
  · rfl
  · simp only
    split
    · split
      · split <;> simp
      · rfl
    · split <;> simp

@[simp] theorem captureError_links (n : Nat) (a : Activity) : (s.captureError i n a).links = s.links := by
  unfold State.captureError; split <;> rfl

@[simp] theorem makeCurrent_links (x : Staged) (g : Geometry) : (s.makeCurrent i x g).links = s.links := by
  unfold State.makeCurrent
  exact foldl_keeps State.links (fun s e => State.carryIn s i e) (fun _ _ => rfl) x.carryIn _

@[simp] theorem promote_links : (s.promote i).links = s.links := by
  unfold State.promote
  split
  · rfl
  · simp only
    split
    · split <;> simp
    · simp

@[simp] theorem unuseTemplate_links : (s.unuseTemplate i).links = s.links := by
  unfold State.unuseTemplate; split <;> rfl

@[simp] theorem release_links : (s.release i).links = s.links := by
  simp [State.release]

@[simp] theorem flagTested_links (h : HeadNo) (f : QualityFlag) : (s.flagTested h f).links = s.links := by
  unfold State.flagTested
  refine foldl_keeps State.links _ (fun s i => ?_) (sitesOf h) s
  split <;> rfl

@[simp] theorem clearHeadHolds_links (h : HeadNo) : (s.clearHeadHolds h).links = s.links := by
  exact foldl_keeps State.links (fun s i => State.modSite s i fun x => { x with headHold := false }) (fun _ _ => rfl) (sitesOf h) s

@[simp] theorem linkLostCompletion_links (h : HeadNo) : (s.linkLostCompletion h).links = s.links := by
  unfold State.linkLostCompletion
  refine foldl_keeps State.links _ (fun s i => ?_) (sitesOf h) s
  split
  · split <;> rfl
  · rfl

@[simp] theorem concludeDomain_links (d : DomainNo) : (s.concludeDomain i d).links = s.links := by
  unfold State.concludeDomain
  simp only
  split
  · split <;> rfl
  · rfl

@[simp] theorem assignClaims_links (a : Activity) (k : Key) (o : Origin) : (s.assignClaims a k o).links = s.links := by
  unfold State.assignClaims
  simp only
  split
  · split <;> simp
  · split <;> simp

@[simp] theorem freeIfEmpty_links (k : Key) : (s.freeIfEmpty k).links = s.links := by
  unfold State.freeIfEmpty
  split
  · split <;> rfl
  · rfl

@[simp] theorem createAbsent_links (k : Key) : (s.createAbsent k).links = s.links := by
  unfold State.createAbsent; split <;> rfl

end

/-! ### The Site Controller -/

section
variable (s : State) (i : SiteNo)

@[simp] theorem enterDraining_timers : (s.enterDraining i).links.map Link.timer = s.links.map Link.timer := by
  unfold State.enterDraining
  exact modLink_timers _ _ _ fun l => addDrain_timer l _

@[simp] theorem moveLost_timers : (s.moveLost i).links.map Link.timer = s.links.map Link.timer := by
  unfold State.moveLost; split <;> simp

@[simp] theorem loseLines_timers (r : Reason) (w : NoticeReason) : (s.loseLines i r w).links.map Link.timer = s.links.map Link.timer := by
  simp [State.loseLines]

@[simp] theorem integrityFailure_timers (r : LineRec) (a : Activity) : (s.integrityFailure i r a).links.map Link.timer = s.links.map Link.timer := by
  simp [State.integrityFailure]

@[simp] theorem doom_timers : (s.doom i).links.map Link.timer = s.links.map Link.timer := by
  unfold State.doom
  simp only
  split <;> simp

@[simp] theorem loseDomain_timers (d : DomainNo) : (s.loseDomain i d).links.map Link.timer = s.links.map Link.timer := by
  simp [State.loseDomain]

@[simp] theorem linkLeftUp_timers (h : HeadNo) : (s.linkLeftUp h).links.map Link.timer = s.links.map Link.timer := by
  unfold State.linkLeftUp
  refine (modLink_timers _ h (fun l => { l with gateHanded := 0 }) fun _ => rfl).trans ?_
  simp

end

/-! ### Runs of the Repair Engine -/

section
variable (s : State)

@[simp] theorem readLine_timers (i : SiteNo) (a : Activity) (r : LineRec) :
    (s.readLine i a r).state.links.map Link.timer = s.links.map Link.timer := by
  unfold State.readLine; split <;> simp

@[simp] theorem uncross_timers (a : Activity) (k : Key) (x : LineAddr) : (s.uncross a k x).state.links.map Link.timer = s.links.map Link.timer := by
  unfold State.uncross
  simp only
  split
  · rfl
  · refine andThen_timers (readLine_timers ..) fun t => ?_
    split <;> rfl

@[simp] theorem uncrossAll_timers (a : Activity) (k : Key) (l : List LineAddr) :
    (State.uncrossAll a k l s).state.links.map Link.timer = s.links.map Link.timer := by
  induction l generalizing s with
  | nil => rfl
  | cons x l ih => exact andThen_timers (uncross_timers ..) ih

@[simp] theorem assign_timers (a : Activity) (o : Origin) (k : Key) (cross : List LineAddr) :
    (s.assign a o k cross).state.links.map Link.timer = s.links.map Link.timer := by
  unfold State.assign
  refine andThen_timers ((uncrossAll_timers ..).trans ?_) fun t => ?_
  · simp
  · simp

@[simp] theorem foldAssign_timers (k : Key) (cross : List LineAddr) : (s.foldAssign k cross).state.links.map Link.timer = s.links.map Link.timer := by
  unfold State.foldAssign; split
  · simp
  · simp

@[simp] theorem foldJudge_timers (kr kc : Key) : (s.foldJudge kr kc).state.links.map Link.timer = s.links.map Link.timer := by
  unfold State.foldJudge
  simp only
  split
  · exact andThen_timers (foldAssign_timers ..) fun t => by simp
  · split
    · simp
    · split
      · simp
      · simp

@[simp] theorem foldUncovered_timers (kr kc : Key) : (s.foldUncovered kr kc).state.links.map Link.timer = s.links.map Link.timer := by
  unfold State.foldUncovered
  simp only
  split
  · simp
  · simp
  · split <;> simp

@[simp] theorem readIfPresent_timers (i : SiteNo) (a : Activity) (k : Key) :
    (s.readIfPresent i a k).state.links.map Link.timer = s.links.map Link.timer := by
  unfold State.readIfPresent; split
  · rfl
  · simp

@[simp] theorem foldCell_timers (i : SiteNo) (d : DomainNo) (r c : LineAddr) :
    (s.foldCell i d r c).state.links.map Link.timer = s.links.map Link.timer := by
  unfold State.foldCell
  simp only
  split
  · rfl
  · refine andThen_timers (readIfPresent_timers ..) fun t => andThen_timers (readIfPresent_timers ..) fun u => ?_
    split
    · rfl
    · split
      · rfl
      · simp

@[simp] theorem foldRun_timers (i : SiteNo) (d : DomainNo) (r : LineAddr) (l : List LineAddr) :
    (State.foldRun i d r l s).state.links.map Link.timer = s.links.map Link.timer := by
  induction l generalizing s with
  | nil => rfl
  | cons c l ih => exact andThen_timers (foldCell_timers ..) ih

@[simp] theorem settleStep_timers : s.settleStep.links.map Link.timer = s.links.map Link.timer := by
  unfold State.settleStep
  split
  · rfl
  · split
    · rfl
    · refine andThen_timers (readLine_timers ..) fun t => ?_
      split
      · split
        · exact andThen_timers (assign_timers ..) fun _ => rfl
        · simp
      · rfl

@[simp] theorem sweepAssign_timers (o : Origin) (r : LineRec) (p : SweepPos) :
    (s.sweepAssign o r p).links.map Link.timer = s.links.map Link.timer := by
  simp [State.sweepAssign]

@[simp] theorem sweepGreedy_timers (p : SweepPos) : (s.sweepGreedy p).links.map Link.timer = s.links.map Link.timer := by
  unfold State.sweepGreedy
  simp only
  split
  · simp
  · split
    · simp
    · split
      · simp
      · split
        · split <;> simp
        · simp

@[simp] theorem sweepStop_timers (p : SweepPos) (r : LineRec) : (s.sweepStop p r).links.map Link.timer = s.links.map Link.timer := by
  unfold State.sweepStop
  split
  · simp
  · split <;> simp

@[simp] theorem sweepSettle_timers (p : SweepPos) : (s.sweepSettle p).links.map Link.timer = s.links.map Link.timer := by
  unfold State.sweepSettle
  split
  · simp
  · split
    · simp only
      split <;> simp
    · simp

@[simp] theorem sweepEnter_timers (p : SweepPos) : (s.sweepEnter p).links.map Link.timer = s.links.map Link.timer := by
  unfold State.sweepEnter; split <;> simp

@[simp] theorem sweepStep_timers : s.sweepStep.links.map Link.timer = s.links.map Link.timer := by
  unfold State.sweepStep
  split
  · rfl
  · split
    · simp
    · simp only
      split <;> simp

end

/-! ### Intake -/

section
variable (s : State) (h : HeadNo)

@[simp] theorem takeFail_timers (sl : SlotNo) (d : DomainNo) (r : LineAddr) (c : BitVec 12) (n : Fin 16) :
    (s.takeFail h sl d r c n).links.map Link.timer = s.links.map Link.timer := by
  have opened : ∀ x, (s.takeFailOpen h (siteOf h sl) x d r c n).links.map Link.timer = s.links.map Link.timer := fun x => by
    unfold State.takeFailOpen
    split
    · rfl
    · split <;> simp
  unfold State.takeFail
  split
  · simp
  · split <;> simp [opened]

@[simp] theorem takeEnd_timers (sl : SlotNo) : (s.takeEnd h sl).links.map Link.timer = s.links.map Link.timer := by
  unfold State.takeEnd; split <;> simp

@[simp] theorem takeHold_timers (sl : SlotNo) (on : Bool) : (s.takeHold h sl on).links.map Link.timer = s.links.map Link.timer := by
  simp [State.takeHold]

@[simp] theorem takeItem_timers : (s.takeItem h).links.map Link.timer = s.links.map Link.timer := by
  have popped := modLink_timers s h Link.popFrame popFrame_timer
  have unmarked := modLink_timers s h (fun l => { l with marker := false }) fun _ => rfl
  unfold State.takeItem
  split
  · rw [takeFail_timers, popped]
  · rw [takeEnd_timers, popped]
  · rw [takeHold_timers, popped]
  · split
    · rw [linkLostCompletion_links, unmarked]
    · rfl

end

/-! ### Requests -/

section
variable (s : State)

theorem onSite_timers (f : SiteNo → State × Reply) (hf : ∀ i, (f i).1.links.map Link.timer = s.links.map Link.timer) :
    (s.onSite f).1.links.map Link.timer = s.links.map Link.timer := by
  unfold State.onSite
  split
  · rfl
  · exact hf _

theorem onRecord_timers (e l n : Bool) (f : SiteNo → DomainNo → Axis → State × Reply)
    (hf : ∀ i d a, (f i d a).1.links.map Link.timer = s.links.map Link.timer) :
    (s.onRecord e l n f).1.links.map Link.timer = s.links.map Link.timer := by
  unfold State.onRecord
  split
  · rfl
  · split
    · split
      · rfl
      · exact hf _ _ _
    · rfl

@[simp] theorem armVacant_links (i : SiteNo) (x : Staged) (w : List ReplyWord) : (s.armVacant i x w).1.links = s.links := by
  unfold State.armVacant
  split
  · rfl
  · split
    · rfl
    · split
      · rfl
      · split
        · rfl
        · simp

@[simp] theorem lookupFailed_timers (i : SiteNo) (r : LineRec) : (s.lookupFailed i r).1.links.map Link.timer = s.links.map Link.timer := by
  simp [State.lookupFailed]

@[simp] theorem pinReply_links (k : Key) (b : Bool) (n : Nat) (c : Count16) : (pinReply s k b n c).1.links = s.links := by
  simp [pinReply]

@[simp] theorem pinPresent_timers (r : LineRec) : (s.pinPresent r).1.links.map Link.timer = s.links.map Link.timer := by
  have assigned := assign_timers s .lookup .pinned r.key r.cross
  unfold State.pinPresent
  split <;> rename_i e <;> rw [e] at assigned
  · exact assigned
  · simpa using assigned

@[simp] theorem pinAbsent_links (k : Key) : (s.pinAbsent k).1.links = s.links := by
  unfold State.pinAbsent; split <;> simp

@[simp] theorem retire_timers (r : LineRec) : (s.retire r).1.links.map Link.timer = s.links.map Link.timer := by
  have taken := uncrossAll_timers s .lookup r.key r.cross
  unfold State.retire
  split <;> rename_i e <;> rw [e] at taken
  · exact taken
  · simpa using taken

@[simp] theorem serveLookupLine_timers : (serveLookupLine s).1.links.map Link.timer = s.links.map Link.timer := by
  refine onRecord_timers _ _ _ _ _ fun i d a => ?_
  split
  · rfl
  · split <;> simp

@[simp] theorem serveListLines_timers : (serveListLines s).1.links.map Link.timer = s.links.map Link.timer := by
  have page : ∀ i d k, (s.listPage i d k).1.links.map Link.timer = s.links.map Link.timer := fun i d k => by
    unfold State.listPage
    simp only
    split <;> simp
  unfold serveListLines
  split
  · rfl
  · split
    · split
      · rfl
      · exact page _ _ _
    · rfl

@[simp] theorem servePinLine_timers : (servePinLine s).1.links.map Link.timer = s.links.map Link.timer := by
  refine onRecord_timers _ _ _ _ _ fun i d a => ?_
  simp only
  split
  · split <;> simp
  · split
    · simp
    · split
      · rfl
      · split <;> simp

@[simp] theorem serveRetireLine_timers : (serveRetireLine s).1.links.map Link.timer = s.links.map Link.timer := by
  refine onRecord_timers _ _ _ _ _ fun i d a => ?_
  split
  · rfl
  · split
    · simp
    · split <;> simp

@[simp] theorem serveMarkSpareDefective_timers : (serveMarkSpareDefective s).1.links.map Link.timer = s.links.map Link.timer := by
  refine onRecord_timers _ _ _ _ _ fun i d a => ?_
  split <;> simp

@[simp] theorem serveArm_links : (serveArm s).1.links = s.links := by
  unfold serveArm
  split
  · rfl
  · split <;> simp

@[simp] theorem serveStage_links : (serveStage s).1.links = s.links := by
  unfold serveStage
  split
  · rfl
  · split
    · simp
    · split <;> rfl

@[simp] theorem serveStartSites_links : (serveStartSites s).1.links = s.links := by
  unfold serveStartSites
  split
  · rfl
  · split
    · rfl
    · exact foldl_keeps State.links (fun t sl => State.startSite t (siteOf _ sl)) (fun _ _ => rfl) _ s

@[simp] theorem serveDisarm_timers : (serveDisarm s).1.links.map Link.timer = s.links.map Link.timer := by
  refine onSite_timers _ _ fun i => ?_
  split <;> simp [State.disarm]

@[simp] theorem serveClose_timers : (serveClose s).1.links.map Link.timer = s.links.map Link.timer := by
  refine onSite_timers _ _ fun i => ?_
  split <;> simp

@[simp] theorem serveAbort_timers : (serveAbort s).1.links.map Link.timer = s.links.map Link.timer := by
  refine onSite_timers _ _ fun i => ?_
  split <;> simp [abortReply]

@[simp] theorem serveHoldSite_timers : (serveHoldSite s).1.links.map Link.timer = s.links.map Link.timer := by
  refine onSite_timers _ _ fun i => ?_
  split <;> simp

@[simp] theorem serveClearTrip_links : (serveClearTrip s).1.links = s.links := by
  unfold serveClearTrip
  split
  · split
    · split
      · rfl
      · split <;> rfl
    · rfl
  · split <;> rfl
  · rfl
  · rfl

@[simp] theorem serveQueryLink_timers : (serveQueryLink s).1.links.map Link.timer = s.links.map Link.timer := by
  unfold serveQueryLink
  split
  · rfl
  · exact modLink_timers s _ (fun l => { l with causes := {} }) fun _ => rfl

/-- The requests that change no timer: all but LINK-ENABLE and LINK-RESET (R144, R158). -/
theorem serve_timers (r : Request) (he : r ≠ .linkEnable) (hr : r ≠ .linkReset) : (serve r s).1.links.map Link.timer = s.links.map Link.timer := by
  cases r <;> simp only [serve]
  case loadTemplate =>
    unfold serveLoadTemplate
    split
    · rfl
    · simp only
      split <;> rfl
  case queryTemplate => unfold serveQueryTemplate; split <;> rfl
  case unstage | releaseHold | querySite => exact onSite_timers _ _ fun _ => rfl
  case takeStopNotices | queryIntegrity | queryCoincidence | queryExport | queryPart | setAttention => rfl
  case setCoincidence =>
    unfold serveSetCoincidence
    simp only
    split
    · rfl
    · split <;> rfl
  case listCoincidence => unfold serveListCoincidence; split <;> rfl
  case giveExportChain =>
    unfold serveGiveExportChain
    simp only
    split
    · rfl
    · split
      · rfl
      · split <;> rfl
  case flushExport =>
    unfold serveFlushExport
    split
    · split <;> rfl
    · rfl
  case resumeExport => unfold serveResumeExport; split <;> rfl
  case abandonBuffer => unfold serveAbandonBuffer; split <;> rfl
  case setLimits => unfold serveSetLimits; split <;> rfl
  case linkEnable => exact absurd rfl he
  case linkReset => exact absurd rfl hr
  all_goals simp

end
end Sys2Proof.Machine
end

section
/-! Every command keeps the training deadline to TRAINING links alone (R142, R145): the operations above keep every timer, and the five that
change one leave its link timed as its new state asks. -/

namespace Sys2Proof.Machine

/-! ### Timed states -/

/-- Every link has a training deadline exactly while it is TRAINING (R142, R145). -/
def State.Timed (s : State) : Prop := ∀ h, (s.link h).timedInTraining

theorem timedInTraining_congr {l m : Link} (e : m.timer = l.timer) (hl : l.timedInTraining) : m.timedInTraining := by
  obtain ⟨hstate, hdeadline⟩ := Prod.mk.inj e
  rwa [Link.timedInTraining, hstate, hdeadline]

theorem timed_of_timers {s t : State} (e : t.links.map Link.timer = s.links.map Link.timer) (hs : s.Timed) : t.Timed :=
  fun h => timedInTraining_congr ((timers_eq_iff s t).mp e h) (hs h)

theorem linkState_of_timers {s t : State} (e : t.links.map Link.timer = s.links.map Link.timer) (h : HeadNo) :
    (t.link h).state = (s.link h).state :=
  congrArg Prod.fst ((timers_eq_iff s t).mp e h)

theorem modLink_timed {s : State} (hs : s.Timed) (h : HeadNo) (f : Link → Link) (hf : (f (s.link h)).timedInTraining) : (s.modLink h f).Timed := by
  intro k
  rw [modLink_link]
  split
  · exact hf
  · exact hs k

/-- A link that is not TRAINING and has no deadline is timed. -/
theorem timed_without_deadline {l : Link} (hs : l.state ≠ .training) (hd : l.trainingDeadline = none) : l.timedInTraining := by
  simp [Link.timedInTraining, hs, hd]

theorem down_timed : Link.down.timedInTraining := timed_without_deadline (by decide) rfl

/-- A timed link out of TRAINING has no deadline. -/
theorem Link.timedInTraining.deadline {l : Link} (hl : l.timedInTraining) (hs : l.state ≠ .training) : l.trainingDeadline = none := by
  simpa using mt hl.mp hs

theorem all_down_timed {s : State} (e : s.links = Vector.replicate 8 Link.down) : s.Timed := by
  intro h
  have hdown : s.link h = Link.down := by simp [State.link, e]
  rw [hdown]
  exact down_timed

/-! ### The operations that change a timer -/

section
variable {s : State} (hs : s.Timed) (h : HeadNo)
include hs

theorem startTraining_timed : (s.startTraining h).Timed :=
  modLink_timed (s := s.readClock) hs h _ (by simp [Link.timedInTraining])

theorem enterUp_timed (serial : BitVec 16) (slotCount : Byte) : (s.enterUp h serial slotCount).Timed := by
  unfold State.enterUp
  refine timed_of_timers (modLink_timers _ _ _ fun _ => rfl) (modLink_timed hs h _ ?_)
  exact timed_without_deadline nofun rfl

/-- A fault from UP: the link had no deadline (R150). -/
theorem linkFault_timed (hu : (s.link h).state = .up) : (s.linkFault h).Timed := by
  refine timed_of_timers (linkLeftUp_timers _ h) (modLink_timed hs h _ ?_)
  exact timed_without_deadline nofun ((hs h).deadline (by simp [hu]))

theorem trainingExpired_timed : (s.trainingExpired h).Timed := by
  unfold State.trainingExpired
  split
  · refine timed_of_timers ((addCause_timers ..).trans (addCause_timers ..)) (modLink_timed hs h _ ?_)
    exact timed_without_deadline nofun rfl
  · exact hs

theorem setDown_timed : (s.setLink h Link.down).Timed :=
  modLink_timed hs h (fun _ => Link.down) down_timed

theorem serveLinkReset_timed : (serveLinkReset s).1.Timed := by
  unfold serveLinkReset
  split
  · exact hs
  · simp only
    split
    · exact hs
    · refine setDown_timed (timed_of_timers (s := s) ?_ hs) _
      split <;> simp

theorem serveLinkEnable_timed : (serveLinkEnable s).1.Timed := by
  unfold serveLinkEnable
  split
  · exact hs
  · split
    · exact startTraining_timed hs _
    all_goals exact hs

theorem serve_timed (r : Request) : (serve r s).1.Timed := by
  by_cases he : r = .linkEnable
  · subst he; exact serveLinkEnable_timed hs
  · by_cases hr : r = .linkReset
    · subst hr; exact serveLinkReset_timed hs
    · exact timed_of_timers (serve_timers s r he hr) hs

/-! ### Events -/

theorem finish_timed : s.finish.Timed := timed_of_timers (finish_timers s) hs

/-- A grant keeps the links timed. -/
theorem perform_timed (d : Due) : (s.perform d).Timed := by
  cases d with
  | nothing => exact hs
  | host r => exact serve_timed (s := { s with engine := { s.engine with pendingHost := none } }) hs r
  | sweep => exact timed_of_timers (sweepStep_timers s) hs
  | settle => exact timed_of_timers (settleStep_timers s) hs
  | intake k => exact timed_of_timers (takeItem_timers s k) hs

theorem catchUp_timed : s.catchUp.Timed := by
  unfold State.catchUp
  split
  · exact hs
  · exact finish_timed (perform_timed hs _)

theorem atEvent_timed (f : State → State) (hf : ∀ t : State, t.Timed → (f t).Timed) : (s.atEvent f).Timed := by
  unfold State.atEvent
  split
  · exact hs
  · exact finish_timed (hf _ (catchUp_timed hs))

/-- An event whose effect keeps every timer. -/
theorem atEvent_timed_of_timers (f : State → State) (hf : ∀ t : State, (f t).links.map Link.timer = t.links.map Link.timer) : (s.atEvent f).Timed :=
  atEvent_timed hs f fun t ht => timed_of_timers (hf t) ht

theorem goWritten_timed : s.goWritten.Timed := by
  unfold State.goWritten
  split
  · simp only
    split
    · unfold State.route
      split
      · exact hs
      · exact serve_timed (s := { s with port := { s.port with state := .running } }) hs _
    · exact hs
  all_goals exact hs

theorem directRow_timed (r : Request) : (s.directRow r).Timed := by
  unfold State.directRow
  split
  · exact atEvent_timed hs _ fun _ ht => goWritten_timed ht
  · exact hs

theorem grantRow_timed (p : State → Due → Bool) : (s.grantRow p).Timed := by
  unfold State.grantRow
  split
  · exact catchUp_timed hs
  · exact hs

theorem receiveHello_timed (serial : BitVec 16) (slotCount level : Byte) : (s.receiveHello h serial slotCount level).Timed := by
  unfold State.receiveHello
  split
  · split
    · exact enterUp_timed hs h serial slotCount
    · exact timed_of_timers (addCause_timers ..) hs
  · exact timed_of_timers ((modLink_timers _ _ _ fun _ => by rfl).trans (addCause_timers ..)) hs
  all_goals exact hs

theorem receiveCounted_timed (f : UpFrame) : (s.receiveCounted h f).Timed := by
  unfold State.receiveCounted
  split
  · rename_i hu
    have counted : (s.modLink h fun l => { l with badCount := 0 }).links.map Link.timer = s.links.map Link.timer :=
      modLink_timers _ _ _ fun _ => by rfl
    simp only
    split
    · exact timed_of_timers ((modLink_timers _ _ _ fun _ => by rfl).trans counted) hs
    · have caused := ((addCause_timers _ h .faulted).trans (addCause_timers _ h .overrun)).trans counted
      exact linkFault_timed (timed_of_timers caused hs) h ((linkState_of_timers caused h).trans hu)
  all_goals exact hs

theorem receiveBad_timed : (s.receiveBad h).Timed := by
  unfold State.receiveBad
  split
  · exact timed_of_timers (addCause_timers ..) hs
  · rename_i hu
    have counted : (((s.addCause h .badFrame).flagTested h .suspect).modLink h fun l => { l with badCount := l.badCount + 1 }).links.map Link.timer
        = s.links.map Link.timer :=
      (modLink_timers _ _ _ fun _ => by rfl).trans (by simp)
    simp only
    split
    · exact timed_of_timers ((modLink_timers _ _ _ badFrameCredit_timer).trans counted) hs
    · have caused := (addCause_timers _ h .faulted).trans counted
      exact linkFault_timed (timed_of_timers caused hs) h ((linkState_of_timers caused h).trans hu)
  all_goals exact hs

theorem trainingPassed_timed : (s.trainingPassed h).Timed := by
  unfold State.trainingPassed
  split
  · exact trainingExpired_timed (s := s.clockAt _) hs h
  · exact hs

theorem softWordWritten_timed (v : Word) : (s.softWordWritten v).Timed := by
  unfold State.softWordWritten
  split
  · exact hs
  · split
    · split
      · exact hs
      · exact finish_timed (s := s.setSoftWord v) hs
    · split
      · exact all_down_timed rfl
      · exact finish_timed (s := s.catchUp.setSoftWord v) (catchUp_timed hs)

theorem powerOnRelease_timed : s.powerOnRelease.Timed := by
  unfold State.powerOnRelease
  split
  · exact finish_timed (s := { s with porHeld := false }) hs
  · exact hs

end

/-! ### Events that change no timer -/

section
variable (s : State)

@[simp] theorem drainPassed_links (i : SiteNo) : (s.drainPassed i).links = s.links := by
  unfold State.drainPassed
  split
  · split <;> rfl
  · rfl

@[simp] theorem busExpired_links : s.busExpired.links = s.links := by
  unfold State.busExpired; split <;> rfl

@[simp] theorem descriptorRead_links (data : Word) : (s.descriptorRead data).links = s.links := by
  unfold State.descriptorRead; split <;> rfl

@[simp] theorem recordWordIn_links : s.recordWordIn.links = s.links := by
  unfold State.recordWordIn State.recordWordDone
  split
  · split
    · simp only
      split <;> simp
    · rfl
  · rfl

@[simp] theorem statusWordIn_links : s.statusWordIn.links = s.links := by
  unfold State.statusWordIn State.writeBackDone
  split
  · split
    · simp only
      split <;> rfl
    · rfl
  · rfl

@[simp] theorem completeAssembly_timers : s.completeAssembly.links.map Link.timer = s.links.map Link.timer := by
  unfold State.completeAssembly
  split
  · rfl
  · simp only
    split
    · split <;> simp
    · rfl

@[simp] theorem workItemDone_links : s.workItemDone.links = s.links := by
  unfold State.workItemDone; split <;> rfl

@[simp] theorem releaseWritten_links : s.releaseWritten.links = s.links := by
  unfold State.releaseWritten; split <;> rfl

@[simp] theorem requestWordWritten_links (k : Fin 16) (v : Word) : (s.requestWordWritten k v).links = s.links := by
  unfold State.requestWordWritten; split <;> rfl

end

/-- Every command keeps the links timed (R142, R145). -/
theorem exec_timed {s : State} (hs : s.Timed) (c : Instr) : ∃ t, exec c s = .next t ∧ t.Timed := by
  cases c
  case powerOnReset => exact ⟨_, rfl, all_down_timed rfl⟩
  case powerOnResetRelease => exact ⟨_, rfl, powerOnRelease_timed hs⟩
  case softReset | softResetRelease => exact ⟨_, rfl, softWordWritten_timed hs _⟩
  case ack =>
    simp only [exec, execAck]
    split
    · exact ⟨_, rfl, hs⟩
    · exact ⟨_, rfl, atEvent_timed_of_timers hs _ fun _ => rfl⟩
  case go => exact ⟨_, rfl, atEvent_timed hs _ fun _ ht => goWritten_timed ht⟩
  case helloReceived => exact ⟨_, rfl, atEvent_timed hs _ fun _ ht => receiveHello_timed ht _ _ _ _⟩
  case failReceived | endReceived | holdReceived => exact ⟨_, rfl, atEvent_timed hs _ fun _ ht => receiveCounted_timed ht _ _⟩
  case badFrameReceived => exact ⟨_, rfl, atEvent_timed hs _ fun _ ht => receiveBad_timed ht _⟩
  case trainingDeadline => exact ⟨_, rfl, atEvent_timed hs _ fun _ ht => trainingPassed_timed ht _⟩
  case frameSent => exact ⟨_, rfl, atEvent_timed_of_timers hs _ fun t => modLink_timers t _ _ fun _ => rfl⟩
  case assemblyCompletion => exact ⟨_, rfl, atEvent_timed_of_timers hs _ completeAssembly_timers⟩
  case eos | ignoredWrite => exact ⟨_, rfl, atEvent_timed_of_timers hs _ fun _ => rfl⟩
  case requestBufferWrite | release | drainDeadline | busTimeout | descriptorReadAccepted | recordWordAccepted | writeBackAccepted
      | workItemComplete =>
    exact ⟨_, rfl, atEvent_timed_of_timers hs _ fun _ => by simp⟩
  case sweepStep | settleStep | failFrameTaken | endTaken | holdTaken | linkLostMarkerTaken => exact ⟨_, rfl, grantRow_timed hs _⟩
  case arm | disarm | abort | lookupLine | listLines | pinLine | retireLine | markSpareDefective => exact ⟨_, rfl, grantRow_timed hs _⟩
  case stage =>
    refine ⟨_, rfl, ?_⟩
    split
    · exact directRow_timed hs _
    · exact grantRow_timed hs _
  all_goals exact ⟨_, rfl, directRow_timed hs _⟩

end Sys2Proof.Machine
end

section
/-! The training deadline of a TRAINING link, and a valid HELLO before and after it (R145 to R147). -/

namespace Sys2Proof.Machine

/-! ### Ready states -/

/-- What is due looks at the reset inputs, the engine, the lists, and what the FIFOs and markers hold (R63 to R67). -/
theorem due_congr {s t : State} (hheld : t.isHeld = s.isHeld) (hengine : t.engine = s.engine) (hlists : t.lists = s.lists)
    (hfifo : ∀ h, (t.link h).fifo = (s.link h).fifo) (hmarker : ∀ h, (t.link h).marker = (s.link h).marker) : t.due = s.due := by
  simp only [State.due, State.nextGrant, State.backgroundDue, State.chooseHead, Link.isUrgent, Link.hasItem, hheld, hengine, hlists, hfifo, hmarker]

theorem modLink_due (s : State) (h : HeadNo) (f : Link → Link) (hfifo : (f (s.link h)).fifo = (s.link h).fifo)
    (hmarker : (f (s.link h)).marker = (s.link h).marker) : (s.modLink h f).due = s.due := by
  refine due_congr rfl rfl rfl (fun k => ?_) (fun k => ?_) <;> by_cases e : k = h
  · rw [e, modLink_link_self, hfifo]
  · rw [modLink_link, if_neg e]
  · rw [e, modLink_link_self, hmarker]
  · rw [modLink_link, if_neg e]

/-- The end of an event leaves a running part with nothing due ready. -/
theorem finish_ready {s : State} (hrun : s.isHeld = false) (hdue : s.due = .nothing) : s.finish.Ready :=
  ⟨by rw [finish_isHeld, hrun], by rw [finish_due, hdue], finish_settled s⟩

/-- An event without effect leaves a ready part as it is. -/
theorem Ready.atEvent_unchanged {s : State} (hs : s.Ready) {f : State → State} (hf : f s = s) : s.atEvent f = s := by
  rw [Ready.atEvent hs, hf, finish_of_settled hs.settled]

/-- A changed link that is not UP hands over and takes nothing. -/
theorem modLink_linksSettled {s : State} (hs : s.linksSettled) (h : HeadNo) (f : Link → Link) (hf : (f (s.link h)).state ≠ .up) :
    (s.modLink h f).linksSettled := by
  intro k
  by_cases e : k = h
  · subst e
    rw [modLink_link_self]
    exact finished_eq _ _ (fun hu => absurd hu hf) (fun hu => absurd hu hf)
  · have same : (s.modLink h f).link k = s.link k := by simp [modLink_link, e]
    have gates : (s.modLink h f).gateSet k = s.gateSet k := gateSet_congr (modLink_sites s h f) k (by rw [same])
    rw [same, gates, hs k]

theorem clockAt_frame (s : State) (d : Nat) : FrameBut [.clock] s (s.clockAt d) := by
  intro b hb
  cases b <;> simp_all [Block.same]

theorem modLink_frame (s : State) (h : HeadNo) (f : Link → Link) : FrameBut [.links] s (s.modLink h f) := by
  intro b hb
  cases b <;> simp_all [Block.same]

theorem modLink_modLink (s : State) (h : HeadNo) (f g : Link → Link) : (s.modLink h f).modLink h g = s.modLink h fun l => g (f l) := by
  simp [State.modLink, State.setLink, State.link]

/-! ### The deadline passes (R145) -/

/-- A TRAINING link whose deadline has passed: FAULTED, without a deadline, with its two causes (R145). -/
def Link.timedOut (l : Link) : Link :=
  { l with state := .faulted, trainingDeadline := none, causes := { l.causes with trainingTimeout := true, faulted := true } }

theorem trainingPassed_of_some {s : State} {h : HeadNo} {t : Nat} (hs : (s.link h).state = .training) (hd : (s.link h).trainingDeadline = some t) :
    s.trainingPassed h = (s.clockAt t).modLink h Link.timedOut := by
  have hc : ((s.clockAt t).link h).state = .training := hs
  simp only [State.trainingPassed, hd, State.trainingExpired, hc, if_true, State.addCause, modLink_modLink]
  rfl

theorem trainingPassed_of_none {s : State} {h : HeadNo} (hd : (s.link h).trainingDeadline = none) : s.trainingPassed h = s := by
  simp [State.trainingPassed, hd]

/-- A deadline that a link does not have does not pass. -/
theorem exec_trainingDeadline_of_none {s : State} {h : HeadNo} (hs : s.Ready) (hd : (s.link h).trainingDeadline = none) :
    exec (.trainingDeadline h) s = .next s :=
  congrArg _ (Ready.atEvent_unchanged hs (trainingPassed_of_none hd))

/-- A HELLO on a FAULTED link is discarded (R147). -/
theorem exec_helloReceived_of_faulted {s : State} {h : HeadNo} (hs : s.Ready) (hf : (s.link h).state = .faulted) (serial : BitVec 16)
    (slotCount level : Byte) : exec (.helloReceived h serial slotCount level) s = .next s :=
  congrArg _ (Ready.atEvent_unchanged hs (by simp [State.receiveHello, hf]))

/-- The deadline that passes faults the link, whose transmitter and queue have nothing to do (R145). -/
theorem trainingDeadline_faults {s : State} {h : HeadNo} {t : Nat} (hs : s.Ready) (htr : (s.link h).state = .training)
    (hd : (s.link h).trainingDeadline = some t) :
    ∃ u, exec (.trainingDeadline h) s = .next u ∧ u.Ready ∧ s.Happens u [.links, .clock] ∧
      u.link h = (s.link h).timedOut ∧ ∀ k, k ≠ h → u.link k = s.link k := by
  have effect := trainingPassed_of_some htr hd
  have settled : (s.trainingPassed h).linksSettled := by
    rw [effect]
    exact modLink_linksSettled (linksSettled_congr (t := s.clockAt t) hs.settled.linksSettled rfl rfl) h _ nofun
  have rest : (s.trainingPassed h).ex.atRest := by
    rw [effect]
    exact hs.settled.exportAtRest
  have due : (s.trainingPassed h).due = .nothing := by
    rw [effect, modLink_due _ h _ rfl rfl]
    exact hs.idle
  have held : (s.trainingPassed h).isHeld = false := by
    rw [effect]
    exact hs.running
  have frame : FrameBut [.clock, .links] s (s.trainingPassed h) := by
    rw [effect]
    exact (clockAt_frame s t).trans (modLink_frame _ h _)
  have sources : (s.trainingPassed h).att = s.att := by
    rw [effect]
    rfl
  refine ⟨(s.trainingPassed h).finish, congrArg Host.Outcome.next (Ready.atEvent hs _), finish_ready held due,
    ⟨finish_sources fun _ _ _ => by rw [sources], (frame.trans (finish_frame_quiet settled rest)).mono (by simp)⟩, ?_, fun k hk => ?_⟩
  · rw [finish_link, settled h, effect]
    exact modLink_link_self ..
  · rw [finish_link, settled k, effect, modLink_link, if_neg hk]
    rfl

/-! ### A valid HELLO (R146) -/

theorem enterUp_timer (s : State) (h : HeadNo) (serial : BitVec 16) (slotCount : Byte) :
    ((s.enterUp h serial slotCount).link h).timer = (.up, none) := by
  simp [State.enterUp, Link.timer]

theorem enterUp_due (s : State) (h : HeadNo) (serial : BitVec 16) (slotCount : Byte) : (s.enterUp h serial slotCount).due = s.due :=
  (modLink_due _ h _ (by rfl) (by rfl)).trans (modLink_due s h _ (by rfl) (by rfl))

/-- A valid HELLO brings a TRAINING link UP and drops its deadline (R146). -/
theorem helloReceived_raises {s : State} {h : HeadNo} {serial : BitVec 16} {slotCount level : Byte} (hs : s.Ready)
    (htr : (s.link h).state = .training) (hv : helloValid slotCount level = true) :
    ∃ u, exec (.helloReceived h serial slotCount level) s = .next u ∧ u.Ready ∧ (u.link h).state = .up ∧ (u.link h).trainingDeadline = none := by
  have effect : s.receiveHello h serial slotCount level = s.enterUp h serial slotCount := by simp [State.receiveHello, htr, hv]
  have timer : ((s.enterUp h serial slotCount).finish.link h).timer = (.up, none) :=
    ((timers_eq_iff _ _).mp (finish_timers _) h).trans (enterUp_timer s h serial slotCount)
  obtain ⟨state, deadline⟩ := Prod.mk.inj timer
  refine ⟨(s.enterUp h serial slotCount).finish, ?_, finish_ready hs.running ((enterUp_due ..).trans hs.idle), state, deadline⟩
  exact congrArg _ ((Ready.atEvent hs _).trans (congrArg _ effect))

end Sys2Proof.Machine

open Sys2Proof Sys2Proof.Machine

/-- Settles O42: the deadline's effect and both orders with a valid HELLO from the two lemmas of each event; that no step leaves a deadline on
a link out of TRAINING from the invariant that every command keeps. -/
theorem trainingDeadlineFaultsTheLink : Obligations.TrainingDeadlineFaultsTheLink := by
  unfold Obligations.TrainingDeadlineFaultsTheLink
  refine ⟨fun s h t hs htr hd => ?_, fun s h hs hd => exec_trainingDeadline_of_none hs hd,
    fun s h serial slotCount level hs htr hl h1 h32 => ?_, fun c s t hs hst h hn => ?_⟩
  · obtain ⟨u, run, ready, happens, faulted, others⟩ := trainingDeadline_faults hs htr hd
    have state : (u.link h).state = .faulted := by rw [faulted]; rfl
    exact ⟨u, run, happens, faulted, others, exec_helloReceived_of_faulted ready state⟩
  · have valid : helloValid slotCount level = true := by simp [helloValid, hl, h1, h32]
    obtain ⟨u, run, ready, state, deadline⟩ := helloReceived_raises (serial := serial) hs htr valid
    exact ⟨u, run, state, deadline, exec_trainingDeadline_of_none ready deadline⟩
  · obtain ⟨u, run, timed⟩ := exec_timed (fun k => (hs k).1) c
    obtain rfl : u = t := Host.Outcome.next.inj (run.symm.trans hst)
    exact (timed h).deadline hn

end

section
/-! What QUERY-PART answers: the counts, the link states and the engine state of the owning blocks (R180). -/

namespace Sys2Proof.Machine

/-- The links, listed in the order of their heads. -/
theorem links_toList (s : State) : s.links.toList = List.ofFn s.link := by
  refine List.ext_getElem (by simp) fun n hlinks hheads => ?_
  rw [Vector.getElem_toList, List.getElem_ofFn]
  rfl

/-- QUERY-PART leaves the state and reads, word by word, the store, the links of heads 0 to 7, the engine with its queues, and the
Stop Notices (R180). -/
theorem serveQueryPart_eq (s : State) : serveQueryPart s =
    (s, { status := .done, words :=
      [[.num (12288 - s.store.lines.length), .flag s.store.low],
       (List.ofFn s.link).map fun l => .linkState l.state,
       [.engineState s.ex.engineState, .num s.ex.collectionQueue.length, .num s.lists.sweepQueue.length],
       [.num s.lists.stopNotices.length]] }) := by
  rw [serveQueryPart, links_toList]
  rfl

end Sys2Proof.Machine

open Sys2Proof Sys2Proof.Machine

/-- Settles O13: the owner answers from the blocks as the GO found them, and a request whose service changes nothing leaves all but the reply. -/
theorem queryPartReadsTheBlocks : Obligations.QueryPartReadsTheBlocks := by
  unfold Obligations.QueryPartReadsTheBlocks
  intro s hs
  have served : serve .queryPart s.served = _ := serveQueryPart_eq s.served
  exact ⟨_, congrArg Host.Outcome.next (hs.directRow served), hs.unchanged served⟩

end

section
/-! Every command answers with a next state, leaves the queue alone and keeps every link in order (R153); a running part is settled after every
command (log entry 12). -/

namespace Sys2Proof.Machine

/-! ### What a command leaves -/

/-- The state that a command leaves is the one it found, one held in reset, or one at the end of an event. -/
def State.Leaves (s t : State) : Prop := t = s ∨ t.isHeld = true ∨ ∃ m : State, t = m.finish

section
variable (s : State)

theorem catchUp_leaves : s.Leaves s.catchUp := by
  unfold State.catchUp
  split
  · exact .inl rfl
  · exact .inr (.inr ⟨_, rfl⟩)

theorem atEvent_leaves (f : State → State) : s.Leaves (s.atEvent f) := by
  unfold State.atEvent
  split
  · exact .inl rfl
  · exact .inr (.inr ⟨_, rfl⟩)

theorem grantRow_leaves (p : State → Due → Bool) : s.Leaves (s.grantRow p) := by
  unfold State.grantRow
  split
  · exact catchUp_leaves s
  · exact .inl rfl

theorem directRow_leaves (r : Request) : s.Leaves (s.directRow r) := by
  unfold State.directRow
  split
  · exact atEvent_leaves s _
  · exact .inl rfl

theorem softWordWritten_leaves (v : Word) : s.Leaves (s.softWordWritten v) := by
  unfold State.softWordWritten
  split
  · exact .inl rfl
  · split
    · split
      · rename_i hv
        exact .inr (.inl (by simp [State.isHeld, State.setSoftWord, hv]))
      · exact .inr (.inr ⟨_, rfl⟩)
    · split
      · rename_i hv
        exact .inr (.inl (by simp [State.isHeld, State.setSoftWord, hv]))
      · exact .inr (.inr ⟨_, rfl⟩)

theorem powerOnRelease_leaves : s.Leaves s.powerOnRelease := by
  unfold State.powerOnRelease
  split
  · exact .inr (.inr ⟨_, rfl⟩)
  · exact .inl rfl

end

/-- No command stops the part, and each leaves what an event leaves. -/
theorem exec_leaves (c : Instr) (s : State) : ∃ t, exec c s = .next t ∧ s.Leaves t := by
  cases c
  case powerOnReset => exact ⟨_, rfl, .inr (.inl rfl)⟩
  case powerOnResetRelease => exact ⟨_, rfl, powerOnRelease_leaves s⟩
  case softReset | softResetRelease => exact ⟨_, rfl, softWordWritten_leaves s _⟩
  case ack =>
    simp only [exec, execAck]
    split
    · rename_i held
      exact ⟨_, rfl, .inr (.inl held)⟩
    · exact ⟨_, rfl, atEvent_leaves s _⟩
  case stage =>
    refine ⟨_, rfl, ?_⟩
    split
    · exact directRow_leaves s _
    · exact grantRow_leaves s _
  case sweepStep | settleStep | failFrameTaken | endTaken | holdTaken | linkLostMarkerTaken => exact ⟨_, rfl, grantRow_leaves s _⟩
  case arm | disarm | abort | lookupLine | listLines | pinLine | retireLine | markSpareDefective => exact ⟨_, rfl, grantRow_leaves s _⟩
  case go | release | eos | ignoredWrite | requestBufferWrite | helloReceived | failReceived | endReceived | holdReceived | badFrameReceived
      | trainingDeadline | drainDeadline | busTimeout | frameSent | descriptorReadAccepted | recordWordAccepted | writeBackAccepted
      | assemblyCompletion | workItemComplete => exact ⟨_, rfl, atEvent_leaves s _⟩
  all_goals exact ⟨_, rfl, directRow_leaves s _⟩

/-- What a running part finds settled it leaves settled. -/
theorem State.Leaves.settled {s t : State} (left : s.Leaves t) (hs : s.isHeld = false → s.Settled) (ht : t.isHeld = false) : t.Settled := by
  obtain rfl | held | ⟨m, rfl⟩ := left
  · exact hs ht
  · rw [held] at ht; cases ht
  · exact finish_settled m

/-! ### What the effect of each event keeps -/

section
variable (s : State)

theorem kept_refl : Kept s s := ⟨rfl, rfl, rfl, fun _ o => o⟩

/-- An effect on the Command Port but for the soft-reset word, on the engine, the Attention Unit or the Export Engine. -/
theorem kept_of_links {s t : State} (hpower : t.porHeld = s.porHeld) (hsoft : t.port.softWord = s.port.softWord) (hqueue : t.pending = s.pending)
    (hlinks : t.links = s.links) : Kept s t :=
  ⟨hpower, hsoft, hqueue, fun h o => by rwa [State.link, hlinks]⟩

theorem goWritten_kept : Kept s s.goWritten := by
  unfold State.goWritten
  split
  · simp only
    split
    · rename_i r _
      unfold State.route
      split
      · exact kept_of_links rfl rfl rfl rfl
      · have within := serve_within r { s with port := { s.port with state := .running } }
        exact Kept.trans (t := { s with port := { s.port with state := .running } }) (kept_of_links rfl rfl rfl rfl)
          ((Kept.of within).trans (kept_of_links rfl rfl rfl rfl))
    · exact kept_of_links rfl rfl rfl rfl
  all_goals exact kept_of_links rfl rfl rfl rfl

theorem releaseWritten_kept : Kept s s.releaseWritten := by
  unfold State.releaseWritten
  split <;> exact kept_of_links rfl rfl rfl rfl

theorem requestWordWritten_kept (k : Fin 16) (v : Word) : Kept s (s.requestWordWritten k v) := by
  unfold State.requestWordWritten
  split <;> exact kept_of_links rfl rfl rfl rfl

theorem ackRead_kept : Kept s s.ackRead := by
  unfold State.ackRead
  exact kept_of_links rfl rfl rfl rfl

theorem endService_kept : Kept s { s with att := s.att.endService } := kept_of_links rfl rfl rfl rfl

theorem workItemDone_kept : Kept s s.workItemDone := by
  unfold State.workItemDone
  split <;> exact kept_of_links rfl rfl rfl rfl

theorem busExpired_kept : Kept s s.busExpired := by
  unfold State.busExpired
  split <;> exact kept_of_links rfl rfl rfl rfl

theorem descriptorRead_kept (data : Word) : Kept s (s.descriptorRead data) := by
  unfold State.descriptorRead
  split <;> exact kept_of_links rfl rfl rfl rfl

theorem statusWordIn_kept : Kept s s.statusWordIn := by
  unfold State.statusWordIn State.writeBackDone
  split
  · split
    · simp only
      split <;> exact kept_of_links rfl rfl rfl rfl
    · exact kept_of_links rfl rfl rfl rfl
  · exact kept_refl s

theorem recordWordIn_kept : Kept s s.recordWordIn := by
  unfold State.recordWordIn State.recordWordDone
  split
  · split
    · rename_i r n _ _
      simp only
      split
      · exact kept_of_links rfl rfl rfl rfl
      · have cleared : Kept s s.clearAccess := kept_of_links rfl rfl rfl rfl
        exact (cleared.trans (Kept.of (release_within _ r.site))).trans (kept_of_links rfl rfl rfl rfl)
    · exact kept_of_links rfl rfl rfl rfl
  · exact kept_refl s

theorem completeAssembly_kept : Kept s s.completeAssembly := by
  unfold State.completeAssembly
  split
  · exact kept_refl s
  · simp only
    split
    · split
      · exact Kept.of ((integrityFailure_within ..).trans (link_congr_within rfl rfl rfl rfl rfl))
      · exact kept_of_links rfl rfl rfl rfl
    · exact kept_of_links rfl rfl rfl rfl

theorem drainPassed_kept (i : SiteNo) : Kept s (s.drainPassed i) := by
  unfold State.drainPassed
  split
  · split
    · exact kept_of_links rfl rfl rfl rfl
    · exact kept_refl s
  · exact kept_refl s

/-- A change of one link that keeps it in order. -/
theorem modLink_kept (h : HeadNo) (f : Link → Link) (hf : (s.link h).ordered → (f (s.link h)).ordered) : Kept s (s.modLink h f) :=
  Kept.of (modLink_within s h f hf)

theorem frameDone_kept (h : HeadNo) : Kept s (s.frameDone h) := by
  refine modLink_kept s h _ fun ⟨law, quiet, empty⟩ => ⟨law, fun hn => ?_, empty⟩
  obtain ⟨gate, credit, drains, _, balance⟩ := quiet hn
  exact ⟨gate, credit, drains, rfl, balance⟩

theorem enterUp_kept (h : HeadNo) (serial : BitVec 16) (slotCount : Byte) (htr : (s.link h).state = .training) :
    Kept s (s.enterUp h serial slotCount) := by
  unfold State.enterUp
  refine (modLink_kept s h _ fun o => ?_).trans (modLink_kept _ h _ fun o => ?_)
  · have empty := (o.2.2 (.inr htr)).1
    exact ⟨fun _ => by simp [Link.pendingCredit, empty], nofun, nofun⟩
  · have up : ((s.modLink h fun l =>
        { l with state := .up, trainingDeadline := none, serial, slotCount := slotCount.toNat, balance := 0, badCount := 0,
                 downCredit := some Config.linkCredits, causes := l.causes.add .upReached }).link h).state = .up := by simp
    exact ⟨o.1, fun hn => absurd up hn, o.2.2⟩

theorem badCount_kept (h : HeadNo) (n : Link → Nat) : Kept s (s.modLink h fun l => { l with badCount := n l }) := modLink_kept s h _ fun o => o

theorem addCause_kept (h : HeadNo) (c : LinkCause) : Kept s (s.addCause h c) := Kept.of (addCause_within s h c)

theorem linkFault_kept (h : HeadNo) : Kept s (s.linkFault h) := Kept.of (linkFault_within s h)

theorem receiveHello_kept (h : HeadNo) (serial : BitVec 16) (slotCount level : Byte) : Kept s (s.receiveHello h serial slotCount level) := by
  unfold State.receiveHello
  split
  · rename_i htr
    split
    · exact enterUp_kept s h serial slotCount htr
    · exact addCause_kept s h _
  · exact (addCause_kept s h _).trans (badCount_kept _ h fun _ => 0)
  all_goals exact kept_refl s

/-- A frame taken against a credit: one more in the FIFO, one less in the balance (R149, R153). -/
theorem placed_kept (h : HeadNo) (f : UpFrame) (hu : (s.link h).state = .up) (hb : 0 < (s.link h).balance) :
    Kept s (s.modLink h fun l => { l with balance := l.balance - 1, fifo := l.fifo ++ [f] }) := by
  refine modLink_kept s h _ fun o => ⟨fun _ => ?_, fun hn => absurd hu hn, fun hd => ?_⟩
  · have law := o.1 hu
    simp only [List.length_append, List.length_singleton, Link.pendingCredit] at law ⊢
    omega
  · simp only [hu, reduceCtorEq, or_self] at hd

theorem receiveCounted_kept (h : HeadNo) (f : UpFrame) : Kept s (s.receiveCounted h f) := by
  unfold State.receiveCounted
  split
  · rename_i hu
    have good := badCount_kept s h fun _ => 0
    have up : ((s.modLink h fun l => { l with badCount := 0 }).link h).state = .up := by simpa using hu
    simp only
    split
    · rename_i hb
      exact good.trans (placed_kept _ h f up hb)
    · exact ((good.trans (addCause_kept _ h _)).trans (addCause_kept _ h _)).trans (linkFault_kept _ h)
  all_goals exact kept_refl s

theorem receiveBad_kept (h : HeadNo) : Kept s (s.receiveBad h) := by
  unfold State.receiveBad
  split
  · exact addCause_kept s h _
  · rename_i hu
    have bad : Kept s ((s.addCause h .badFrame).flagTested h .suspect) :=
      (addCause_kept s h _).trans (Kept.of (flagTested_within _ h _))
    have up : (((s.addCause h .badFrame).flagTested h .suspect).link h).state = .up := by
      simpa [State.link, flagTested_links, State.addCause, State.modLink, State.setLink] using hu
    have counted := bad.trans (badCount_kept _ h fun l => l.badCount + 1)
    simp only
    split
    · exact counted.trans (modLink_kept _ h _ (badFrameCredit_ordered _ (by simpa using up)))
    · exact (counted.trans (addCause_kept _ h _)).trans (linkFault_kept _ h)
  all_goals exact kept_refl s

theorem trainingPassed_kept (h : HeadNo) : Kept s (s.trainingPassed h) := by
  unfold State.trainingPassed State.trainingExpired
  split
  · rename_i t _
    have clock : Kept s (s.clockAt t) := kept_of_links rfl rfl rfl rfl
    split
    · rename_i htr
      refine (clock.trans (modLink_kept _ h _ fun o => ?_)).trans ((addCause_kept _ h _).trans (addCause_kept _ h _))
      exact ⟨nofun, fun _ => o.2.1 (by simp [htr]), nofun⟩
    · exact clock
  · exact kept_refl s

theorem atEvent_kept (f : State → State) (hf : ∀ t, Kept t (f t)) : Kept s (s.atEvent f) := by
  unfold State.atEvent
  split
  · exact kept_refl s
  · exact ((catchUp_kept s).trans (hf _)).trans (finish_kept _)

theorem grantRow_kept (p : State → Due → Bool) : Kept s (s.grantRow p) := by
  unfold State.grantRow
  split
  · exact catchUp_kept s
  · exact kept_refl s

theorem directRow_kept (r : Request) : Kept s (s.directRow r) := by
  unfold State.directRow
  split
  · exact atEvent_kept s _ goWritten_kept
  · exact kept_refl s

end

/-- From s to t the queue stays and the links, if they were in order, still are. -/
structure State.Orderly (s t : State) : Prop where
  queue : t.pending = s.pending
  links : (∀ h, (s.link h).ordered) → ∀ h, (t.link h).ordered

theorem Kept.orderly {s t : State} (k : Kept s t) : s.Orderly t := ⟨k.pending, fun o h => k.links h (o h)⟩

theorem all_down_ordered {s : State} (e : s.links = Vector.replicate 8 Link.down) (h : HeadNo) : (s.link h).ordered := by
  have down : s.link h = Link.down := by simp [State.link, e]
  rw [down]
  exact down_ordered

theorem softWordWritten_orderly (s : State) (v : Word) : s.Orderly (s.softWordWritten v) := by
  have written (t : State) : t.Orderly (t.setSoftWord v).finish :=
    have k := finish_kept (t.setSoftWord v)
    ⟨k.pending, fun o h => k.links h (o h)⟩
  unfold State.softWordWritten
  split
  · exact (kept_refl s).orderly
  · split
    · split
      · exact ⟨rfl, fun o => o⟩
      · exact written s
    · split
      · exact ⟨(catchUp_kept s).pending, fun _ => all_down_ordered rfl⟩
      · exact ⟨(written _).queue.trans (catchUp_kept s).pending, fun o => (written _).links fun h => (catchUp_kept s).links h (o h)⟩

theorem powerOnRelease_orderly (s : State) : s.Orderly s.powerOnRelease := by
  unfold State.powerOnRelease
  split
  · have k := finish_kept { s with porHeld := false }
    exact ⟨k.pending, fun o h => k.links h (o h)⟩
  · exact (kept_refl s).orderly

/-- No command touches the queue, and every one keeps the links in order (R153, log entry 3). -/
theorem exec_orderly (c : Instr) (s : State) : ∃ t, exec c s = .next t ∧ s.Orderly t := by
  cases c
  case powerOnReset => exact ⟨_, rfl, rfl, fun _ => all_down_ordered rfl⟩
  case powerOnResetRelease => exact ⟨_, rfl, powerOnRelease_orderly s⟩
  case softReset | softResetRelease => exact ⟨_, rfl, softWordWritten_orderly s _⟩
  case ack =>
    simp only [exec, execAck]
    split
    · exact ⟨_, rfl, rfl, fun o => o⟩
    · exact ⟨_, rfl, (atEvent_kept s _ ackRead_kept).orderly⟩
  case stage =>
    refine ⟨_, rfl, ?_⟩
    split
    · exact (directRow_kept s _).orderly
    · exact (grantRow_kept s _).orderly
  case sweepStep | settleStep | failFrameTaken | endTaken | holdTaken | linkLostMarkerTaken => exact ⟨_, rfl, (grantRow_kept s _).orderly⟩
  case arm | disarm | abort | lookupLine | listLines | pinLine | retireLine | markSpareDefective => exact ⟨_, rfl, (grantRow_kept s _).orderly⟩
  case go => exact ⟨_, rfl, (atEvent_kept s _ goWritten_kept).orderly⟩
  case release => exact ⟨_, rfl, (atEvent_kept s _ releaseWritten_kept).orderly⟩
  case eos => exact ⟨_, rfl, (atEvent_kept s _ endService_kept).orderly⟩
  case ignoredWrite => exact ⟨_, rfl, (atEvent_kept s _ kept_refl).orderly⟩
  case requestBufferWrite => exact ⟨_, rfl, (atEvent_kept s _ fun t => requestWordWritten_kept t _ _).orderly⟩
  case helloReceived => exact ⟨_, rfl, (atEvent_kept s _ fun t => receiveHello_kept t _ _ _ _).orderly⟩
  case failReceived | endReceived | holdReceived => exact ⟨_, rfl, (atEvent_kept s _ fun t => receiveCounted_kept t _ _).orderly⟩
  case badFrameReceived => exact ⟨_, rfl, (atEvent_kept s _ fun t => receiveBad_kept t _).orderly⟩
  case trainingDeadline => exact ⟨_, rfl, (atEvent_kept s _ fun t => trainingPassed_kept t _).orderly⟩
  case drainDeadline => exact ⟨_, rfl, (atEvent_kept s _ fun t => drainPassed_kept t _).orderly⟩
  case busTimeout => exact ⟨_, rfl, (atEvent_kept s _ busExpired_kept).orderly⟩
  case frameSent => exact ⟨_, rfl, (atEvent_kept s _ fun t => frameDone_kept t _).orderly⟩
  case descriptorReadAccepted => exact ⟨_, rfl, (atEvent_kept s _ fun t => descriptorRead_kept t _).orderly⟩
  case recordWordAccepted => exact ⟨_, rfl, (atEvent_kept s _ recordWordIn_kept).orderly⟩
  case writeBackAccepted => exact ⟨_, rfl, (atEvent_kept s _ statusWordIn_kept).orderly⟩
  case assemblyCompletion => exact ⟨_, rfl, (atEvent_kept s _ completeAssembly_kept).orderly⟩
  case workItemComplete => exact ⟨_, rfl, (atEvent_kept s _ workItemDone_kept).orderly⟩
  all_goals exact ⟨_, rfl, (directRow_kept s _).orderly⟩

/-- A step is a command on the queue's rest, or idles (log entry 3): what every command keeps, and the queue's rest has, every step keeps. -/
theorem step_keeps {P : State → Prop} (hrest : ∀ (s : State) (q : List Instr), P s → P { s with pending := q })
    (hexec : ∀ (c : Instr) (s t : State), P s → exec c s = .next t → P t) {s t : State} (hs : P s) (run : step s = .next t) : P t := by
  unfold step at run
  split at run
  · cases run; exact hs
  · exact hexec _ _ _ (hrest s _ hs) run

/-- Settling does not look at the queue. -/
theorem settled_queue {s : State} (hs : s.Settled) (q : List Instr) : ({ s with pending := q } : State).Settled :=
  Settled_congr hs rfl rfl rfl rfl rfl rfl (fun _ _ => rfl) rfl

end Sys2Proof.Machine

open Sys2Proof Sys2Proof.Machine

/-- Settles O55: a command leaves the state it found, a held part, or the end of an event, which settles every state. -/
theorem stepKeepsSettled : Obligations.StepKeepsSettled := by
  unfold Obligations.StepKeepsSettled
  intro s t hs
  refine step_keeps (P := fun s => s.isHeld = false → s.Settled) (fun s q hs held => settled_queue (hs held) q) (fun c s t hs run held => ?_) hs
  obtain ⟨u, answers, left⟩ := exec_leaves c s
  obtain rfl : u = t := Host.Outcome.next.inj (answers.symm.trans run)
  exact left.settled hs held

/-- Settles O56: every command keeps the links in order, and keeps them timed. -/
theorem stepKeepsTheCreditLaw : Obligations.StepKeepsTheCreditLaw := by
  unfold Obligations.StepKeepsTheCreditLaw
  intro s t
  refine step_keeps (P := fun s => ∀ h, (s.link h).ordered ∧ (s.link h).timedInTraining) (fun _ _ hs => hs) (fun c s t hs run => ?_)
  obtain ⟨u, answers, orderly⟩ := exec_orderly c s
  obtain rfl : u = t := Host.Outcome.next.inj (answers.symm.trans run)
  obtain ⟨v, again, timed⟩ := exec_timed (fun h => (hs h).2) c
  obtain rfl : v = u := Host.Outcome.next.inj (again.symm.trans run)
  exact fun h => ⟨orderly.links (fun h => (hs h).1) h, timed h⟩

/-- Settles O2: every command has an answer that leaves the queue. -/
theorem everyCommandAnswersNext : Obligations.EveryCommandAnswersNext := by
  unfold Obligations.EveryCommandAnswersNext
  refine ⟨fun c s => ?_, fun c s t run => ?_, fun s hq => by simp [step, hq]⟩
  · obtain ⟨t, answers, _⟩ := exec_leaves c s
    exact ⟨t, answers⟩
  · obtain ⟨u, answers, orderly⟩ := exec_orderly c s
    obtain rfl : u = t := Host.Outcome.next.inj (answers.symm.trans run)
    exact orderly.queue

/-- Settles O1. -/
theorem stepRunsFrontCommand : Obligations.StepRunsFrontCommand := by
  unfold Obligations.StepRunsFrontCommand
  intro c s
  rfl

end

section
/-! The rules of the Line Store: what a look-up reads after each operation, the place and the index of a record that is taken, and the low
indication (R44 to R56). -/

namespace Sys2Proof.Machine

/-! ### Keys in order (R46) -/

theorem rank_injective {a b : Key} (e : a.rank = b.rank) : a = b := by
  have hab := mt (rank_lt a b).mpr (by omega)
  have hba := mt (rank_lt b a).mpr (by omega)
  obtain ⟨a1, a2, a3, a4⟩ := a
  obtain ⟨b1, b2, b3, b4⟩ := b
  simp only [not_or, not_and] at hab hba
  obtain rfl : a1 = b1 := Fin.ext (by omega)
  obtain rfl : a2 = b2 := Fin.ext (by have := hab.2 rfl; have := hba.2 rfl; omega)
  have hab := ((hab.2 rfl).2 rfl)
  have hba := ((hba.2 rfl).2 rfl)
  cases a3 <;> cases b3 <;> simp_all <;> exact BitVec.eq_of_toNat_eq (by omega)

theorem insertLine_perm (r : LineRec) (ls : List LineRec) : (insertLine r ls).Perm (r :: ls) := by
  induction ls with
  | nil => exact .refl _
  | cons x xs ih =>
    unfold insertLine
    split
    · exact .refl _
    · exact (ih.cons x).trans (.swap r x xs)

theorem mem_insertLine {r x : LineRec} {ls : List LineRec} : x ∈ insertLine r ls ↔ x = r ∨ x ∈ ls := by
  rw [(insertLine_perm r ls).mem_iff, List.mem_cons]

/-- A record with a key of its own goes to its key's place. -/
theorem insertLine_rises {r : LineRec} {ls : List LineRec} (rises : keysRise ls) (fresh : ∀ x ∈ ls, x.key ≠ r.key) : keysRise (insertLine r ls) := by
  induction ls with
  | nil => simp [insertLine, keysRise]
  | cons x xs ih =>
    obtain ⟨below, rest⟩ := List.pairwise_cons.mp rises
    unfold insertLine
    split
    · rename_i hlt
      refine List.pairwise_cons.mpr ⟨fun y hy => ?_, rises⟩
      rcases List.mem_cons.mp hy with rfl | hy
      · exact hlt
      · exact Nat.lt_trans hlt (below y hy)
    · rename_i hge
      refine List.pairwise_cons.mpr ⟨fun y hy => ?_, ih rest fun y hy => fresh y (List.mem_cons_of_mem x hy)⟩
      rcases mem_insertLine.mp hy with rfl | hy
      · have apart : x.key.rank ≠ y.key.rank := fun e => fresh x List.mem_cons_self (rank_injective e)
        omega
      · exact below y hy

/-- In a list in key order, a search finds the least of the records that it looks for. -/
theorem find?_least {r : LineRec} {l : List LineRec} {p : LineRec → Bool} (rises : keysRise l) (mem : r ∈ l) (passes : p r = true)
    (least : ∀ y ∈ l, p y = true → r.key.rank ≤ y.key.rank) : l.find? p = some r := by
  induction l with
  | nil => exact absurd mem List.not_mem_nil
  | cons y l ih =>
    obtain ⟨below, rest⟩ := List.pairwise_cons.mp rises
    rcases List.mem_cons.mp mem with same | later
    · rw [← same, List.find?_cons_of_pos passes]
    · have fails : ¬ p y = true := fun first => absurd (least y List.mem_cons_self first) (Nat.not_le.mpr (below r later))
      rw [List.find?_cons_of_neg fails]
      exact ih rest later fun z hz => least z (List.mem_cons_of_mem _ hz)

/-- In a store in key order a record is the one that a look-up of its key finds. -/
theorem findLine_of_mem {s : State} {r : LineRec} (rises : keysRise s.store.lines) (hr : r ∈ s.store.lines) : s.findLine r.key = some r :=
  find?_least rises hr (beq_self_eq_true _) fun y _ same => Nat.le_of_eq (congrArg Key.rank (eq_of_beq same).symm)

/-- A search is the same for tests that agree on the list. -/
theorem find?_congr_on {α : Type} {p q : α → Bool} {l : List α} (same : ∀ a ∈ l, p a = q a) : l.find? p = l.find? q := by
  induction l with
  | nil => rfl
  | cons a l ih => rw [List.find?_cons, List.find?_cons, same a List.mem_cons_self, ih fun b hb => same b (List.mem_cons_of_mem _ hb)]

/-! ### The free records (R44) -/

theorem mem_freeIndices {n : Nat} {ls : List LineRec} : n ∈ freeIndices ls ↔ n < 12288 ∧ ∀ r ∈ ls, r.index ≠ n := by
  simp [freeIndices]

/-- A store with room has a free record. -/
theorem freeIndices_ne_nil {ls : List LineRec} (room : ls.length < 12288) : freeIndices ls ≠ [] := by
  intro none
  have all : List.range 12288 ⊆ ls.map (·.index) := by
    intro n hn
    refine Classical.byContradiction fun hfree => ?_
    have : n ∈ freeIndices ls := mem_freeIndices.mpr ⟨List.mem_range.mp hn, fun r hr e => hfree (List.mem_map.mpr ⟨r, hr, e⟩)⟩
    simp [none] at this
  have := List.nodup_range.length_le_of_subset all
  rw [List.length_range, List.length_map] at this
  omega

/-- The record taken is a free one (R44, log entry 10). -/
theorem pickIndex_free {s : State} (room : s.store.lines.length < 12288) : s.pickIndex ∈ freeIndices s.store.lines := by
  have some_free := freeIndices_ne_nil room
  have pos : 0 < (freeIndices s.store.lines).length := List.length_pos_iff.mpr some_free
  have inside : Config.freeRecord s.freeIx % (freeIndices s.store.lines).length < (freeIndices s.store.lines).length := Nat.mod_lt _ pos
  unfold State.pickIndex
  simp only
  rw [List.getD_eq_getElem?_getD, List.getElem?_eq_getElem inside, Option.getD_some]
  exact List.getElem_mem inside

/-! ### Look-ups after each operation (R46) -/

section
variable (s : State) (k q : Key)

theorem findLine_congr {s t : State} (e : t.store.lines = s.store.lines) (q : Key) : t.findLine q = s.findLine q := by
  simp [State.findLine, e]

theorem find?_map_keeps_key (f : LineRec → LineRec) (hf : ∀ r, (f r).key = r.key) (ls : List LineRec) :
    (ls.map f).find? (fun r => r.key == q) = (ls.find? fun r => r.key == q).map f := by
  induction ls with
  | nil => rfl
  | cons x xs ih =>
    simp only [List.map_cons, List.find?_cons, hf]
    split <;> simp_all

theorem findLine_writeLine (f : LineRec → LineRec) : (s.writeLine k f).findLine q =
    if q = k then (s.findLine k).map fun r => { f r with index := r.index, key := r.key, syndrome := 0 } else s.findLine q := by
  have written := find?_map_keeps_key q (fun r => if r.key = k then { f r with index := r.index, key := r.key, syndrome := 0 } else r)
    (fun r => by dsimp only; split <;> rfl) s.store.lines
  unfold State.findLine State.writeLine
  rw [written]
  cases hq : s.store.lines.find? fun r => r.key == q with
  | none =>
    split
    · rename_i e
      subst e
      simp [hq]
    · rfl
  | some r =>
    have key : r.key = q := by simpa using List.find?_some hq
    split
    · rename_i e
      subst e
      simp [hq, key]
    · rename_i e
      simp [key, e]

theorem find?_filter_not_key (ls : List LineRec) (p : LineRec → Bool) (hp : ∀ r ∈ ls, r.key = q → p r = true) :
    (ls.filter p).find? (fun r => r.key == q) = ls.find? fun r => r.key == q := by
  rw [List.find?_filter]
  refine find?_congr_on fun r hr => ?_
  by_cases e : r.key = q
  · simp [e, hp r hr e]
  · simp [e]

/-- Freeing records by a test leaves the look-up of a key whose records pass it. -/
theorem findLine_setLines_filter (p : LineRec → Bool) (hp : ∀ r ∈ s.store.lines, r.key = q → p r = true) :
    (s.setLines (s.store.lines.filter p)).findLine q = s.findLine q := find?_filter_not_key q _ p hp

@[simp] theorem setLines_lines (ls : List LineRec) : (s.setLines ls).store.lines = ls := rfl

theorem findLine_setLines_filter_none (p : LineRec → Bool) (hp : ∀ r ∈ s.store.lines, r.key = q → p r = false) :
    (s.setLines (s.store.lines.filter p)).findLine q = none := by
  rw [findLine_none]
  intro r hr e
  obtain ⟨hr, pass⟩ := List.mem_filter.mp hr
  rw [hp r hr e] at pass
  cases pass

theorem findLine_freeLine : (s.freeLine k).findLine q = if q = k then none else s.findLine q := by
  unfold State.freeLine
  split
  · rename_i e
    exact findLine_setLines_filter_none s q _ fun r _ hk => by simp [hk, e]
  · rename_i e
    exact findLine_setLines_filter s q _ fun r _ hk => by simp [hk, e]

/-- The record that a take writes (R47, R51). -/
def State.taken (s : State) (k : Key) (st : LineState) : LineRec :=
  { index := s.pickIndex, key := k, state := st, failCount := 0, cross := [], syndrome := 0 }

@[simp] theorem takeLine_lines (st : LineState) : (s.takeLine k st).store.lines = insertLine (s.taken k st) s.store.lines := rfl

theorem find?_insertLine_ne (r : LineRec) (hq : r.key ≠ q) (ls : List LineRec) :
    (insertLine r ls).find? (fun x => x.key == q) = ls.find? fun x => x.key == q := by
  induction ls with
  | nil => simp [insertLine, hq]
  | cons x xs ih =>
    unfold insertLine
    split
    · simp [hq]
    · simp only [List.find?_cons, ih]

theorem find?_insertLine_self (r : LineRec) (ls : List LineRec) (fresh : ∀ x ∈ ls, x.key ≠ r.key) :
    (insertLine r ls).find? (fun x => x.key == r.key) = some r := by
  induction ls with
  | nil => simp [insertLine]
  | cons x xs ih =>
    have hx : (x.key == r.key) = false := by simpa using fresh x List.mem_cons_self
    unfold insertLine
    split
    · simp
    · rw [List.find?_cons, hx]
      exact ih fun y hy => fresh y (List.mem_cons_of_mem x hy)

theorem findLine_takeLine (st : LineState) (absent : s.findLine k = none) :
    (s.takeLine k st).findLine q = if q = k then some (s.taken k st) else s.findLine q := by
  unfold State.findLine
  rw [takeLine_lines]
  split
  · rename_i e
    subst e
    exact find?_insertLine_self (s.taken q st) _ ((findLine_none s q).mp absent)
  · rename_i e
    exact find?_insertLine_ne q (s.taken k st) (Ne.symm e) _

end

/-! ### The low indication (R56) -/

theorem lowJudged_idem (free mark : Nat) (low : Bool) : lowJudged free mark (lowJudged free mark low) = lowJudged free mark low := by
  unfold lowJudged
  split
  · rfl
  · split <;> rfl

@[simp] theorem judgeLow_lines (s : State) : s.judgeLow.store.lines = s.store.lines := rfl

@[simp] theorem judgeLow_lowWater (s : State) : s.judgeLow.store.lowWater = s.store.lowWater := rfl

theorem judgeLow_lowStands {s : State} (mark : s.store.lowWater ≤ 12288) : s.judgeLow.LowStands :=
  ⟨mark, (lowJudged_idem s.freeCount s.store.lowWater s.store.low).symm⟩

theorem freeCount_congr {s t : State} (e : t.store.lines.length = s.store.lines.length) : t.freeCount = s.freeCount := by
  simp [State.freeCount, e]

/-- The low indication stands on the number of records in use, the mark and itself. -/
theorem lowStands_congr {s t : State} (length : t.store.lines.length = s.store.lines.length) (mark : t.store.lowWater = s.store.lowWater)
    (low : t.store.low = s.store.low) (hs : s.LowStands) : t.LowStands :=
  ⟨by rw [mark]; exact hs.mark, by rw [low, mark, freeCount_congr length]; exact hs.judged⟩

theorem setLines_lowStands {s : State} (ls : List LineRec) (hs : s.LowStands) : (s.setLines ls).LowStands :=
  judgeLow_lowStands (s := { s with store := { s.store with lines := ls } }) hs.mark

end Sys2Proof.Machine
end

section
/-! What the operations of the blocks keep of the two invariants that span them: the queues of the sites (R36, R111) and the Line Store's index
(R44, R46, R56). One lemma for each operation, cited by the next. -/

namespace Sys2Proof.Machine

/-! ### Site states -/

theorem site_state_congr {x y : Site} (e : x.ctx.map Context.phase = y.ctx.map Context.phase) : x.state = y.state := by
  unfold Site.state
  cases hx : x.ctx <;> cases hy : y.ctx <;> simp_all

theorem modSite_siteState (s : State) (i : SiteNo) (f : Site → Site) (j : SiteNo) :
    (s.modSite i f).siteState j = if j = i then (f (s.site i)).state else s.siteState j := by
  unfold State.siteState
  rw [modSite_site]
  split <;> rfl

theorem siteState_vacant {s : State} {i : SiteNo} : s.siteState i = .vacant ↔ s.ctx i = none := by
  unfold State.siteState State.ctx Site.state
  split
  · simp_all
  · rename_i c e
    cases hp : c.phase <;> simp [e, hp, Phase.siteState]

theorem siteState_of_ctx {s : State} {i : SiteNo} {c : Context} (h : s.ctx i = some c) : s.siteState i = c.phase.siteState := by
  unfold State.siteState Site.state
  rw [show (s.site i).ctx = some c from h]

/-- An edit of a context that keeps its phase keeps every site state. -/
theorem modCtx_siteState (s : State) (i : SiteNo) (f : Context → Context) (hf : ∀ c, (f c).phase = c.phase) (j : SiteNo) :
    (s.modCtx i f).siteState j = s.siteState j := by
  unfold State.modCtx
  rw [modSite_siteState]
  split
  · rename_i e
    subst e
    refine site_state_congr ?_
    cases (s.site j).ctx <;> simp [hf]
  · rfl

theorem site_congr {s t : State} (e : t.sites = s.sites) (i : SiteNo) : t.site i = s.site i := by simp [State.site, e]

/-! ### The relations -/

/-- The key and the index of a record, which no write changes (R45). -/
def LineRec.tag (r : LineRec) : Key × Nat := (r.key, r.index)

/-- From s to t the request slots of the engine stay and the two invariants last; that of the queues where `g` holds. -/
structure State.Keeps (s t : State) (g : Prop) : Prop where
  pendingHost : t.engine.pendingHost = s.engine.pendingHost
  inProgress : t.engine.inProgress = s.engine.inProgress
  queues : g → s.QueuesAgree → t.QueuesAgree
  lines : s.LinesIndexed → t.LinesIndexed

/-- Moreover no site becomes VACANT or leaves VACANT. -/
structure State.Sound (s t : State) (g : Prop) : Prop extends s.Keeps t g where
  present : ∀ i, t.siteState i = .vacant ↔ s.siteState i = .vacant

/-- From s to t no site state, no queue of sites and no request slot changes, records may be freed and rewritten but not taken, and staged
contexts, the record and the assembly may go but not come. -/
structure State.Stays (s t : State) : Prop where
  pendingHost : t.engine.pendingHost = s.engine.pendingHost
  inProgress : t.engine.inProgress = s.engine.inProgress
  sweepQueue : t.lists.sweepQueue = s.lists.sweepQueue
  collectionQueue : t.ex.collectionQueue = s.ex.collectionQueue
  record : ∀ r, t.ex.buffer = some r → s.ex.buffer = some r
  assembly : ∀ i, t.ex.assembling = some i → s.ex.assembling = some i
  phases : ∀ i, t.siteState i = s.siteState i
  staged : ∀ i x, (t.site i).staged = some x → (s.site i).staged = some x
  tags : (t.store.lines.map LineRec.tag).Sublist (s.store.lines.map LineRec.tag)
  low : s.LowStands → t.LowStands

/-- What of the state the two invariants read. -/
def State.core (s : State) :=
  (s.engine.pendingHost, s.engine.inProgress, s.lists.sweepQueue, s.ex.collectionQueue, s.ex.buffer, s.ex.assembling, s.sites, s.store.lines,
    s.store.low, s.store.lowWater)

section
variable {g : Prop} {s t u : State}

theorem stays_of_core (e : t.core = s.core) : s.Stays t := by
  simp only [State.core, Prod.mk.injEq] at e
  obtain ⟨pendingHost, inProgress, sweepQueue, collectionQueue, buffer, assembling, sites, lines, low, mark⟩ := e
  have site : ∀ i, t.site i = s.site i := fun i => by simp [State.site, sites]
  exact ⟨pendingHost, inProgress, sweepQueue, collectionQueue, fun _ h => buffer ▸ h, fun _ h => assembling ▸ h, siteState_congr sites,
    fun i x h => by rwa [← site i], by simp only [lines, List.Sublist.refl], lowStands_congr (by rw [lines]) mark low⟩

theorem stays_refl (s : State) : s.Stays s := stays_of_core rfl

theorem State.Stays.trans (a : s.Stays t) (b : t.Stays u) : s.Stays u where
  pendingHost := b.pendingHost.trans a.pendingHost
  inProgress := b.inProgress.trans a.inProgress
  sweepQueue := b.sweepQueue.trans a.sweepQueue
  collectionQueue := b.collectionQueue.trans a.collectionQueue
  record r h := a.record r (b.record r h)
  assembly i h := a.assembly i (b.assembly i h)
  phases i := (b.phases i).trans (a.phases i)
  staged i x h := a.staged i x (b.staged i x h)
  tags := b.tags.trans a.tags
  low h := b.low (a.low h)

theorem keysRise_iff_tags (ls : List LineRec) : keysRise ls ↔ (ls.map LineRec.tag).Pairwise fun a b => a.1.rank < b.1.rank := by
  rw [List.pairwise_map]
  rfl

theorem indices_eq_tags (ls : List LineRec) : ls.map (·.index) = (ls.map LineRec.tag).map Prod.snd := by
  rw [List.map_map]
  rfl

theorem State.Stays.record_of_line (st : s.Stays t) {r : LineRec} (hr : r ∈ t.store.lines) : ∃ x ∈ s.store.lines, x.key = r.key ∧ x.index = r.index := by
  obtain ⟨x, hx, e⟩ := List.mem_map.mp (st.tags.subset (List.mem_map_of_mem (f := LineRec.tag) hr))
  exact ⟨x, hx, congrArg Prod.fst e, congrArg Prod.snd e⟩

theorem State.Stays.linesIndexed (st : s.Stays t) (hs : s.LinesIndexed) : t.LinesIndexed where
  order := (keysRise_iff_tags _).mpr (((keysRise_iff_tags _).mp hs.order).sublist st.tags)
  indices := by
    rw [indices_eq_tags]
    exact (indices_eq_tags _ ▸ hs.indices).sublist (st.tags.map _)
  numbered r hr := by
    obtain ⟨x, hx, _, index⟩ := st.record_of_line hr
    exact index ▸ hs.numbered x hx
  room := by
    have := st.tags.length_le
    simp only [List.length_map] at this
    exact Nat.le_trans this hs.room
  low := st.low hs.low
  owned r hr := by
    obtain ⟨x, hx, key, _⟩ := st.record_of_line hr
    rw [ne_eq, ← siteState_vacant, st.phases, siteState_vacant, ← key]
    exact hs.owned x hx
  staged i x h := hs.staged i x (st.staged i x h)

theorem State.Stays.queuesAgree (st : s.Stays t) (hs : s.QueuesAgree) : t.QueuesAgree where
  sweepOnce := st.sweepQueue ▸ hs.sweepOnce
  sweeping i := by rw [st.sweepQueue, st.phases]; exact hs.sweeping i
  collectOnce := st.collectionQueue ▸ hs.collectOnce
  held i := by rw [st.collectionQueue, st.phases]; exact hs.held i
  record r h := st.collectionQueue ▸ hs.record r (st.record r h)
  assembly i h := by
    obtain ⟨queued, empty⟩ := hs.assembly i (st.assembly i h)
    refine ⟨st.collectionQueue ▸ queued, Option.eq_none_iff_forall_ne_some.mpr fun r hr => ?_⟩
    rw [st.record r hr] at empty
    cases empty

theorem State.Stays.sound (st : s.Stays t) : s.Sound t g :=
  ⟨⟨st.pendingHost, st.inProgress, fun _ => st.queuesAgree, st.linesIndexed⟩, fun i => by rw [st.phases]⟩

theorem sound_refl (s : State) : s.Sound s g := (stays_refl s).sound

theorem State.Keeps.trans (a : s.Keeps t g) (b : t.Keeps u g) : s.Keeps u g :=
  ⟨b.pendingHost.trans a.pendingHost, b.inProgress.trans a.inProgress, fun hg q => b.queues hg (a.queues hg q), fun l => b.lines (a.lines l)⟩

theorem State.Sound.trans (a : s.Sound t g) (b : t.Sound u g) : s.Sound u g :=
  ⟨a.toKeeps.trans b.toKeeps, fun i => (b.present i).trans (a.present i)⟩

theorem State.Sound.then_core (a : s.Sound t g) (e : u.core = t.core) : s.Sound u g := a.trans (stays_of_core e).sound

/-- Steps over a list stay when each does. -/
theorem stays_foldl {α : Type} (f : State → α → State) (hf : ∀ s a, State.Stays s (f s a)) (l : List α) (s : State) : s.Stays (l.foldl f s) := by
  induction l generalizing s with
  | nil => exact stays_refl s
  | cons a l ih => exact (hf s a).trans (ih _)

theorem sound_foldl {α : Type} (f : State → α → State) (hf : ∀ s a, State.Sound s (f s a) g) (l : List α) (s : State) : s.Sound (l.foldl f s) g := by
  induction l generalizing s with
  | nil => exact sound_refl s
  | cons a l ih => exact (hf s a).trans (ih _)

end

/-! ### Operations that stay -/

section
variable (s : State)

theorem modSite_stays (i : SiteNo) (f : Site → Site) (hp : (f (s.site i)).state = (s.site i).state)
    (hf : ∀ x, (f (s.site i)).staged = some x → (s.site i).staged = some x) : s.Stays (s.modSite i f) where
  pendingHost := rfl
  inProgress := rfl
  sweepQueue := rfl
  collectionQueue := rfl
  record _ h := h
  assembly _ h := h
  phases j := by
    rw [modSite_siteState]
    split
    · rename_i e
      rw [e, hp]
      rfl
    · rfl
  staged j x h := by
    rw [modSite_site] at h
    split at h
    · rename_i e
      rw [e]
      exact hf x h
    · exact h
  tags := .refl _
  low := lowStands_congr rfl rfl rfl

theorem modLink_stays (h : HeadNo) (f : Link → Link) : s.Stays (s.modLink h f) := stays_of_core rfl

theorem modCtx_stays (i : SiteNo) (f : Context → Context) (hf : ∀ c, (f c).phase = c.phase) : s.Stays (s.modCtx i f) := by
  refine modSite_stays s i _ (site_state_congr ?_) fun x h => h
  cases (s.site i).ctx <;> simp [hf]

theorem addFlag_stays (i : SiteNo) (f : QualityFlag) : s.Stays (s.addFlag i f) := modCtx_stays s i _ fun _ => rfl

theorem setReason_stays (i : SiteNo) (r : Reason) : s.Stays (s.setReason i r) := modCtx_stays s i _ fun _ => rfl

theorem modDomain_stays (i : SiteNo) (d : DomainNo) (f : DomainRec → DomainRec) : s.Stays (s.modDomain i d f) := modCtx_stays s i _ fun _ => rfl

theorem freeRecords_stays (p : LineRec → Bool) : s.Stays (s.setLines (s.store.lines.filter p)) where
  pendingHost := rfl
  inProgress := rfl
  sweepQueue := rfl
  collectionQueue := rfl
  record _ h := h
  assembly _ h := h
  phases _ := rfl
  staged _ _ h := h
  tags := (List.filter_sublist (p := p)).map LineRec.tag
  low := setLines_lowStands _

theorem freeLine_stays (k : Key) : s.Stays (s.freeLine k) := freeRecords_stays s _

theorem writeLine_tags (k : Key) (f : LineRec → LineRec) : (s.writeLine k f).store.lines.map LineRec.tag = s.store.lines.map LineRec.tag := by
  unfold State.writeLine
  rw [List.map_map]
  refine List.map_congr_left fun r _ => ?_
  simp only [Function.comp_apply]
  split <;> rfl

theorem writeLine_stays (k : Key) (f : LineRec → LineRec) : s.Stays (s.writeLine k f) where
  pendingHost := rfl
  inProgress := rfl
  sweepQueue := rfl
  collectionQueue := rfl
  record _ h := h
  assembly _ h := h
  phases _ := rfl
  staged _ _ h := h
  tags := by simp only [writeLine_tags, List.Sublist.refl]
  low := lowStands_congr (by simp [State.writeLine]) rfl rfl

theorem countLine_stays (k : Key) : s.Stays (s.countLine k) := writeLine_stays s k _

theorem coHold_stays (i : SiteNo) : s.Stays (s.coHold i) := by
  unfold State.coHold
  split
  · exact (modSite_stays s i _ rfl fun _ h => h).trans (stays_of_core rfl)
  · exact stays_refl s

theorem coMark_stays (l : List SiteNo) : s.Stays (s.coMark l) := by
  unfold State.coMark
  have flags := stays_foldl (fun s i => State.addFlag s i .coincident) (fun s i => addFlag_stays s i _) l s
  simp only
  split
  · exact flags
  · exact flags.trans (stays_foldl (fun s i => State.coHold s i) coHold_stays l _)

theorem coAdded_stays (n : Fin 128) (i : SiteNo) (e : CoEntry) : s.Stays (s.coAdded n i e) := by
  unfold State.coAdded
  have entry (x : Option CoEntry) : s.Stays (s.setCoEntry n x) := stays_of_core rfl
  split
  · exact (entry _).trans (coMark_stays _ _)
  · split
    · exact (entry _).trans (coMark_stays _ _)
    · exact entry _

theorem coJoin_stays (i : SiteNo) (d : DomainNo) (a : Axis) (x : LineAddr) : s.Stays (s.coJoin i d a x) := by
  unfold State.coJoin
  split
  · exact stays_refl s
  · simp only
    split
    · split
      · split
        · exact stays_refl s
        · exact coAdded_stays ..
      · exact stays_refl s
    · split
      · exact coAdded_stays ..
      · exact stays_of_core rfl

theorem freeSite_stays (i : SiteNo) : s.Stays (s.freeSite i) := (freeRecords_stays s _).trans (stays_of_core rfl)

theorem captureError_stays (i : SiteNo) (n : Nat) (a : Activity) : s.Stays (s.captureError i n a) := by
  unfold State.captureError
  split <;> exact stays_of_core rfl

theorem assignClaims_stays (a : Activity) (k : Key) (o : Origin) : s.Stays (s.assignClaims a k o) := by
  unfold State.assignClaims
  have settle : s.Stays (if a = .sweep then s else s.appendSettle k.site k.domain) := by split <;> exact stays_of_core rfl
  simp only
  split
  · exact settle.trans (coJoin_stays ..)
  · exact settle

theorem freeIfEmpty_stays (k : Key) : s.Stays (s.freeIfEmpty k) := by
  unfold State.freeIfEmpty
  split
  · split
    · exact freeLine_stays s k
    · exact stays_refl s
  · exact stays_refl s

theorem flagTested_stays (h : HeadNo) (f : QualityFlag) : s.Stays (s.flagTested h f) := by
  refine stays_foldl _ (fun s i => ?_) _ s
  split
  · exact addFlag_stays ..
  · exact stays_refl s

theorem clearHeadHolds_stays (h : HeadNo) : s.Stays (s.clearHeadHolds h) :=
  stays_foldl _ (fun s i => modSite_stays s i _ rfl fun _ h => h) _ s

theorem linkLeftUp_stays (h : HeadNo) : s.Stays (s.linkLeftUp h) :=
  ((flagTested_stays s h _).trans (clearHeadHolds_stays _ h)).trans (modLink_stays _ h _)

theorem linkFault_stays (h : HeadNo) : s.Stays (s.linkFault h) :=
  (modLink_stays s h Link.faulted).trans (linkLeftUp_stays _ h)

end

/-! ### Moves of a site (R28, R36) -/

section
variable {g : Prop} (s : State) (i : SiteNo)

/-- A move to a phase `p` of a site that is not VACANT keeps the index of the store. -/
theorem linesIndexed_of_present {s t : State} (present : ∀ i, t.siteState i = .vacant ↔ s.siteState i = .vacant)
    (staged : ∀ i, (t.site i).staged = (s.site i).staged) (store : t.store = s.store) (hs : s.LinesIndexed) : t.LinesIndexed where
  order := store ▸ hs.order
  indices := store ▸ hs.indices
  numbered := store ▸ hs.numbered
  room := store ▸ hs.room
  low := lowStands_congr (by rw [store]) (by rw [store]) (by rw [store]) hs.low
  owned r hr := by
    rw [ne_eq, ← siteState_vacant, present, siteState_vacant]
    exact hs.owned r (store ▸ hr)
  staged i x h := hs.staged i x (staged i ▸ h)

theorem toSweeping_site (j : SiteNo) : (s.toSweeping i).site j =
    if j = i then { s.site i with ctx := (s.ctx i).map fun c => { c with phase := .sweeping }, drainDeadline := none } else s.site j := by
  have sites : (s.toSweeping i).sites =
      (s.modSite i fun x => { x with ctx := x.ctx.map fun c => { c with phase := .sweeping }, drainDeadline := none }).sites := rfl
  rw [site_congr sites, modSite_site]
  rfl

theorem toHeld_site (j : SiteNo) : (s.toHeld i).site j =
    if j = i then { s.site i with ctx := (s.ctx i).map fun c => { c with phase := .held } } else s.site j := by
  have sites : (s.toHeld i).sites = (s.modCtx i fun c => { c with phase := .held }).sites := rfl
  rw [site_congr sites, modCtx_site]
  rfl

theorem enterDraining_site (j : SiteNo) : (s.enterDraining i).site j =
    if j = i then { s.site i with ctx := (s.ctx i).map fun c => { c with phase := .draining }
                                  drainDeadline := some ((s.enterDraining i).now + s.lists.drainTimeout * 10) } else s.site j := by
  have sites : (s.enterDraining i).sites = (s.readClock.modSite i fun x =>
      { x with ctx := x.ctx.map fun c => { c with phase := .draining }
               drainDeadline := some (s.readClock.now + s.readClock.lists.drainTimeout * 10) }).sites := rfl
  rw [site_congr sites, modSite_site]
  rfl

theorem enterDraining_now : (s.enterDraining i).now = s.now + Config.elapsed s.freeIx := rfl

/-- The state of a site whose context moves to another phase. -/
theorem moved_state {x y : Site} {p : Phase} (e : y.ctx = x.ctx.map fun c => { c with phase := p }) :
    y.state = if x.state = .vacant then .vacant else p.siteState := by
  unfold Site.state
  rw [e]
  cases hx : x.ctx with
  | none => rfl
  | some c => cases hp : c.phase <;> simp [hp, Phase.siteState]

theorem toSweeping_siteState (j : SiteNo) : (s.toSweeping i).siteState j =
    if j = i ∧ s.siteState i ≠ .vacant then .sweeping else s.siteState j := by
  unfold State.siteState
  rw [toSweeping_site]
  by_cases e : j = i
  · subst e
    rw [if_pos rfl, moved_state (x := s.site j) (p := .sweeping) rfl]
    by_cases hv : (s.site j).state = .vacant <;> simp [hv, Phase.siteState]
  · simp [e]

theorem toHeld_siteState (j : SiteNo) : (s.toHeld i).siteState j = if j = i ∧ s.siteState i ≠ .vacant then .held else s.siteState j := by
  unfold State.siteState
  rw [toHeld_site]
  by_cases e : j = i
  · subst e
    rw [if_pos rfl, moved_state (x := s.site j) (p := .held) rfl]
    by_cases hv : (s.site j).state = .vacant <;> simp [hv, Phase.siteState]
  · simp [e]

theorem enterDraining_siteState (j : SiteNo) : (s.enterDraining i).siteState j =
    if j = i ∧ s.siteState i ≠ .vacant then .draining else s.siteState j := by
  unfold State.siteState
  rw [enterDraining_site]
  by_cases e : j = i
  · subst e
    rw [if_pos rfl, moved_state (x := s.site j) (p := .draining) rfl]
    by_cases hv : (s.site j).state = .vacant <;> simp [hv, Phase.siteState]
  · simp [e]

theorem toSweeping_sound (hi : g → s.siteState i = .armed ∨ s.siteState i = .testing ∨ s.siteState i = .draining) : s.Sound (s.toSweeping i) g := by
  have present : ∀ j, (s.toSweeping i).siteState j = .vacant ↔ s.siteState j = .vacant := fun j => by
    rw [toSweeping_siteState]
    split
    · rename_i h
      simp [h.1, h.2]
    · rfl
  refine ⟨⟨rfl, rfl, fun hg hs => ?_, linesIndexed_of_present present (fun j => ?_) rfl⟩, present⟩
  · have moved : s.siteState i ≠ .sweeping ∧ s.siteState i ≠ .held ∧ s.siteState i ≠ .vacant := by rcases hi hg with h | h | h <;> simp [h]
    obtain ⟨notSweeping, notHeld, notVacant⟩ := moved
    refine ⟨?_, fun j => ?_, hs.collectOnce, fun j => ?_, hs.record, hs.assembly⟩
    · exact List.nodup_append.mpr ⟨hs.sweepOnce, List.pairwise_singleton _ i, fun a ha b hb e => notSweeping ((hs.sweeping i).mp (by simp_all))⟩
    · rw [toSweeping_siteState]
      show j ∈ s.lists.sweepQueue ++ [i] ↔ _
      by_cases e : j = i
      · simp [e, notVacant]
      · simp [e, hs.sweeping j]
    · rw [toSweeping_siteState]
      show j ∈ s.ex.collectionQueue ↔ _
      by_cases e : j = i
      · simp [e, notVacant, hs.held i, notHeld]
      · simp [e, hs.held j]
  · rw [toSweeping_site]
    split <;> simp_all

theorem toHeld_sound (hi : g → s.siteState i = .sweeping) : s.Sound (s.toHeld i) g := by
  have present : ∀ j, (s.toHeld i).siteState j = .vacant ↔ s.siteState j = .vacant := fun j => by
    rw [toHeld_siteState]
    split
    · rename_i h
      simp [h.1, h.2]
    · rfl
  refine ⟨⟨rfl, rfl, fun hg hs => ?_, linesIndexed_of_present present (fun j => ?_) rfl⟩, present⟩
  · have sweeping := hi hg
    refine ⟨hs.sweepOnce.filter _, fun j => ?_, ?_, fun j => ?_, fun r hr => ?_, fun j hj => ?_⟩
    · rw [toHeld_siteState]
      show j ∈ s.lists.sweepQueue.filter _ ↔ _
      by_cases e : j = i
      · simp [e, sweeping]
      · simp [e, hs.sweeping j]
    · exact List.nodup_append.mpr ⟨hs.collectOnce, List.pairwise_singleton _ i, fun a ha b hb e => by
        have : s.siteState i = .held := (hs.held i).mp (by simp_all)
        simp [sweeping] at this⟩
    · rw [toHeld_siteState]
      show j ∈ s.ex.collectionQueue ++ [i] ↔ _
      by_cases e : j = i
      · simp [e, sweeping]
      · simp [e, hs.held j]
    · exact List.mem_append_left _ (hs.record r hr)
    · obtain ⟨queued, empty⟩ := hs.assembly j hj
      exact ⟨List.mem_append_left _ queued, empty⟩
  · rw [toHeld_site]
    split <;> simp_all

/-- A site that is neither SWEEPING nor HELD moves to another such phase. -/
theorem moved_sound {s t : State} (p : Phase) (core : ({ t with sites := s.sites } : State).core = s.core)
    (moved : ∀ j, t.siteState j = if j = i ∧ s.siteState i ≠ .vacant then p.siteState else s.siteState j)
    (staged : ∀ j, (t.site j).staged = (s.site j).staged) (hp : p ≠ .sweeping ∧ p ≠ .held)
    (hi : g → s.siteState i ≠ .sweeping ∧ s.siteState i ≠ .held) : s.Sound t g := by
  simp only [State.core, Prod.mk.injEq] at core
  obtain ⟨pendingHost, inProgress, sweepQueue, collectionQueue, buffer, assembling, -, lines, low, mark⟩ := core
  have present : ∀ j, t.siteState j = .vacant ↔ s.siteState j = .vacant := fun j => by
    rw [moved]
    split
    · rename_i h
      cases p <;> simp [h.1, h.2, Phase.siteState]
    · rfl
  refine ⟨⟨pendingHost, inProgress, fun hg hs => ?_, fun hs => ?_⟩, present⟩
  · obtain ⟨notSweeping, notHeld⟩ := hi hg
    have state : ∀ j, (t.siteState j = .sweeping ↔ s.siteState j = .sweeping) ∧ (t.siteState j = .held ↔ s.siteState j = .held) := fun j => by
      rw [moved]
      split
      · rename_i h
        rw [h.1]
        cases p <;> simp_all [Phase.siteState]
      · exact ⟨.rfl, .rfl⟩
    refine ⟨sweepQueue ▸ hs.sweepOnce, fun j => ?_, collectionQueue ▸ hs.collectOnce, fun j => ?_, fun r hr => ?_, fun j hj => ?_⟩
    · rw [sweepQueue, (state j).1]
      exact hs.sweeping j
    · rw [collectionQueue, (state j).2]
      exact hs.held j
    · exact collectionQueue ▸ hs.record r (buffer ▸ hr)
    · rw [collectionQueue, buffer]
      exact hs.assembly j (assembling ▸ hj)
  · have low : t.LowStands := lowStands_congr (by rw [lines]) mark low hs.low
    refine ⟨lines ▸ hs.order, lines ▸ hs.indices, lines ▸ hs.numbered, lines ▸ hs.room, low, fun r hr => ?_, fun j x h => hs.staged j x (staged j ▸ h)⟩
    rw [ne_eq, ← siteState_vacant, present, siteState_vacant]
    exact hs.owned r (lines ▸ hr)

theorem enterDraining_sound (hi : g → s.siteState i ≠ .sweeping ∧ s.siteState i ≠ .held) : s.Sound (s.enterDraining i) g := by
  refine moved_sound i .draining rfl (enterDraining_siteState s i) (fun j => ?_) (by decide) hi
  rw [enterDraining_site]
  split <;> simp_all

theorem startSite_sound (hi : g → s.siteState i ≠ .sweeping ∧ s.siteState i ≠ .held) : s.Sound (s.startSite i) g := by
  refine moved_sound i .testing rfl (fun j => ?_) (fun j => ?_) (by decide) hi
  · unfold State.siteState State.startSite
    rw [modCtx_site]
    by_cases e : j = i
    · subst e
      rw [if_pos rfl, moved_state (x := s.site j) (p := .testing) rfl]
      by_cases hv : (s.site j).state = .vacant <;> simp [hv, Phase.siteState]
    · simp [e]
  · unfold State.startSite
    rw [modCtx_site]
    split <;> simp_all

theorem moveLost_sound : s.Sound (s.moveLost i) g := by
  unfold State.moveLost
  split
  · rename_i h
    exact toSweeping_sound s i fun _ => .inl h
  · rename_i h
    exact enterDraining_sound s i fun _ => by simp [h]
  · rename_i h
    exact toHeld_sound s i fun _ => h
  all_goals exact sound_refl s

theorem loseLines_sound (r : Reason) (w : NoticeReason) : s.Sound (s.loseLines i r w) g := by
  have emptied : s.Stays (((s.freeSite i).setReason i r).postNotice i w) :=
    ((freeSite_stays s i).trans (setReason_stays _ i r)).trans (stays_of_core rfl)
  exact emptied.sound.trans (moveLost_sound _ i)

theorem integrityFailure_sound (r : LineRec) (a : Activity) : s.Sound (s.integrityFailure i r a) g :=
  (loseLines_sound s i _ _).trans (captureError_stays _ i _ a).sound

theorem doom_sound : s.Sound (s.doom i) g := by
  unfold State.doom
  have doomed : s.Stays (s.modCtx i fun c => { c with doomed := true }) := modCtx_stays s i _ fun _ => rfl
  simp only
  split
  · rename_i h
    have flagged := doomed.trans (addFlag_stays _ i .earlyStop)
    refine (flagged.sound.trans (enterDraining_sound _ i fun _ => ?_)).then_core rfl
    have testing : State.siteState (State.addFlag _ i .earlyStop) i = .testing := ((addFlag_stays _ i .earlyStop).phases i).trans h.1
    simp [testing]
  · exact doomed.sound

theorem loseDomain_stays_before (d : DomainNo) : ∃ t, s.loseDomain i d = t.doom i ∧ s.Stays t :=
  ⟨_, rfl, ((modDomain_stays s i d _).trans (freeRecords_stays _ _)).trans (stays_of_core rfl)⟩

theorem loseDomain_sound (d : DomainNo) : s.Sound (s.loseDomain i d) g := by
  obtain ⟨t, e, stays⟩ := loseDomain_stays_before s i d
  rw [e]
  exact stays.sound.trans (doom_sound t i)

/-- A SWEEPING site stays SWEEPING when one of its domains is lost: there is no test to stop early (R33). -/
theorem loseDomain_sweeping (d : DomainNo) (hi : s.siteState i = .sweeping) : (s.loseDomain i d).siteState i = .sweeping := by
  obtain ⟨t, e, stays⟩ := loseDomain_stays_before s i d
  have marked : (t.modCtx i fun c => { c with doomed := true }).siteState i = .sweeping := by
    rw [modCtx_siteState _ _ _ fun _ => by rfl, stays.phases, hi]
  rw [e, State.doom]
  simp [marked]

end

/-! ### Records that are taken (R51) -/

section
variable {g : Prop} (s : State)

theorem takeLine_length (k : Key) (st : LineState) : (s.takeLine k st).store.lines.length = s.store.lines.length + 1 :=
  (insertLine_perm _ _).length_eq

theorem takeLine_linesIndexed {s : State} {k : Key} (st : LineState) (absent : s.findLine k = none) (room : 0 < s.freeCount)
    (present : s.ctx k.site ≠ none) (hs : s.LinesIndexed) : (s.takeLine k st).LinesIndexed := by
  have room : s.store.lines.length < 12288 := by simp only [State.freeCount, Config.lineRecords] at room; omega
  have free := mem_freeIndices.mp (pickIndex_free room)
  have perm : (s.takeLine k st).store.lines.Perm (s.taken k st :: s.store.lines) := insertLine_perm _ _
  have index : (s.taken k st).index = s.pickIndex := by simp only [State.taken]
  refine ⟨insertLine_rises hs.order ((findLine_none s k).mp absent), ?_, fun r hr => ?_, ?_, ?_, fun r hr => ?_, hs.staged⟩
  · rw [(perm.map (·.index)).nodup_iff, List.map_cons, List.nodup_cons]
    refine ⟨fun h => ?_, hs.indices⟩
    obtain ⟨r, hr, e⟩ := List.mem_map.mp h
    exact free.2 r hr (e.trans index)
  · rcases List.mem_cons.mp (perm.mem_iff.mp hr) with rfl | hr
    · rw [index]
      exact free.1
    · exact hs.numbered r hr
  · rw [takeLine_length]
    omega
  · exact lowStands_congr (s := s.setLines (insertLine (s.taken k st) s.store.lines)) rfl rfl rfl (setLines_lowStands _ hs.low)
  · rcases List.mem_cons.mp (perm.mem_iff.mp hr) with rfl | hr
    · exact present
    · exact hs.owned r hr

/-- A take for an absent key of a site with a context, while a record is free. -/
theorem takeLine_sound {k : Key} (st : LineState) (absent : s.findLine k = none) (room : 0 < s.freeCount) (present : s.ctx k.site ≠ none) :
    s.Sound (s.takeLine k st) g :=
  ⟨⟨rfl, rfl, fun _ hs => ⟨hs.sweepOnce, hs.sweeping, hs.collectOnce, hs.held, hs.record, hs.assembly⟩, takeLine_linesIndexed st absent room present⟩,
    fun _ => .rfl⟩

end

end Sys2Proof.Machine
end

section
/-! The work of the Repair Engine and the services of the requests keep the queues and the index of the store (R36, R44, R46, R111). -/

namespace Sys2Proof.Machine

/-! ### Runs of the Repair Engine -/

/-- A run that goes on has moved no site; one that has stopped itself keeps the invariants (R58, R63). -/
def Run.Goes (s : State) (g : Prop) : Run → Prop
  | .more t => s.Stays t
  | .halt t => s.Sound t g

section
variable {g : Prop} {s : State}

theorem Run.Goes.sound {r : Run} (h : r.Goes s g) : s.Sound r.state g := by
  cases r with
  | more t => exact State.Stays.sound h
  | halt t => exact h

theorem andThen_goes {r : Run} {f : State → Run} (hr : r.Goes s g) (hf : ∀ t, (f t).Goes t g) : (r.andThen f).Goes s g := by
  cases r with
  | more t =>
    have next := hf t
    show (f t).Goes s g
    cases hft : f t with
    | more u => rw [hft] at next; exact State.Stays.trans hr next
    | halt u => rw [hft] at next; exact (State.Stays.sound hr).trans next
  | halt t => exact hr

theorem andThen_sound {r : Run} {f : State → Run} (hr : s.Sound r.state g) (hf : ∀ t, r = .more t → t.Sound (f t).state g) :
    s.Sound (r.andThen f).state g := by
  cases r with
  | more t => exact State.Sound.trans hr (hf t rfl)
  | halt t => exact hr

end

/-! A read of a present record goes on in the state it found, or ends in an integrity failure (R57, R58). -/

theorem readLine_of_sound {s : State} {r : LineRec} (i : SiteNo) (a : Activity) (h : r.syndrome = 0) : s.readLine i a r = .more s := by
  rw [State.readLine, if_pos h]

theorem readLine_of_damaged {s : State} {r : LineRec} (i : SiteNo) (a : Activity) (h : r.syndrome ≠ 0) :
    s.readLine i a r = .halt (s.integrityFailure i r a) := by
  rw [State.readLine, if_neg h]

theorem readIfPresent_cases (s : State) (i : SiteNo) (a : Activity) (k : Key) :
    s.readIfPresent i a k = .more s ∨
      ∃ r, s.findLine k = some r ∧ r.syndrome ≠ 0 ∧ s.readIfPresent i a k = .halt (s.integrityFailure i r a) := by
  unfold State.readIfPresent
  cases hf : s.findLine k with
  | none => exact .inl rfl
  | some r =>
    by_cases h : r.syndrome = 0
    · exact .inl (readLine_of_sound i a h)
    · exact .inr ⟨r, rfl, h, readLine_of_damaged i a h⟩

section
variable {g : Prop} (s : State)

theorem readLine_goes (i : SiteNo) (a : Activity) (r : LineRec) : (s.readLine i a r).Goes s g := by
  unfold State.readLine
  split
  · exact stays_refl s
  · exact integrityFailure_sound ..

theorem uncross_goes (a : Activity) (k : Key) (x : LineAddr) : (s.uncross a k x).Goes s g := by
  unfold State.uncross
  simp only
  split
  · exact stays_refl s
  · refine andThen_goes (readLine_goes ..) fun t => ?_
    split
    · exact freeLine_stays ..
    · exact writeLine_stays ..

theorem uncrossAll_goes (a : Activity) (k : Key) (l : List LineAddr) (s : State) : (State.uncrossAll a k l s).Goes s g := by
  induction l generalizing s with
  | nil => exact stays_refl s
  | cons x l ih => exact andThen_goes (uncross_goes s a k x) ih

theorem assign_goes (a : Activity) (o : Origin) (k : Key) (cross : List LineAddr) : (s.assign a o k cross).Goes s g := by
  unfold State.assign
  have spent : (Run.more (s.modDomain k.site k.domain fun r => { r with assigned := r.assigned.inc k.axis })).Goes s g := modDomain_stays ..
  refine andThen_goes (andThen_goes spent fun t => uncrossAll_goes a k cross t) fun t => ?_
  exact State.Stays.trans (writeLine_stays t k _) (assignClaims_stays ..)

theorem foldAssign_sound (k : Key) (cross : List LineAddr) : s.Sound (s.foldAssign k cross).state g := by
  unfold State.foldAssign
  split
  · exact (assign_goes ..).sound
  · exact loseDomain_sound ..

theorem foldJudge_sound (kr kc : Key) : s.Sound (s.foldJudge kr kc).state g := by
  unfold State.foldJudge
  simp only
  split
  · exact andThen_sound (foldAssign_sound ..) fun t _ => (freeIfEmpty_stays t kc).sound
  · have written : ∀ f h, s.Stays ((s.writeLine kr f).writeLine kc h) := fun _ _ => (writeLine_stays ..).trans (writeLine_stays ..)
    split
    · exact (written _ _).sound.trans (foldAssign_sound ..)
    · split
      · exact (written _ _).sound.trans (foldAssign_sound ..)
      · exact (written _ _).sound

theorem createAbsent_sound {k : Key} (room : s.findLine k = none → 0 < s.freeCount) (present : s.ctx k.site ≠ none) :
    s.Sound (s.createAbsent k) g := by
  unfold State.createAbsent
  split
  · exact sound_refl s
  · rename_i h
    have absent : s.findLine k = none := by simpa using h
    exact takeLine_sound s .candidate absent (room absent) present

/-- What the creation of an absent line leaves of the look-ups of other keys and of the free count. -/
theorem createAbsent_findLine_ne {k q : Key} (hq : q ≠ k) : (s.createAbsent k).findLine q = s.findLine q := by
  unfold State.createAbsent
  split
  · rfl
  · rename_i h
    rw [findLine_takeLine s k q _ (by simpa using h), if_neg hq]

theorem takeLine_freeCount (k : Key) (st : LineState) : (s.takeLine k st).freeCount = s.freeCount - 1 := by
  unfold State.freeCount
  rw [takeLine_length]
  omega

theorem createAbsent_freeCount (k : Key) : (s.createAbsent k).freeCount = s.freeCount - if (s.findLine k).isSome then 0 else 1 := by
  unfold State.createAbsent
  split
  · rfl
  · exact takeLine_freeCount ..

theorem demand_room {s : State} {i : SiteNo} {n : Nat} (h : s.demand i n = .met) : n ≤ s.freeCount := by
  unfold State.demand at h
  split at h
  · cases h
  · omega

theorem foldUncovered_sound {kr kc : Key} (apart : kc ≠ kr) (same : kc.site = kr.site) (present : s.ctx kr.site ≠ none) :
    s.Sound (s.foldUncovered kr kc).state g := by
  unfold State.foldUncovered
  simp only
  generalize hn : (if (s.findLine kr).isSome then 0 else 1) + (if (s.findLine kc).isSome then 0 else 1) = need
  generalize hd : (if need = 0 then Demand.met else s.demand kr.site need) = demand
  cases demand with
  | wantOfStore => exact loseLines_sound ..
  | wantOfQuota => exact loseLines_sound ..
  | met =>
    have room : need ≤ s.freeCount := by
      by_cases none : need = 0
      · omega
      · rw [if_neg none] at hd
        exact demand_room hd
    have first : s.Sound (s.createAbsent kr) g := createAbsent_sound s (fun h => by simp [h] at hn; omega) present
    have second : (s.createAbsent kr).Sound ((s.createAbsent kr).createAbsent kc) g := by
      refine createAbsent_sound _ (fun h => ?_) ?_
      · rw [createAbsent_findLine_ne s apart] at h
        rw [createAbsent_freeCount]
        simp only [h, Option.isSome_none, Bool.false_eq_true, if_false] at hn
        omega
      · rw [same, ne_eq, ← siteState_vacant, first.present, siteState_vacant]
        exact present
    have counted := (first.trans second).trans ((countLine_stays _ kr).trans (countLine_stays _ kc)).sound
    simp only
    split
    · exact counted
    · exact counted.trans (foldJudge_sound ..)

theorem foldCell_sound (i : SiteNo) (d : DomainNo) (r c : LineAddr) (present : s.ctx i ≠ none) : s.Sound (s.foldCell i d r c).state g := by
  unfold State.foldCell
  simp only
  have toll : s.Stays (s.modDomain i d DomainRec.countFail) := modDomain_stays ..
  have still : (s.modDomain i d DomainRec.countFail).ctx i ≠ none := by
    rw [ne_eq, ← siteState_vacant, toll.phases, siteState_vacant]
    exact present
  split
  · exact toll.sound
  · generalize s.modDomain i d DomainRec.countFail = t at toll still
    rcases readIfPresent_cases t i .fold ⟨i, d, .row, r⟩ with row | ⟨l, _, _, row⟩
    · rcases readIfPresent_cases t i .fold ⟨i, d, .column, c⟩ with column | ⟨l, _, _, column⟩
      · rw [row, Run.andThen, column, Run.andThen]
        split
        · exact (toll.trans (countLine_stays ..)).sound
        · split
          · exact (toll.trans (countLine_stays ..)).sound
          · exact toll.sound.trans (foldUncovered_sound t (by simp) rfl still)
      · rw [row, Run.andThen, column, Run.andThen]
        exact toll.sound.trans (integrityFailure_sound ..)
    · rw [row, Run.andThen]
      exact toll.sound.trans (integrityFailure_sound ..)

theorem foldRun_sound (i : SiteNo) (d : DomainNo) (r : LineAddr) (l : List LineAddr) (s : State) (present : s.ctx i ≠ none) :
    s.Sound (State.foldRun i d r l s).state g := by
  induction l generalizing s with
  | nil => exact sound_refl s
  | cons c l ih =>
    have cell := foldCell_sound (g := g) s i d r c present
    refine andThen_sound cell fun t ht => ih t ?_
    have same : t.siteState i = .vacant ↔ s.siteState i = .vacant := by
      have := cell.present i
      rwa [ht] at this
    rw [ne_eq, ← siteState_vacant, same, siteState_vacant]
    exact present

theorem settleList_stays (l : List SettleEntry) : s.Stays { s with engine := { s.engine with settleList := l } } := stays_of_core rfl

theorem settleStep_sound : s.Sound s.settleStep g := by
  unfold State.settleStep
  split
  · exact sound_refl s
  · split
    · exact (settleList_stays s _).sound
    · have moved (t : State) (i : SiteNo) (d : DomainNo) (k : Key) (b : Bool) : t.Stays (t.moveCursor i d k b) := settleList_stays t _
      refine andThen_sound (readLine_goes ..).sound fun t _ => ?_
      split
      · split
        · refine andThen_sound (assign_goes ..).sound fun u _ => ?_
          exact (moved u ..).sound
        · exact loseDomain_sound ..
      · exact (moved t ..).sound

/-! ### The sweep (R102 to R107) -/

/-- The conclusion of a domain of a SWEEPING site (R106). -/
theorem concludeDomain_sound (i : SiteNo) (d : DomainNo) (hi : g → s.siteState i = .sweeping) : s.Sound (s.concludeDomain i d) g := by
  unfold State.concludeDomain
  have concluded : s.Stays (s.modDomain i d fun r => { r with state := r.concluded }) := modDomain_stays ..
  have still : g → (s.modDomain i d fun r => { r with state := r.concluded }).siteState i = .sweeping := fun h => (concluded.phases i).trans (hi h)
  simp only
  split
  · split
    · exact concluded.sound.then_core rfl
    · exact concluded.sound.trans (toHeld_sound _ i still)
  · exact concluded.sound.trans (toHeld_sound _ i still)

theorem loseDomain_concludeDomain_sound (i : SiteNo) (d : DomainNo) (hi : g → s.siteState i = .sweeping) :
    s.Sound ((s.loseDomain i d).concludeDomain i d) g :=
  (loseDomain_sound s i d).trans (concludeDomain_sound _ i d fun h => loseDomain_sweeping s i d (hi h))

theorem sweepAssign_sound (o : Origin) (r : LineRec) (p : SweepPos) : s.Sound (s.sweepAssign o r p) g := by
  have placed : s.Stays (s.setSweepPos (some p)) := stays_of_core rfl
  exact placed.sound.trans (assign_goes ..).sound

section
variable {s} {p : SweepPos} (hi : g → s.siteState p.site = .sweeping)
include hi

theorem sweepGreedy_sound : s.Sound (s.sweepGreedy p) g := by
  unfold State.sweepGreedy
  simp only
  split
  · exact integrityFailure_sound ..
  · split
    · exact concludeDomain_sound _ _ _ hi
    · split
      · exact sweepAssign_sound ..
      · split
        · split
          · exact sweepAssign_sound ..
          · exact loseDomain_concludeDomain_sound _ _ _ hi
        · exact loseDomain_concludeDomain_sound _ _ _ hi

theorem sweepStop_sound (r : LineRec) : s.Sound (s.sweepStop p r) g := by
  unfold State.sweepStop
  split
  · exact integrityFailure_sound ..
  · split
    · exact sweepAssign_sound ..
    · exact loseDomain_concludeDomain_sound _ _ _ hi

theorem sweepSettle_sound : s.Sound (s.sweepSettle p) g := by
  have greedy (q : SweepPos) (hq : q.site = p.site) : s.Sound ((s.setSweepPos (some q)).sweepGreedy q) g := by
    have placed : s.Stays (s.setSweepPos (some q)) := stays_of_core rfl
    exact placed.sound.trans (sweepGreedy_sound (p := q) fun h => by rw [hq]; exact hi h)
  unfold State.sweepSettle
  split
  · exact sweepStop_sound hi _
  · split
    · simp only
      split
      · exact sweepStop_sound (p := { p with cursor := none, renew := false }) hi _
      · exact greedy _ rfl
    · exact greedy _ rfl

theorem sweepEnter_sound : s.Sound (s.sweepEnter p) g := by
  unfold State.sweepEnter
  split
  · exact concludeDomain_sound _ _ _ hi
  · have dropped : s.Stays (s.dropSettle fun e => e.site == p.site && e.domain == p.domain) := stays_of_core rfl
    exact dropped.sound.trans (sweepSettle_sound (p := { p with phase := .settle, cursor := none, renew := false }) hi)

end

theorem sweepPosFor_site (i : SiteNo) : (s.sweepPosFor i).site = i := by
  unfold State.sweepPosFor
  simp only
  split
  · split
    · assumption
    · rfl
  · rfl

/-- A sweep step of a site that is SWEEPING, as every site in the Sweep Queue is. -/
theorem sweepStep_sound : s.Sound s.sweepStep (∀ i ∈ s.lists.sweepQueue, s.siteState i = .sweeping) := by
  unfold State.sweepStep
  split
  · exact sound_refl s
  · rename_i i rest hq
    have first : (∀ j ∈ s.lists.sweepQueue, s.siteState j = .sweeping) → s.siteState i = .sweeping := fun h => h i (by simp [hq])
    split
    · exact toHeld_sound s i first
    · simp only
      have placed : s.Stays (s.setSweepPos (some (s.sweepPosFor i))) := stays_of_core rfl
      have named : (∀ j ∈ s.lists.sweepQueue, s.siteState j = .sweeping) →
          (s.setSweepPos (some (s.sweepPosFor i))).siteState (s.sweepPosFor i).site = .sweeping := fun h => by
        rw [sweepPosFor_site]
        exact first h
      rw [hq] at named ⊢
      split
      · exact placed.sound.trans (sweepEnter_sound named)
      · exact placed.sound.trans (sweepSettle_sound named)
      · exact placed.sound.trans (sweepGreedy_sound named)

/-! ### Intake (R69 to R83) -/

theorem linkLostCompletion_sound (h : HeadNo) : s.Sound (s.linkLostCompletion h) g := by
  unfold State.linkLostCompletion
  refine sound_foldl _ (fun s i => ?_) _ s
  split
  · rename_i c hc
    split
    · rename_i lost
      refine toSweeping_sound s i fun _ => ?_
      rw [siteState_of_ctx hc]
      rcases lost.2 with e | e <;> simp [e, Phase.siteState]
    · exact sound_refl s
  · exact sound_refl s

theorem addCause_stays (h : HeadNo) (c : LinkCause) : s.Stays (s.addCause h c) := modLink_stays ..

theorem takeFail_sound (h : HeadNo) (slot : SlotNo) (d : DomainNo) (row : LineAddr) (col : BitVec 12) (len : Fin 16) :
    s.Sound (s.takeFail h slot d row col len) g := by
  unfold State.takeFail
  split
  · exact (addCause_stays ..).sound
  · rename_i c hc
    have opened : s.Sound (s.takeFailOpen h (siteOf h slot) c d row col len) g := by
      unfold State.takeFailOpen
      split
      · exact sound_refl s
      · split
        · exact foldRun_sound _ _ _ _ s (by simp [hc])
        · exact ((addFlag_stays ..).trans (addCause_stays ..)).sound
    split
    · exact (addCause_stays ..).sound
    · exact (addCause_stays ..).sound
    · exact (addCause_stays ..).sound
    · exact opened
    · exact opened

theorem takeEnd_sound (h : HeadNo) (slot : SlotNo) : s.Sound (s.takeEnd h slot) g := by
  unfold State.takeEnd
  split
  · rename_i draining
    exact toSweeping_sound s _ fun _ => .inr (.inr draining)
  all_goals exact (addCause_stays ..).sound

theorem takeHold_stays (h : HeadNo) (slot : SlotNo) (on : Bool) : s.Stays (s.takeHold h slot on) := modSite_stays s _ _ rfl fun _ h => h

theorem takeItem_sound (h : HeadNo) : s.Sound (s.takeItem h) g := by
  unfold State.takeItem
  split
  · exact (modLink_stays ..).sound.trans (takeFail_sound ..)
  · exact (modLink_stays ..).sound.trans (takeEnd_sound ..)
  · exact ((modLink_stays ..).trans (takeHold_stays ..)).sound
  · split
    · exact (modLink_stays ..).sound.trans (linkLostCompletion_sound ..)
    · exact sound_refl s

end

end Sys2Proof.Machine
end

section
/-! The services of the requests keep the queues and the index of the store: contexts that become current, are promoted, dropped and released
(R16 to R22, R37), and the Export Engine's slots (R161). -/

namespace Sys2Proof.Machine

/-! ### What the operations of the Export Engine leave alone (R161, R163) -/

/-- The parts of the Export Engine that no operation on slots, fetches and write-backs reaches. -/
def Exporter.holdings (e : Exporter) := (e.collectionQueue, e.buffer, e.assembling, e.busTimeout)

section
variable (e : Exporter)

@[simp] theorem setSlot_holdings (i : SlotId) (x : DescSlot) : (e.setSlot i x).holdings = e.holdings := by cases i <;> rfl

@[simp] theorem startFetch_holdings (i : SlotId) (a : Word) : (e.startFetch i a).holdings = e.holdings := by cases i <;> rfl

@[simp] theorem endFetch_holdings (i : SlotId) : (e.endFetch i).holdings = e.holdings := rfl

@[simp] theorem makeCurrent_holdings (d : Descriptor) : (e.makeCurrent d).holdings = e.holdings := by
  unfold Exporter.makeCurrent
  simp only
  split
  · split
    · exact startFetch_holdings ..
    · rfl
  · rfl

@[simp] theorem promoteNext_holdings : e.promoteNext.holdings = e.holdings := by
  unfold Exporter.promoteNext
  split
  · exact makeCurrent_holdings ..
  · rfl

@[simp] theorem close_holdings (c : CloseCause) : (e.close c).holdings = e.holdings := by
  unfold Exporter.close
  split
  · exact promoteNext_holdings _
  · rfl

@[simp] theorem restartFetch_holdings (i : SlotId) : (e.restartFetch i).holdings = e.holdings := by
  unfold Exporter.restartFetch
  split
  · exact setSlot_holdings ..
  · rfl

@[simp] theorem resume_holdings (k : Stall) : (e.resume k).holdings = e.holdings := by
  cases k with
  | fetch i => exact restartFetch_holdings _ i
  | write => rfl
  | writeBack => rfl

@[simp] theorem readAccepted_holdings (i : SlotId) (data : Word) : (e.readAccepted i data).holdings = e.holdings := by
  unfold Exporter.readAccepted
  split
  · split
    · exact setSlot_holdings ..
    · refine (promoteNext_holdings _).trans ?_
      exact (setSlot_holdings (e.endFetch i) i .empty).trans (endFetch_holdings e i)
    · split
      · rw [promoteNext_holdings, makeCurrent_holdings, endFetch_holdings]
      · rw [promoteNext_holdings, setSlot_holdings, endFetch_holdings]
  · rfl

/-- The end of a record empties the Record Assembly Buffer (R168). -/
theorem recordDone_holdings (n : Nat) : (e.recordDone n).holdings = ({ e with buffer := none } : Exporter).holdings := by
  unfold Exporter.recordDone
  simp only
  split
  · exact close_holdings _ _
  · split
    · exact close_holdings _ _
    · rfl

theorem abandon_holdings (k : Stall) : (e.abandon k).holdings = if k = .write then ({ e with buffer := none } : Exporter).holdings else e.holdings := by
  cases k with
  | fetch i =>
    refine (promoteNext_holdings _).trans ?_
    rw [setSlot_holdings]
    rfl
  | write => exact promoteNext_holdings _
  | writeBack => rfl

end

theorem stays_of_holdings (s : State) (e : Exporter) (h : e.holdings = s.ex.holdings) : s.Stays { s with ex := e } := by
  simp only [Exporter.holdings, Prod.mk.injEq] at h
  obtain ⟨queue, buffer, assembling, _⟩ := h
  exact stays_of_core (by simp [State.core, queue, buffer, assembling])

/-! ### Contexts that become current (R16, R17) -/

/-- The key of the line that a carry-in entry of site i names (R17). -/
def CarryIn.key (i : SiteNo) (e : CarryIn) : Key := ⟨i, e.domain, e.axis, e.addr⟩

theorem carryIn_key_injective (i : SiteNo) : Function.Injective (CarryIn.key i) := by
  rintro ⟨d, a, x⟩ ⟨d', a', x'⟩ h
  simp_all [CarryIn.key]

/-- The context that a staged one becomes on a geometry (R16). -/
def State.freshContext (s : State) (x : Staged) (g : Geometry) : Context :=
  { phase := .armed, tag := x.tag, template := x.template, geometry := g, policy := x.policy, quota := x.quota.getD s.store.defaultQuota,
    reason := none, flags := {}, doomed := false, domains := freshDomains g }

/-- A context becomes current but for its carried lines (R6, R16). -/
def State.placeContext (s : State) (i : SiteNo) (x : Staged) (g : Geometry) : State :=
  (s.setTemplate x.template (s.template x.template).use).modSite i fun y =>
    { y with ctx := some (s.freshContext x g), hostHold := false, drainDeadline := none }

theorem makeCurrent_eq (s : State) (i : SiteNo) (x : Staged) (g : Geometry) :
    s.makeCurrent i x g = x.carryIn.foldl (fun s e => s.carryIn i e) (s.placeContext i x g) := rfl

section
variable {g : Prop} (s : State) (i : SiteNo)

theorem placeContext_siteState (x : Staged) (geo : Geometry) (j : SiteNo) :
    (s.placeContext i x geo).siteState j = if j = i then .armed else s.siteState j := by
  unfold State.placeContext
  rw [modSite_siteState]
  split
  · rfl
  · exact siteState_congr (setTemplate_sites ..) j

theorem placeContext_site (x : Staged) (geo : Geometry) (j : SiteNo) :
    (s.placeContext i x geo).site j =
      if j = i then { s.site i with ctx := some (s.freshContext x geo), hostHold := false, drainDeadline := none } else s.site j := by
  unfold State.placeContext
  rw [modSite_site]
  rfl

theorem appendSettle_stays (d : DomainNo) : s.Stays (s.appendSettle i d) := settleList_stays s _

/-- A site that moves from VACANT to a phase that no queue concerns, or back, keeps the queues. -/
theorem queuesAgree_of_apart {s t : State} {i : SiteNo} (sweepQueue : t.lists.sweepQueue = s.lists.sweepQueue)
    (collectionQueue : t.ex.collectionQueue = s.ex.collectionQueue) (buffer : t.ex.buffer = s.ex.buffer) (assembling : t.ex.assembling = s.ex.assembling)
    (others : ∀ j, j ≠ i → t.siteState j = s.siteState j) (before : s.siteState i ≠ .sweeping ∧ s.siteState i ≠ .held)
    (after : t.siteState i ≠ .sweeping ∧ t.siteState i ≠ .held) (hs : s.QueuesAgree) : t.QueuesAgree := by
  have state : ∀ j, (t.siteState j = .sweeping ↔ s.siteState j = .sweeping) ∧ (t.siteState j = .held ↔ s.siteState j = .held) := fun j => by
    by_cases e : j = i
    · subst e
      simp [before, after]
    · rw [others j e]
      exact ⟨.rfl, .rfl⟩
  refine ⟨sweepQueue ▸ hs.sweepOnce, fun j => ?_, collectionQueue ▸ hs.collectOnce, fun j => ?_, fun r hr => ?_, fun j hj => ?_⟩
  · rw [sweepQueue, (state j).1]
    exact hs.sweeping j
  · rw [collectionQueue, (state j).2]
    exact hs.held j
  · exact collectionQueue ▸ hs.record r (buffer ▸ hr)
  · rw [collectionQueue, buffer]
    exact hs.assembly j (assembling ▸ hj)

theorem placeContext_keeps (x : Staged) (geo : Geometry) (vacant : s.siteState i = .vacant) : s.Keeps (s.placeContext i x geo) g := by
  refine ⟨rfl, rfl, fun _ => queuesAgree_of_apart (i := i) rfl rfl rfl rfl (fun j e => ?_) (by simp [vacant]) ?_, fun hs => ?_⟩
  · rw [placeContext_siteState, if_neg e]
  · rw [placeContext_siteState, if_pos rfl]
    decide
  · refine ⟨hs.order, hs.indices, hs.numbered, hs.room, lowStands_congr (s := s) rfl rfl rfl hs.low, fun r hr => ?_, fun j y hy => hs.staged j y ?_⟩
    · rw [ne_eq, ← siteState_vacant, placeContext_siteState]
      split
      · decide
      · rw [siteState_vacant]
        exact hs.owned r hr
    · rw [placeContext_site] at hy
      split at hy
      · rename_i e
        exact e ▸ hy
      · exact hy

theorem carryIn_findLine (e : CarryIn) (absent : s.findLine (e.key i) = none) (q : Key) (hq : q ≠ e.key i) :
    (s.carryIn i e).findLine q = s.findLine q := by
  have taken := findLine_takeLine s (e.key i) q (.assigned .carried) absent
  rw [if_neg hq] at taken
  exact taken

theorem carryIn_siteState (e : CarryIn) (j : SiteNo) : (s.carryIn i e).siteState j = s.siteState j :=
  (modDomain_stays (s.takeLine (e.key i) (.assigned .carried)) i e.domain _).phases j

theorem carryIn_queues (e : CarryIn) (hs : s.QueuesAgree) : (s.carryIn i e).QueuesAgree := by
  have taken : (s.takeLine (e.key i) (.assigned .carried)).QueuesAgree :=
    ⟨hs.sweepOnce, hs.sweeping, hs.collectOnce, hs.held, hs.record, hs.assembly⟩
  exact (modDomain_stays _ i e.domain _).queuesAgree taken

theorem carryIn_freeCount (e : CarryIn) : (s.carryIn i e).freeCount = s.freeCount - 1 := takeLine_freeCount s (e.key i) _

/-- The carried lines of a context, for keys that are absent and of which there are no more than free records. -/
theorem carryIn_foldl_linesIndexed (l : List CarryIn) (s : State) (present : s.ctx i ≠ none) (once : l.Nodup) (room : l.length ≤ s.freeCount)
    (absent : ∀ e ∈ l, s.findLine (e.key i) = none) (hs : s.LinesIndexed) : (l.foldl (fun s e => s.carryIn i e) s).LinesIndexed := by
  induction l generalizing s with
  | nil => exact hs
  | cons e l ih =>
    obtain ⟨apart, once⟩ := List.nodup_cons.mp once
    have room : l.length + 1 ≤ s.freeCount := room
    have taken : (s.takeLine (e.key i) (.assigned .carried)).LinesIndexed :=
      takeLine_linesIndexed _ (absent e List.mem_cons_self) (by omega) present hs
    refine ih (s.carryIn i e) ?_ once ?_ (fun f hf => ?_) ((modDomain_stays _ i e.domain _).linesIndexed taken)
    · rw [ne_eq, ← siteState_vacant, carryIn_siteState, siteState_vacant]
      exact present
    · rw [carryIn_freeCount]
      omega
    · have other : f ≠ e := fun h => apart (h ▸ hf)
      rw [carryIn_findLine s i e (absent e List.mem_cons_self) _ (fun h => other (carryIn_key_injective i h))]
      exact absent f (List.mem_cons_of_mem e hf)

theorem carryIn_foldl_queues (l : List CarryIn) (s : State) (hs : s.QueuesAgree) : (l.foldl (fun s e => s.carryIn i e) s).QueuesAgree := by
  induction l generalizing s with
  | nil => exact hs
  | cons e l ih => exact ih _ (carryIn_queues s i e hs)

/-- A context becomes current at a VACANT site, whose lines are all free (R16, R53). -/
theorem makeCurrent_keeps (x : Staged) (geo : Geometry) (vacant : s.siteState i = .vacant) (once : s.LinesIndexed → x.carryIn.Nodup)
    (room : x.carryIn.length ≤ s.freeCount) : s.Keeps (s.makeCurrent i x geo) g := by
  have placed := placeContext_keeps (g := g) s i x geo vacant
  have engine : (s.makeCurrent i x geo).engine = s.engine := foldl_keeps State.engine (fun s e => s.carryIn i e) (fun _ _ => rfl) x.carryIn _
  rw [makeCurrent_eq] at engine ⊢
  refine ⟨by rw [engine], by rw [engine], fun hg hs => carryIn_foldl_queues i _ _ (placed.queues hg hs), fun hs => ?_⟩
  refine carryIn_foldl_linesIndexed i _ _ ?_ (once hs) room (fun e _ => ?_) (placed.lines hs)
  · rw [ne_eq, ← siteState_vacant, placeContext_siteState, if_pos rfl]
    decide
  · rw [findLine_none]
    intro r hr key
    refine hs.owned r hr ?_
    rw [key]
    exact siteState_vacant.mp vacant

theorem makeCurrent_siteState (x : Staged) (geo : Geometry) (j : SiteNo) :
    (s.makeCurrent i x geo).siteState j = if j = i then .armed else s.siteState j := by
  have carried := foldl_keeps (fun s : State => s.siteState) (fun s e => s.carryIn i e) (fun s e => funext (carryIn_siteState s i e)) x.carryIn
    (s.placeContext i x geo)
  rw [makeCurrent_eq, congrFun carried j]
  exact placeContext_siteState ..

/-- The promotion of a staged context at a VACANT site (R22). -/
theorem promote_cases : s.promote i = s ∨ ∃ x t, (s.site i).staged = some x ∧ t = s.modSite i (fun y => { y with staged := none }) ∧
    ((∃ geo, (t.template x.template).active = some geo ∧ x.carryIn.length ≤ t.freeCount ∧ s.promote i = t.makeCurrent i x geo) ∨
      s.promote i = t.postNoticeTag i .stageFailed x.tag) := by
  unfold State.promote
  split
  · exact .inl rfl
  · rename_i x hx
    refine .inr ⟨x, _, hx, rfl, ?_⟩
    simp only
    split
    · rename_i geo hg
      split
      · rename_i fits
        simp only [Bool.and_eq_true, decide_eq_true_eq] at fits
        exact .inl ⟨geo, hg, fits.2, rfl⟩
      · exact .inr rfl
    · exact .inr rfl

theorem unstage_stays : s.Stays (s.modSite i fun y => { y with staged := none }) := modSite_stays s i _ rfl nofun

theorem promote_keeps (vacant : s.siteState i = .vacant) : s.Keeps (s.promote i) g := by
  rcases promote_cases s i with e | ⟨x, t, hx, rfl, ⟨geo, -, room, e⟩ | e⟩ <;> rw [e]
  · exact (sound_refl s).toKeeps
  · have unstaged : s.Keeps (s.modSite i fun y => { y with staged := none }) g := (unstage_stays s i).sound.toKeeps
    have current (once : x.carryIn.Nodup) : (s.modSite i fun y => { y with staged := none }).Keeps
        ((s.modSite i fun y => { y with staged := none }).makeCurrent i x geo) g :=
      makeCurrent_keeps _ i x geo (((unstage_stays s i).phases i).trans vacant) (fun _ => once) room
    refine ⟨?_, ?_, fun hg hs => ?_, fun hs => (current (hs.staged i x hx)).lines (unstaged.lines hs)⟩
    · exact congrArg Engine.pendingHost (foldl_keeps State.engine (fun s e => s.carryIn i e) (fun _ _ => rfl) x.carryIn _)
    · exact congrArg Engine.inProgress (foldl_keeps State.engine (fun s e => s.carryIn i e) (fun _ _ => rfl) x.carryIn _)
    · rw [makeCurrent_eq]
      refine carryIn_foldl_queues i _ _ ((placeContext_keeps (g := g) _ i x geo ?_).queues hg (unstaged.queues hg hs))
      exact ((unstage_stays s i).phases i).trans vacant
  · exact ((unstage_stays s i).trans (stays_of_core (t := State.postNoticeTag _ i .stageFailed x.tag) rfl)).sound.toKeeps

theorem promote_siteState (j : SiteNo) (hj : j ≠ i) : (s.promote i).siteState j = s.siteState j := by
  rcases promote_cases s i with e | ⟨x, t, hx, rfl, ⟨geo, -, room, e⟩ | e⟩ <;> rw [e]
  · rw [makeCurrent_siteState, if_neg hj, (unstage_stays s i).phases]
  · exact (unstage_stays s i).phases j

theorem promote_siteState_self (vacant : s.siteState i = .vacant) : (s.promote i).siteState i = .vacant ∨ (s.promote i).siteState i = .armed := by
  rcases promote_cases s i with e | ⟨x, t, hx, rfl, ⟨geo, -, room, e⟩ | e⟩ <;> rw [e]
  · exact .inl vacant
  · exact .inr (by rw [makeCurrent_siteState, if_pos rfl])
  · exact .inl (((unstage_stays s i).phases i).trans vacant)

theorem makeCurrent_ex (x : Staged) (geo : Geometry) : (s.makeCurrent i x geo).ex = s.ex :=
  foldl_keeps State.ex (fun s e => s.carryIn i e) (fun _ _ => rfl) x.carryIn (s.placeContext i x geo)

theorem makeCurrent_lists (x : Staged) (geo : Geometry) : (s.makeCurrent i x geo).lists = s.lists :=
  foldl_keeps State.lists (fun s e => s.carryIn i e) (fun _ _ => rfl) x.carryIn (s.placeContext i x geo)

theorem promote_ex : (s.promote i).ex = s.ex := by
  rcases promote_cases s i with e | ⟨x, t, hx, rfl, ⟨geo, -, room, e⟩ | e⟩ <;> rw [e]
  · rw [makeCurrent_ex]
    rfl
  · rfl

theorem promote_sweepQueue : (s.promote i).lists.sweepQueue = s.lists.sweepQueue := by
  rcases promote_cases s i with e | ⟨x, t, hx, rfl, ⟨geo, -, room, e⟩ | e⟩ <;> rw [e]
  · rw [makeCurrent_lists]
    rfl
  · rfl

/-! ### Contexts that stop being current (R19, R37) -/

theorem unuseTemplate_stays : s.Stays (s.unuseTemplate i) := by
  unfold State.unuseTemplate
  split
  · exact stays_refl s
  · exact stays_of_core rfl

theorem dropContext_siteState (j : SiteNo) : (s.dropContext i).siteState j = if j = i then .vacant else s.siteState j := by
  unfold State.dropContext
  rw [modSite_siteState]
  split <;> rfl

/-- A site without lines may lose its context. -/
theorem dropContext_linesIndexed {s : State} {i : SiteNo} (free : ∀ r ∈ s.store.lines, r.key.site ≠ i) (hs : s.LinesIndexed) :
    (s.dropContext i).LinesIndexed := by
  refine ⟨hs.order, hs.indices, hs.numbered, hs.room, lowStands_congr (s := s) rfl rfl rfl hs.low, fun r hr => ?_, fun j x hx => hs.staged j x ?_⟩
  · rw [ne_eq, ← siteState_vacant, dropContext_siteState, if_neg (free r hr), siteState_vacant]
    exact hs.owned r hr
  · rw [State.dropContext, modSite_site] at hx
    split at hx
    · rename_i e
      exact e ▸ hx
    · exact hx

theorem freeSite_lines : (s.freeSite i).store.lines = s.store.lines.filter fun r => !(r.key.site == i) := rfl

theorem freeSite_none (r : LineRec) (hr : r ∈ (s.freeSite i).store.lines) : r.key.site ≠ i := by
  rw [freeSite_lines] at hr
  simpa using (List.mem_filter.mp hr).2

theorem unuseTemplate_store : (s.unuseTemplate i).store = s.store := by
  unfold State.unuseTemplate
  split <;> rfl

theorem disarm_keeps (armed : s.siteState i = .armed) : s.Keeps (s.disarm i) g := by
  unfold State.disarm
  have before : s.Stays (((s.freeSite i).unuseTemplate i).modSite i fun y => { y with staged := none }) :=
    ((freeSite_stays s i).trans (unuseTemplate_stays _ i)).trans (unstage_stays _ i)
  have free : ∀ r ∈ (((s.freeSite i).unuseTemplate i).modSite i fun y => { y with staged := none }).store.lines, r.key.site ≠ i := fun r hr => by
    rw [modSite_store, unuseTemplate_store] at hr
    exact freeSite_none s i r hr
  generalize State.modSite _ i _ = t at before free
  refine ⟨before.pendingHost, before.inProgress, fun _ hs => ?_, fun hs => dropContext_linesIndexed free (before.linesIndexed hs)⟩
  refine queuesAgree_of_apart (s := t) (i := i) rfl rfl rfl rfl (fun j e => ?_) ?_ ?_ (before.queuesAgree hs)
  · rw [dropContext_siteState, if_neg e]
  · simp [before.phases, armed]
  · rw [dropContext_siteState, if_pos rfl]
    decide

/-- The part of a release before the promotion (R37). -/
def State.vacated (s : State) (i : SiteNo) : State :=
  let t := s.freeSite i
  let t : State := { t with ex := { t.ex with collectionQueue := t.ex.collectionQueue.filter fun x => !(x == i) } }
  ((t.unuseTemplate i).dropContext i).modSite i fun x => { x with hostHold := false }

theorem release_eq : s.release i = (s.vacated i).promote i := rfl

theorem vacated_siteState (j : SiteNo) : (s.vacated i).siteState j = if j = i then .vacant else s.siteState j := by
  unfold State.vacated
  simp only
  rw [modSite_siteState]
  have used (t : State) : (t.unuseTemplate i).sites = t.sites := by unfold State.unuseTemplate; split <;> rfl
  split
  · rename_i e
    show State.siteState (State.dropContext _ i) i = _
    rw [dropContext_siteState, if_pos rfl]
  · rename_i e
    rw [dropContext_siteState, if_neg e]
    exact siteState_congr (used _) j

theorem vacated_linesIndexed (hs : s.LinesIndexed) : (s.vacated i).LinesIndexed := by
  unfold State.vacated
  simp only
  have emptied := (freeSite_stays s i).linesIndexed hs
  generalize hq : (s.freeSite i).ex.collectionQueue.filter (fun x => !(x == i)) = q
  have released : State.LinesIndexed { s.freeSite i with ex := { (s.freeSite i).ex with collectionQueue := q } } :=
    linesIndexed_of_present (s := s.freeSite i) (fun _ => .rfl) (fun _ => rfl) rfl emptied
  refine (modSite_stays _ i _ rfl fun _ h => h).linesIndexed (dropContext_linesIndexed (fun r hr => ?_) ((unuseTemplate_stays _ i).linesIndexed released))
  rw [unuseTemplate_store] at hr
  exact freeSite_none s i r hr

theorem unuseTemplate_ex : (s.unuseTemplate i).ex = s.ex := by
  unfold State.unuseTemplate
  split <;> rfl

theorem unuseTemplate_engine : (s.unuseTemplate i).engine = s.engine := by
  unfold State.unuseTemplate
  split <;> rfl

theorem unuseTemplate_lists : (s.unuseTemplate i).lists = s.lists := by
  unfold State.unuseTemplate
  split <;> rfl

theorem vacated_ex : (s.vacated i).ex = { s.ex with collectionQueue := s.ex.collectionQueue.filter fun x => !(x == i) } :=
  unuseTemplate_ex _ i

theorem vacated_lists : (s.vacated i).lists = s.lists := unuseTemplate_lists _ i

theorem vacated_engine : (s.vacated i).engine = (s.freeSite i).engine := unuseTemplate_engine _ i

theorem release_linesIndexed (hs : s.LinesIndexed) : (s.release i).LinesIndexed :=
  (promote_keeps (g := True) (s.vacated i) i (by rw [vacated_siteState, if_pos rfl])).lines (vacated_linesIndexed s i hs)

/-! ### The requests -/

theorem onSite_keeps (f : SiteNo → State × Reply) (hf : ∀ i, s.Keeps (f i).1 g) : s.Keeps (s.onSite f).1 g := by
  unfold State.onSite
  split
  · exact (sound_refl s).toKeeps
  · exact hf _

end

theorem recordRefusal_ctx {s : State} {lost : Bool} {line : Option (Axis × Nat)} {i : SiteNo} {d : DomainNo}
    (h : s.recordRefusal true lost line i d = none) : s.ctx i ≠ none := by
  intro e
  simp [State.recordRefusal, e] at h

section
variable {g : Prop} (s : State)

theorem keeps_refl : s.Keeps s g := (sound_refl s).toKeeps

theorem onRecord_keeps (edit lost named : Bool) (f : SiteNo → DomainNo → Axis → State × Reply)
    (hf : ∀ i d a, (edit = true → s.ctx i ≠ none) → s.Keeps (f i d a).1 g) : s.Keeps (s.onRecord edit lost named f).1 g := by
  unfold State.onRecord
  split
  · exact keeps_refl s
  · split
    · split
      · exact keeps_refl s
      · rename_i passed
        exact hf _ _ _ fun e => by subst e; exact recordRefusal_ctx passed
    · exact keeps_refl s

theorem carryRepeats_iff (l : List CarryIn) : carryRepeats l = true ↔ ¬ l.Nodup := by
  induction l with
  | nil => simp [carryRepeats]
  | cons e l ih =>
    simp only [carryRepeats, Bool.or_eq_true, List.contains_iff_mem, ih, List.nodup_cons]
    grind

/-- What an ARM or a STAGE that passes the first five checks names (R18, R188). -/
theorem armFields_ok {s : State} {i : SiteNo} {x : Staged} (h : s.armFields = .ok (i, x)) :
    siteNo? s.armWords.site = some i ∧ templateNo? s.armWords.template = some x.template ∧ policy? s.armWords.policy = some x.policy ∧
      quotaOk s.armWords.quota = true ∧ s.armWords.carryCount ≤ 8 ∧ s.carryInList s.armWords.carryCount = some x.carryIn ∧
      x.carryIn.Nodup ∧ (s.template x.template).active.isSome ∧ x.tag = s.armWords.tag ∧ x.quota = s.armWords.quota := by
  unfold State.armFields at h
  simp only at h
  split at h
  · cases h
  · rename_i hi
    split at h
    · cases h
    · rename_i ht
      split at h
      · rename_i hp hq hl
        split at h
        · cases h
        · rename_i once
          split at h
          · cases h
          · rename_i valid
            cases h
            simp only [Bool.and_eq_true, decide_eq_true_eq] at hq
            rw [carryRepeats_iff, Classical.not_not] at once
            exact ⟨hi, ht, hp, hq.1, hq.2, hl, once, by simpa [Option.isSome_iff_ne_none] using valid, rfl, rfl⟩
      · cases h

theorem armVacant_keeps (i : SiteNo) (x : Staged) (words : List ReplyWord) (vacant : s.siteState i = .vacant) (once : x.carryIn.Nodup) :
    s.Keeps (s.armVacant i x words).1 g := by
  unfold State.armVacant
  split
  · exact keeps_refl s
  · split
    · exact keeps_refl s
    · split
      · exact keeps_refl s
      · split
        · exact keeps_refl s
        · rename_i room
          exact makeCurrent_keeps s i x _ vacant (fun _ => once) (by omega)

theorem stage_keeps (i : SiteNo) (x : Staged) (once : x.carryIn.Nodup) : s.Keeps (s.modSite i fun y => { y with staged := some x }) g := by
  have states : ∀ j, (s.modSite i fun y => { y with staged := some x }).siteState j = s.siteState j := fun j => by
    rw [modSite_siteState]
    split
    · rename_i e
      rw [e]
      rfl
    · rfl
  refine ⟨rfl, rfl, fun _ hs => ?_, fun hs => ?_⟩
  · exact ⟨hs.sweepOnce, fun j => by rw [states]; exact hs.sweeping j, hs.collectOnce, fun j => by rw [states]; exact hs.held j, hs.record, hs.assembly⟩
  · refine ⟨hs.order, hs.indices, hs.numbered, hs.room, lowStands_congr (s := s) rfl rfl rfl hs.low, fun r hr => ?_, fun j y hy => ?_⟩
    · rw [ne_eq, ← siteState_vacant, states, siteState_vacant]
      exact hs.owned r hr
    · rw [modSite_site] at hy
      split at hy
      · cases hy
        exact once
      · exact hs.staged j y hy

theorem lookupFailed_keeps (i : SiteNo) (r : LineRec) : s.Keeps (s.lookupFailed i r).1 g := (integrityFailure_sound s i r .lookup).toKeeps

theorem pinPresent_keeps (r : LineRec) : s.Keeps (s.pinPresent r).1 g := by
  unfold State.pinPresent
  have assigned := (assign_goes (g := g) s .lookup .pinned r.key r.cross).sound
  split
  · rename_i e
    rw [e] at assigned
    exact assigned.toKeeps
  · rename_i e
    rw [e] at assigned
    exact (State.Sound.trans assigned (addFlag_stays ..).sound).toKeeps

theorem pinAbsent_keeps (k : Key) (absent : s.findLine k = none) (present : s.ctx k.site ≠ none) : s.Keeps (s.pinAbsent k).1 g := by
  unfold State.pinAbsent
  split
  · exact keeps_refl s
  · exact keeps_refl s
  · rename_i met
    have taken := takeLine_sound (g := g) s (.assigned .pinned) absent (by have := demand_room met; omega) present
    have spent := taken.trans (modDomain_stays _ k.site k.domain fun r => { r with assigned := r.assigned.inc k.axis }).sound
    exact (spent.trans ((appendSettle_stays _ k.site k.domain).trans (addFlag_stays _ k.site .hostEdited)).sound).toKeeps

theorem retire_keeps (r : LineRec) : s.Keeps (s.retire r).1 g := by
  unfold State.retire
  have apart := (uncrossAll_goes (g := g) .lookup r.key r.cross s).sound
  split
  · rename_i e
    rw [e] at apart
    exact apart.toKeeps
  · rename_i e
    rw [e] at apart
    exact (State.Sound.trans apart ((freeLine_stays _ r.key).trans (addFlag_stays ..)).sound).toKeeps

/-- The five limits of SET-LIMITS with their ranges: number, value, least, greatest (R179). -/
def State.limitFields (s : State) : List (Nat × Nat × Nat × Nat) :=
  [(1, s.param 2, 1, 65535), (2, s.param 3, 1000, 1000000), (3, s.param 4, 1, 255), (4, s.param 5, 8, 12288), (5, s.param 6, 0, 12288)]

/-- The first present limit out of its range refuses the request (R179). -/
theorem find?_cons_ite {α : Type} (p : α → Bool) (a : α) (l : List α) : (a :: l).find? p = if p a then some a else l.find? p := by
  rw [List.find?_cons]
  cases p a <;> rfl

theorem badLimit_eq : s.badLimit =
    (s.limitFields.find? fun (k, v, lo, hi) => (s.reqWord 1).getLsbD (k - 1) && !(decide (lo ≤ v) && decide (v ≤ hi))).map Prod.fst := by
  simp only [State.badLimit, State.limitFields, isPresent, Config.lineRecords, find?_cons_ite, List.find?_nil,
    apply_ite (Option.map Prod.fst), Option.map_some, Option.map_none]
  rfl

theorem setLimits_mark (hs : s.badLimit = none) (mark : s.store.lowWater ≤ 12288) : s.setLimits.store.lowWater ≤ 12288 := by
  have set : s.setLimits.store.lowWater = if isPresent (s.reqWord 1) 5 then s.param 6 else s.store.lowWater := rfl
  rw [badLimit_eq, Option.map_eq_none_iff, List.find?_eq_none] at hs
  have inside := hs (5, s.param 6, 0, 12288) (by simp [State.limitFields])
  rw [set]
  split
  · rename_i given
    unfold isPresent at given
    simp only [given, Bool.true_and] at inside
    simpa using inside
  · exact mark

theorem setLimits_keeps (hs : s.badLimit = none) : s.Keeps s.setLimits g :=
  ⟨rfl, rfl, fun _ q => ⟨q.sweepOnce, q.sweeping, q.collectOnce, q.held, q.record, q.assembly⟩, fun l =>
    ⟨l.order, l.indices, l.numbered, l.room, ⟨setLimits_mark s hs l.low.mark, (lowJudged_idem ..).symm⟩, l.owned, l.staged⟩⟩

/-- The service of a request keeps the queues, the index of the store and the request slots of the engine. -/
theorem serve_keeps (r : Request) : s.Keeps (serve r s).1 g := by
  have core {t : State} (e : t.core = s.core) : s.Keeps t g := (stays_of_core e).sound.toKeeps
  have ex {e : Exporter} (h : e.holdings = s.ex.holdings) : s.Keeps { s with ex := e } g := (stays_of_holdings s e h).sound.toKeeps
  cases r <;> simp only [serve]
  case loadTemplate =>
    unfold serveLoadTemplate
    split
    · exact keeps_refl s
    · simp only
      split
      · exact keeps_refl s
      · exact core rfl
  case queryTemplate => unfold serveQueryTemplate; split <;> exact keeps_refl s
  case arm =>
    unfold serveArm
    split
    · exact keeps_refl s
    · rename_i h
      obtain ⟨-, -, -, -, -, -, once, -⟩ := armFields_ok h
      split
      · rename_i vacant
        exact armVacant_keeps s _ _ _ vacant once
      · exact keeps_refl s
  case stage =>
    unfold serveStage
    split
    · exact keeps_refl s
    · rename_i h
      obtain ⟨-, -, -, -, -, -, once, -⟩ := armFields_ok h
      split
      · rename_i vacant
        exact armVacant_keeps s _ _ _ vacant once
      · split
        · exact keeps_refl s
        · exact stage_keeps s _ _ once
  case unstage => exact onSite_keeps s _ fun i => (unstage_stays s i).sound.toKeeps
  case disarm =>
    refine onSite_keeps s _ fun i => ?_
    split
    · rename_i armed
      exact disarm_keeps s i armed
    · exact keeps_refl s
  case startSites =>
    unfold serveStartSites
    split
    · exact keeps_refl s
    · split
      · exact keeps_refl s
      · rename_i h _ _
        have started (l : List SlotNo) (hl : l.Nodup) (t : State) (ht : ∀ sl ∈ l, t.siteState (siteOf h sl) = .armed) :
            t.Sound (l.foldl (fun t sl => t.startSite (siteOf h sl)) t) g := by
          induction l generalizing t with
          | nil => exact sound_refl t
          | cons sl l ih =>
            obtain ⟨apart, hl⟩ := List.nodup_cons.mp hl
            have first := startSite_sound (g := g) t (siteOf h sl) fun _ => by simp [ht sl List.mem_cons_self]
            refine first.trans (ih hl _ fun sl' hsl' => ?_)
            have other : siteOf h sl' ≠ siteOf h sl := by
              intro e
              have : sl' = sl := Fin.ext (by have := congrArg Fin.val e; simp only [siteOf] at this; omega)
              exact apart (this ▸ hsl')
            rw [State.startSite, State.modCtx, modSite_siteState, if_neg other]
            exact ht sl' (List.mem_cons_of_mem sl hsl')
        refine (started _ (((List.nodup_finRange 32).filter _).filter _) s fun sl hsl => ?_).toKeeps
        have judged := (List.mem_filter.mp hsl).2
        simp only [State.judgeStart, beq_iff_eq] at judged
        split at judged
        · cases judged
        · split at judged
          · assumption
          · cases judged
  case close =>
    refine onSite_keeps s _ fun i => ?_
    split
    · exact keeps_refl s
    · rename_i h
      exact (toSweeping_sound s i fun _ => .inl h).toKeeps
    · rename_i h
      exact (enterDraining_sound s i fun _ => by simp [h]).toKeeps
    all_goals exact keeps_refl s
  case abort =>
    refine onSite_keeps s _ fun i => ?_
    have freed : s.Stays ((s.freeSite i).setReason i .aborted) := (freeSite_stays s i).trans (setReason_stays ..)
    split
    · exact keeps_refl s
    · exact keeps_refl s
    · exact keeps_refl s
    · rename_i h
      exact (freed.sound.trans (enterDraining_sound _ i fun _ => by simp [freed.phases, h])).toKeeps
    · exact freed.sound.toKeeps
    · rename_i h
      exact (freed.sound.trans (toHeld_sound _ i fun _ => (freed.phases i).trans h)).toKeeps
  case holdSite =>
    refine onSite_keeps s _ fun i => ?_
    split
    · exact keeps_refl s
    · exact (modSite_stays s i (fun y => { y with hostHold := true }) rfl fun _ h => h).sound.toKeeps
  case releaseHold => exact onSite_keeps s _ fun i => (modSite_stays s i (fun y => { y with hostHold := false }) rfl fun _ h => h).sound.toKeeps
  case querySite => exact onSite_keeps s _ fun i => core rfl
  case takeStopNotices | queryIntegrity | queryCoincidence | queryPart | setAttention | queryExport => exact core rfl
  case lookupLine =>
    refine onRecord_keeps s _ _ _ _ fun i d a _ => ?_
    split
    · exact keeps_refl s
    · split
      · exact keeps_refl s
      · exact lookupFailed_keeps ..
  case listLines =>
    unfold serveListLines
    split
    · exact keeps_refl s
    · split
      · split
        · exact keeps_refl s
        · unfold State.listPage
          simp only
          split
          · exact lookupFailed_keeps ..
          · exact keeps_refl s
      · exact keeps_refl s
  case pinLine =>
    refine onRecord_keeps s _ _ _ _ fun i d a present => ?_
    simp only
    split
    · rename_i absent
      split
      · exact keeps_refl s
      · exact pinAbsent_keeps s _ absent (present rfl)
    · split
      · exact lookupFailed_keeps ..
      · split
        · exact keeps_refl s
        · split
          · exact keeps_refl s
          · exact pinPresent_keeps ..
  case retireLine =>
    refine onRecord_keeps s _ _ _ _ fun i d a _ => ?_
    split
    · exact keeps_refl s
    · split
      · exact lookupFailed_keeps ..
      · split
        · exact retire_keeps ..
        · exact keeps_refl s
  case markSpareDefective =>
    refine onRecord_keeps s _ _ _ _ fun i d a _ => ?_
    split
    · exact keeps_refl s
    · have spent := modDomain_stays s i d fun r => { r with defective := r.defective.inc a }
      exact ((spent.trans (appendSettle_stays _ i d)).trans (addFlag_stays _ i .hostEdited)).sound.toKeeps
  case setCoincidence =>
    unfold serveSetCoincidence
    simp only
    split
    · exact keeps_refl s
    · split
      · exact keeps_refl s
      · exact core rfl
  case listCoincidence => unfold serveListCoincidence; split <;> exact keeps_refl s
  case clearTrip =>
    unfold serveClearTrip
    split
    · split
      · split
        · exact keeps_refl s
        · split
          · exact core rfl
          · exact keeps_refl s
      · exact keeps_refl s
    · split
      · exact keeps_refl s
      · exact core rfl
    · exact core rfl
    · exact keeps_refl s
  case linkEnable =>
    unfold serveLinkEnable
    split
    · exact keeps_refl s
    · split
      · exact core rfl
      all_goals exact keeps_refl s
  case linkReset =>
    unfold serveLinkReset
    split
    · exact keeps_refl s
    · simp only
      split
      · exact keeps_refl s
      · have left (h : HeadNo) : s.Stays (if (s.link h).state = .up then s.linkLeftUp h else s) := by
          split
          · exact linkLeftUp_stays s h
          · exact stays_refl s
        have down (t : State) (h : HeadNo) : t.Stays (t.setLink h Link.down) := stays_of_core rfl
        exact (((left _).trans (clearHeadHolds_stays _ _)).trans (down _ _)).sound.toKeeps
  case queryLink => unfold serveQueryLink; split; exact keeps_refl s; exact core rfl
  case giveExportChain =>
    unfold serveGiveExportChain
    simp only
    split
    · exact keeps_refl s
    · split
      · exact ex (startFetch_holdings ..)
      · split
        · exact ex (startFetch_holdings ..)
        · exact keeps_refl s
  case flushExport =>
    unfold serveFlushExport
    split
    · split
      · exact core rfl
      · exact ex (close_holdings ..)
    · exact keeps_refl s
  case resumeExport => unfold serveResumeExport; split; exact keeps_refl s; exact ex (resume_holdings ..)
  case abandonBuffer =>
    unfold serveAbandonBuffer
    split
    · exact keeps_refl s
    · rename_i k _
      by_cases hk : k = .write
      · have emptied : s.Stays { s with ex := { s.ex with buffer := none } } :=
          ⟨rfl, rfl, rfl, rfl, nofun, fun _ h => h, fun _ => rfl, fun _ _ h => h, .refl _, lowStands_congr rfl rfl rfl⟩
        refine (emptied.trans (stays_of_holdings { s with ex := { s.ex with buffer := none } } (s.ex.abandon k) ?_)).sound.toKeeps
        rw [abandon_holdings, if_pos hk]
      · exact ex (by rw [abandon_holdings, if_neg hk])
  case setLimits =>
    unfold serveSetLimits
    split
    · exact keeps_refl s
    · rename_i h
      exact setLimits_keeps s h

end

end Sys2Proof.Machine
end

section
/-! Every command keeps the queues in agreement with the site states, the port in agreement with the engine's requests, and the index of the store
(R36, R44, R46, R56, R65, R111, R176 to R178). -/

namespace Sys2Proof.Machine

/-- From s to t the three invariants last. -/
structure State.Lasts (s t : State) : Prop where
  queues : s.QueuesAgree → t.QueuesAgree
  lines : s.LinesIndexed → t.LinesIndexed
  request : s.RequestAgrees → t.RequestAgrees

theorem lasts_refl (s : State) : s.Lasts s := ⟨id, id, id⟩

theorem State.Lasts.trans {s t u : State} (a : s.Lasts t) (b : t.Lasts u) : s.Lasts u :=
  ⟨b.queues ∘ a.queues, b.lines ∘ a.lines, b.request ∘ a.request⟩

theorem requestAgrees_congr {s t : State} (port : t.port.state = s.port.state) (pendingHost : t.engine.pendingHost = s.engine.pendingHost)
    (inProgress : t.engine.inProgress = s.engine.inProgress) (hs : s.RequestAgrees) : t.RequestAgrees :=
  ⟨by rw [port, pendingHost, inProgress]; exact hs.running, by rw [pendingHost, inProgress]; exact hs.one⟩

theorem State.RequestAgrees.idle {s : State} (hs : s.RequestAgrees) (port : s.port.state ≠ .running) :
    s.engine.pendingHost = none ∧ ∀ reply, s.engine.inProgress ≠ some (.host reply) := by
  have away := mt hs.running.mpr port
  rw [not_or, Classical.not_not] at away
  exact ⟨away.1, fun reply h => away.2 ⟨reply, h⟩⟩

theorem requestAgrees_of_idle {s : State} (port : s.port.state ≠ .running) (pending : s.engine.pendingHost = none)
    (free : ∀ reply, s.engine.inProgress ≠ some (.host reply)) : s.RequestAgrees :=
  ⟨iff_of_false port (not_or.mpr ⟨Classical.not_not.mpr pending, fun ⟨reply, h⟩ => free reply h⟩), fun h => absurd pending h⟩

theorem State.Keeps.lasts {s t : State} {g : Prop} (k : s.Keeps t g) (hg : s.QueuesAgree → g) (port : t.port.state = s.port.state) : s.Lasts t :=
  ⟨fun hs => k.queues (hg hs) hs, k.lines, requestAgrees_congr port k.pendingHost k.inProgress⟩

theorem State.Stays.lasts {s t : State} (st : s.Stays t) (port : t.port.state = s.port.state) : s.Lasts t :=
  (st.sound (g := True)).lasts (fun _ => trivial) port

theorem lasts_of_core {s t : State} (e : t.core = s.core) (port : t.port.state = s.port.state) : s.Lasts t := (stays_of_core e).lasts port

/-- The queues and the store do not look at the request slots of the engine, nor at the port. -/
theorem queuesAgree_congr {s t : State} (lists : t.lists.sweepQueue = s.lists.sweepQueue) (ex : t.ex = s.ex) (sites : t.sites = s.sites)
    (hs : s.QueuesAgree) : t.QueuesAgree := by
  have state := siteState_congr sites
  refine ⟨lists ▸ hs.sweepOnce, fun i => ?_, ex ▸ hs.collectOnce, fun i => ?_, ex ▸ hs.record, ex ▸ hs.assembly⟩
  · rw [lists, state i]
    exact hs.sweeping i
  · rw [ex, state i]
    exact hs.held i

theorem linesIndexed_congr {s t : State} (sites : t.sites = s.sites) (store : t.store = s.store) (hs : s.LinesIndexed) : t.LinesIndexed :=
  linesIndexed_of_present (s := s) (fun i => by rw [siteState_congr sites]) (fun i => by rw [site_congr sites]) store hs

section
variable (s : State)

/-! ### The end of an event, and the grants (R63 to R66) -/

theorem beginWrite_holdings (e : Exporter) : e.beginWrite.holdings = e.holdings := by
  unfold Exporter.beginWrite
  split <;> rfl

theorem beginAssembly_assembling {e : Exporter} {i : SiteNo} (h : e.beginAssembly.assembling = some i) :
    e.assembling = some i ∨ (i ∈ e.collectionQueue ∧ e.buffer = none) := by
  unfold Exporter.beginAssembly at h
  split at h
  · rename_i queue buffer _ _
    obtain rfl := Option.some.inj h
    exact .inr ⟨queue ▸ List.mem_cons_self, buffer⟩
  · exact .inl h

theorem finish_assembling {i : SiteNo} (h : s.finish.ex.assembling = some i) :
    s.ex.assembling = some i ∨ (i ∈ s.ex.collectionQueue ∧ s.ex.buffer = none) := by
  have followed := congrArg Exporter.assembling (finish_ex_keeps s)
  have begun : s.finish.ex.assembling = s.ex.beginWrite.beginAssembly.assembling := followed
  have kept := beginWrite_holdings s.ex
  simp only [Exporter.holdings, Prod.mk.injEq] at kept
  obtain ⟨queue, buffer, assembling, -⟩ := kept
  have cases := beginAssembly_assembling (begun ▸ h)
  rwa [queue, buffer, assembling] at cases

theorem finish_lasts : s.Lasts s.finish where
  queues hs := by
    refine ⟨by simpa using hs.sweepOnce, by simpa using hs.sweeping, by simpa using hs.collectOnce, by simpa using hs.held,
      by simpa using hs.record, fun i hi => ?_⟩
    rw [finish_collectionQueue, finish_buffer]
    rcases finish_assembling s hi with already | begins
    · exact hs.assembly i already
    · exact begins
  lines := linesIndexed_of_present (by simp) (by simp) (finish_store s)
  request := requestAgrees_congr (by simp) (by simp) (by simp)

theorem backgroundDue_cases : s.backgroundDue = .sweep ∨ s.backgroundDue = .settle ∨ s.backgroundDue = .nothing := by
  unfold State.backgroundDue
  split
  · exact .inl rfl
  · split
    · exact .inr (.inl rfl)
    · exact .inr (.inr rfl)

/-- The next grant is that of a host request exactly while one is pending (R65). -/
theorem nextGrant_host {r : Request} : s.nextGrant = .host r ↔ s.engine.pendingHost = some r := by
  unfold State.nextGrant
  split
  · rename_i q hq
    simp [hq]
  · rename_i hq
    simp only [hq, reduceCtorEq, iff_false]
    rcases backgroundDue_cases s with h | h | h <;> cases s.chooseHead <;> simp only [h]
    all_goals try split
    all_goals nofun

theorem due_cases (h : s.due ≠ .nothing) : s.isHeld = false ∧ s.engine.inProgress = none ∧ s.due = s.nextGrant := by
  unfold State.due at h ⊢
  split at h
  · exact absurd rfl h
  · rename_i free
    rw [if_neg free]
    simpa using free

theorem due_host {s : State} {r : Request} (h : s.due = .host r) : s.engine.pendingHost = some r ∧ s.engine.inProgress = none := by
  obtain ⟨-, free, next⟩ := due_cases s (by rw [h]; nofun)
  exact ⟨(nextGrant_host s).mp (next ▸ h), free⟩

theorem due_background {s : State} (h : s.due ≠ .nothing) (hr : ∀ r, s.due ≠ .host r) : s.engine.pendingHost = none ∧ s.engine.inProgress = none := by
  obtain ⟨-, free, next⟩ := due_cases s h
  refine ⟨?_, free⟩
  cases pending : s.engine.pendingHost with
  | none => rfl
  | some r => exact absurd (next.trans ((nextGrant_host s).mpr pending)) (hr r)

/-- The state in which a pending host request is served: it has left its place (R65). -/
def State.unqueued (s : State) : State := { s with engine := { s.engine with pendingHost := none } }

/-- The state in which the reply of a served request waits for the completion of its work item (R65). -/
def State.working (s : State) (w : WorkItem) : State := { s with engine := { s.engine with inProgress := some w } }

theorem grantHost_eq (r : Request) : s.grantHost r = (serve r s.unqueued).1.working (.host (serve r s.unqueued).2) := rfl

/-- A change of the request slots of the engine, or of the port. -/
theorem lasts_of_request {s t : State} (lists : t.lists = s.lists) (ex : t.ex = s.ex) (sites : t.sites = s.sites) (store : t.store = s.store)
    (request : s.RequestAgrees → t.RequestAgrees) : s.Lasts t :=
  ⟨queuesAgree_congr (by rw [lists]) ex sites, linesIndexed_congr sites store, request⟩

/-- The service of the pending host request makes it the work item in progress (R65). -/
theorem grantHost_lasts {r : Request} (pending : s.engine.pendingHost = some r) : s.Lasts (s.grantHost r) := by
  have served := serve_keeps s.unqueued (g := True) r
  have port : (serve r s.unqueued).1.port = s.port := (serve_within r s.unqueued).port
  rw [grantHost_eq]
  generalize serve r s.unqueued = u at served port
  refine ⟨fun hs => ?_, fun hs => ?_, fun hs => ?_⟩
  · exact queuesAgree_congr (s := u.1) rfl rfl rfl (served.queues trivial (queuesAgree_congr (s := s) rfl rfl rfl hs))
  · exact linesIndexed_congr (s := u.1) rfl rfl (served.lines (linesIndexed_congr (s := s) rfl rfl hs))
  · have gone : u.1.engine.pendingHost = none := served.pendingHost
    have running : u.1.port.state = .running := by
      rw [port, hs.running, pending]
      exact .inl nofun
    exact ⟨⟨fun _ => .inr ⟨_, rfl⟩, fun _ => running⟩, fun h => absurd gone h⟩

/-- A grant that is not a host request's: the item becomes the work in progress, with the place of the rotation in `turn` (R66). -/
theorem grant_lasts {t u : State} {w : WorkItem} {g : Prop} (worked : s.Sound t g) (hg : s.QueuesAgree → g) (port : t.port = s.port)
    (pending : s.engine.pendingHost = none) (free : s.engine.inProgress = none) (hw : ∀ reply, w ≠ .host reply)
    (rest : u.lists = t.lists ∧ u.ex = t.ex ∧ u.sites = t.sites ∧ u.store = t.store ∧ u.port = t.port)
    (slots : u.engine.pendingHost = t.engine.pendingHost ∧ u.engine.inProgress = some w) : s.Lasts u := by
  obtain ⟨lists, ex, sites, store, same⟩ := rest
  obtain ⟨slot, item⟩ := slots
  refine ⟨fun hs => queuesAgree_congr (by rw [lists]) ex sites (worked.queues (hg hs) hs), fun hs => linesIndexed_congr sites store (worked.lines hs),
    fun hs => ⟨?_, fun h => ?_⟩⟩
  · rw [same, port, hs.running, slot, worked.pendingHost, pending, item, free]
    simp [hw]
  · rw [slot, worked.pendingHost, pending] at h
    exact absurd rfl h

theorem perform_lasts {d : Due} (hd : s.due = d) : s.Lasts (s.perform d) := by
  cases d with
  | nothing => exact lasts_refl s
  | host r => exact grantHost_lasts s (due_host hd).1
  | sweep =>
    obtain ⟨pending, free⟩ := due_background (s := s) (by rw [hd]; nofun) (by rw [hd]; nofun)
    exact grant_lasts s (w := .sweep) (sweepStep_sound s) (fun hs i hi => (hs.sweeping i).mp hi) (sweepStep_within s).port pending free nofun
      ⟨rfl, rfl, rfl, rfl, rfl⟩ ⟨rfl, rfl⟩
  | settle =>
    obtain ⟨pending, free⟩ := due_background (s := s) (by rw [hd]; nofun) (by rw [hd]; nofun)
    exact grant_lasts s (w := .settle) (settleStep_sound s (g := True)) (fun _ => trivial) (settleStep_within s).port pending free nofun
      ⟨rfl, rfl, rfl, rfl, rfl⟩ ⟨rfl, rfl⟩
  | intake h =>
    obtain ⟨pending, free⟩ := due_background (s := s) (by rw [hd]; nofun) (by rw [hd]; nofun)
    exact grant_lasts s (w := .intake) (takeItem_sound s (g := True) h) (fun _ => trivial) (takeItem_within s h).port pending free nofun
      ⟨rfl, rfl, rfl, rfl, rfl⟩ ⟨rfl, rfl⟩

theorem catchUp_lasts : s.Lasts s.catchUp := by
  by_cases h : s.due = .nothing
  · rw [due_nothing_catchUp h]
    exact lasts_refl s
  · rw [catchUp_of_due rfl h]
    exact (perform_lasts s rfl).trans (finish_lasts _)

theorem atEvent_lasts (f : State → State) (hf : ∀ t, State.Lasts t (f t)) : s.Lasts (s.atEvent f) := by
  unfold State.atEvent
  split
  · exact lasts_refl s
  · exact ((catchUp_lasts s).trans (hf _)).trans (finish_lasts _)

theorem grantRow_lasts (p : State → Due → Bool) : s.Lasts (s.grantRow p) := by
  unfold State.grantRow
  split
  · exact catchUp_lasts s
  · exact lasts_refl s

/-! ### The port (R176 to R178) -/

/-- A request served at its GO, or refused there, leaves the port REPLIED. -/
theorem postReply_lasts {s t : State} (ready : s.port.state = .ready) (served : s.Keeps t True) (reply : Reply) : s.Lasts (t.postReply reply) := by
  refine ⟨fun hs => queuesAgree_congr (s := t) rfl rfl rfl (served.queues trivial hs), fun hs => linesIndexed_congr (s := t) rfl rfl (served.lines hs),
    fun hs => requestAgrees_of_idle nofun ?_ ?_⟩
  · exact served.pendingHost.trans (hs.idle (by rw [ready]; nofun)).1
  · intro r h
    exact (hs.idle (by rw [ready]; nofun)).2 r (served.inProgress ▸ h)

theorem portState_keeps (p : PortState) : s.Keeps { s with port := { s.port with state := p } } True :=
  ((stays_of_core (s := s) (t := { s with port := { s.port with state := p } }) rfl).sound (g := True)).toKeeps

theorem goWritten_lasts : s.Lasts s.goWritten := by
  unfold State.goWritten
  split
  · rename_i ready
    simp only
    split
    · rename_i r _
      unfold State.route
      split
      · refine lasts_of_request rfl rfl rfl rfl fun hs => ⟨⟨fun _ => .inl nofun, fun _ => rfl⟩, fun _ => ?_⟩
        exact (hs.idle (by rw [ready]; nofun)).2
      · exact postReply_lasts ready ((portState_keeps s _).trans (serve_keeps _ r)) _
    · exact postReply_lasts ready (portState_keeps s _) _
  all_goals exact lasts_of_core rfl rfl

theorem releaseWritten_lasts : s.Lasts s.releaseWritten := by
  have ready (h : s.port.state ≠ .running) (p : Port) (hp : p.state ≠ .running) : s.Lasts { s with port := p } :=
    lasts_of_request rfl rfl rfl rfl fun hs => requestAgrees_of_idle hp (hs.idle h).1 (hs.idle h).2
  unfold State.releaseWritten
  split
  · rename_i h; exact ready (by rw [h]; nofun) _ nofun
  · rename_i h; exact ready (by rw [h]; nofun) _ nofun
  · exact lasts_of_core rfl rfl

theorem requestWordWritten_lasts (k : Fin 16) (v : Word) : s.Lasts (s.requestWordWritten k v) := by
  unfold State.requestWordWritten
  split <;> exact lasts_of_core rfl rfl

/-- The completion of a host request's work item posts its reply; no request waits beside it (R65). -/
theorem workItemDone_lasts : s.Lasts s.workItemDone := by
  unfold State.workItemDone
  split
  · rename_i reply item
    refine lasts_of_request rfl rfl rfl rfl fun hs => requestAgrees_of_idle nofun ?_ nofun
    refine Classical.byContradiction fun waits => ?_
    exact hs.one waits reply item
  · rename_i other
    refine lasts_of_request rfl rfl rfl rfl fun hs => ⟨?_, nofun⟩
    rw [hs.running]
    exact ⟨fun h => h.imp_right fun ⟨reply, item⟩ => absurd item (other reply), fun h => h.imp_right nofun⟩

/-! ### The links and the timers (R29, R145 to R150, R155) -/

theorem modLink_lasts (h : HeadNo) (f : Link → Link) : s.Lasts (s.modLink h f) := (modLink_stays s h f).lasts rfl

theorem linkFault_lasts (h : HeadNo) : s.Lasts (s.linkFault h) := (linkFault_stays s h).lasts (by rw [(linkFault_within s h).port])

theorem enterUp_lasts (h : HeadNo) (serial : BitVec 16) (slotCount : Byte) : s.Lasts (s.enterUp h serial slotCount) :=
  lasts_of_core rfl rfl

theorem receiveHello_lasts (h : HeadNo) (serial : BitVec 16) (slotCount level : Byte) : s.Lasts (s.receiveHello h serial slotCount level) := by
  unfold State.receiveHello
  split
  · split
    · exact enterUp_lasts s h serial slotCount
    · exact modLink_lasts s h _
  · exact (modLink_lasts s h _).trans (modLink_lasts _ h _)
  all_goals exact lasts_refl s

theorem receiveCounted_lasts (h : HeadNo) (f : UpFrame) : s.Lasts (s.receiveCounted h f) := by
  unfold State.receiveCounted
  split
  · simp only
    split
    · exact (modLink_lasts s h _).trans (modLink_lasts _ h _)
    · exact ((modLink_lasts s h _).trans (modLink_lasts _ h _)).trans ((modLink_lasts _ h _).trans (linkFault_lasts _ h))
  all_goals exact lasts_refl s

theorem receiveBad_lasts (h : HeadNo) : s.Lasts (s.receiveBad h) := by
  have flagged (t : State) : t.Lasts (t.flagTested h .suspect) := (flagTested_stays t h _).lasts (by rw [(flagTested_within t h _).port])
  unfold State.receiveBad
  split
  · exact modLink_lasts s h _
  · have counted := ((modLink_lasts s h _).trans (flagged (s.addCause h .badFrame))).trans (modLink_lasts _ h fun l => { l with badCount := l.badCount + 1 })
    simp only
    split
    · exact counted.trans (modLink_lasts _ h _)
    · exact counted.trans ((modLink_lasts _ h _).trans (linkFault_lasts _ h))
  all_goals exact lasts_refl s

theorem clockAt_lasts (n : Nat) : s.Lasts (s.clockAt n) := lasts_of_core rfl rfl

theorem trainingPassed_lasts (h : HeadNo) : s.Lasts (s.trainingPassed h) := by
  unfold State.trainingPassed State.trainingExpired
  split
  · split
    · exact ((clockAt_lasts s _).trans (modLink_lasts _ h _)).trans ((modLink_lasts _ h _).trans (modLink_lasts _ h _))
    · exact clockAt_lasts s _
  · exact lasts_refl s

theorem drainPassed_lasts (i : SiteNo) : s.Lasts (s.drainPassed i) := by
  unfold State.drainPassed
  split
  · rename_i t _
    split
    · rename_i draining
      have flagged : s.Stays ((s.clockAt t).addFlag i .drainTimeout) := (stays_of_core (s := s) (t := s.clockAt t) rfl).trans (addFlag_stays _ i _)
      have swept := toSweeping_sound (g := True) _ i fun _ => .inr (.inr ((flagged.phases i).trans draining))
      exact (flagged.lasts rfl).trans (swept.lasts (fun _ => trivial) rfl)
    · exact lasts_refl s
  · exact lasts_refl s

theorem frameDone_lasts (h : HeadNo) : s.Lasts (s.frameDone h) := modLink_lasts s h _

/-! ### The Export Engine (R163, R164, R166, R168, R169) -/

theorem busExpired_lasts : s.Lasts s.busExpired := by
  unfold State.busExpired
  split
  · exact lasts_of_core rfl rfl
  · exact lasts_refl s

theorem descriptorRead_lasts (data : Word) : s.Lasts (s.descriptorRead data) := by
  unfold State.descriptorRead
  split
  · exact (stays_of_holdings s _ (readAccepted_holdings s.clearAccess.ex _ data)).lasts rfl
  · exact lasts_refl s

theorem writeBackDone_lasts : s.Lasts s.writeBackDone := by
  unfold State.writeBackDone
  split
  · simp only
    split <;> exact lasts_of_core rfl rfl
  · exact lasts_refl s

theorem clearAccess_lasts : s.Lasts s.clearAccess := lasts_of_core rfl rfl

theorem statusWordIn_lasts : s.Lasts s.statusWordIn := by
  unfold State.statusWordIn
  split
  · exact (clearAccess_lasts s).trans (writeBackDone_lasts _)
  · exact lasts_refl s

theorem integrityFailure_assembling (i : SiteNo) (r : LineRec) (a : Activity) : (s.integrityFailure i r a).ex.assembling = s.ex.assembling := by
  have captured (t : State) : (t.captureError i r.index a).ex = t.ex := by
    unfold State.captureError
    split <;> rfl
  rw [State.integrityFailure, captured]
  unfold State.loseLines State.moveLost
  split <;> rfl

/-- The record of the assembled site is placed; the site stays in the Collection Queue (R166). -/
theorem placeRecord_lasts {i : SiteNo} (assembling : s.ex.assembling = some i) (words : List Word) :
    s.Lasts { s with ex := { s.ex with assembling := none, buffer := some { site := i, words } } } := by
  refine ⟨fun hs => ⟨hs.sweepOnce, hs.sweeping, hs.collectOnce, hs.held, fun r hr => ?_, nofun⟩, linesIndexed_congr rfl rfl, requestAgrees_congr rfl rfl rfl⟩
  obtain rfl := Option.some.inj hr
  exact (hs.assembly i assembling).1

theorem completeAssembly_lasts : s.Lasts s.completeAssembly := by
  unfold State.completeAssembly
  split
  · exact lasts_refl s
  · rename_i i assembling
    simp only
    split
    · rename_i r _
      split
      · have lost := integrityFailure_sound s i (g := True) r .assembly
        refine (lost.lasts (fun _ => trivial) ?_).trans (placeRecord_lasts _ ?_ _)
        · rw [(integrityFailure_within ..).port]
        · rw [integrityFailure_assembling, assembling]
      · exact placeRecord_lasts s assembling _
    · exact placeRecord_lasts s assembling _

/-- A HELD site that leaves the Collection Queue with its record written. -/
theorem queuesAgree_of_released {s t : State} {i : SiteNo} (held : s.siteState i = .held) (sweepQueue : t.lists.sweepQueue = s.lists.sweepQueue)
    (queue : t.ex.collectionQueue = s.ex.collectionQueue.filter fun x => !(x == i)) (buffer : t.ex.buffer = none) (assembling : t.ex.assembling = none)
    (others : ∀ j, j ≠ i → t.siteState j = s.siteState j) (self : t.siteState i ≠ .sweeping ∧ t.siteState i ≠ .held) (hs : s.QueuesAgree) :
    t.QueuesAgree := by
  refine ⟨sweepQueue ▸ hs.sweepOnce, fun j => ?_, queue ▸ hs.collectOnce.filter _, fun j => ?_, fun x hx => ?_, fun j hj => ?_⟩
  · rw [sweepQueue, hs.sweeping]
    by_cases e : j = i
    · simp [e, self, held]
    · rw [others j e]
  · rw [queue, List.mem_filter, hs.held]
    by_cases e : j = i
    · simp [e, self]
    · simp [e, others j e]
  · cases buffer.symm.trans hx
  · cases assembling.symm.trans hj

/-- The release of a site whose record is written (R37, R168). -/
theorem releaseRecord_lasts {r : Record} (written : s.ex.buffer = some r) (n : Nat) :
    s.Lasts { s.release r.site with ex := (s.release r.site).ex.recordDone n } := by
  have vacant : (s.vacated r.site).siteState r.site = .vacant := by rw [vacated_siteState, if_pos rfl]
  have promoted := promote_keeps (g := True) _ _ vacant
  have slots : (s.release r.site).engine.pendingHost = s.engine.pendingHost ∧ (s.release r.site).engine.inProgress = s.engine.inProgress := by
    have emptied := freeSite_stays s r.site
    rw [release_eq, promoted.pendingHost, promoted.inProgress, vacated_engine, emptied.pendingHost, emptied.inProgress]
    exact ⟨rfl, rfl⟩
  have port : (s.release r.site).port = s.port := (release_within s r.site).port
  refine ⟨fun hs => ?_, fun hs => linesIndexed_congr (s := s.release r.site) rfl rfl (release_linesIndexed s _ hs),
    requestAgrees_congr (by rw [port]) slots.1 slots.2⟩
  have others (j) (hj : j ≠ r.site) : (s.release r.site).siteState j = s.siteState j := by
    rw [release_eq, promote_siteState _ _ j hj, vacated_siteState, if_neg hj]
  have self : (s.release r.site).siteState r.site ≠ .sweeping ∧ (s.release r.site).siteState r.site ≠ .held := by
    rw [release_eq]
    rcases promote_siteState_self _ _ vacant with h | h <;> simp [h]
  have held : s.siteState r.site = .held := (hs.held _).mp (hs.record r written)
  have unassembled : s.ex.assembling = none := by
    refine Classical.byContradiction fun h => ?_
    obtain ⟨j, hj⟩ := Option.ne_none_iff_exists'.mp h
    rw [(hs.assembly j hj).2] at written
    cases written
  have ex : (s.release r.site).ex = { s.ex with collectionQueue := s.ex.collectionQueue.filter fun x => !(x == r.site) } := by
    rw [release_eq, promote_ex, vacated_ex]
  have done := recordDone_holdings (s.release r.site).ex n
  rw [ex] at done ⊢
  simp only [Exporter.holdings, Prod.mk.injEq] at done
  obtain ⟨queue, buffer, assembling, -⟩ := done
  have sweepQueue : (s.release r.site).lists.sweepQueue = s.lists.sweepQueue := by rw [release_eq, promote_sweepQueue, vacated_lists]
  exact queuesAgree_of_released held sweepQueue queue buffer (assembling.trans unassembled) others self hs

theorem recordWordIn_lasts : s.Lasts s.recordWordIn := by
  unfold State.recordWordIn
  split
  · refine (clearAccess_lasts s).trans ?_
    generalize s.clearAccess = t
    unfold State.recordWordDone
    split
    · rename_i r n written _
      split
      · exact lasts_of_core rfl rfl
      · exact releaseRecord_lasts t written _
    · exact lasts_refl t
  · exact lasts_refl s

/-! ### The rows and the resets (R177, R185, R186) -/

theorem directRow_lasts (r : Request) : s.Lasts (s.directRow r) := by
  unfold State.directRow
  split
  · exact atEvent_lasts s _ goWritten_lasts
  · exact lasts_refl s

/-- A part whose sites are all vacant and whose queues, store and engine are empty meets the three invariants. -/
theorem invariants_of_empty {t : State} (sites : t.sites = Vector.replicate 256 Site.vacantSite) (sweepQueue : t.lists.sweepQueue = [])
    (queue : t.ex.collectionQueue = []) (buffer : t.ex.buffer = none) (assembling : t.ex.assembling = none) (lines : t.store.lines = [])
    (low : t.store.low = false) (engine : t.engine = Engine.idle) (port : t.port.state = .ready) :
    t.QueuesAgree ∧ (t.store.lowWater ≤ 12288 → t.LinesIndexed) ∧ t.RequestAgrees := by
  have site (i : SiteNo) : t.site i = Site.vacantSite := by simp [State.site, sites]
  have state (i : SiteNo) : t.siteState i = .vacant := by rw [State.siteState, site]; rfl
  refine ⟨⟨by simp [sweepQueue], by simp [sweepQueue, state], by simp [queue], by simp [queue, state], by simp [buffer], by simp [assembling]⟩,
    fun mark => ?_, requestAgrees_of_idle (by simp [port]) (by rw [engine]; rfl) (by rw [engine]; nofun)⟩
  refine ⟨by simp [lines], by simp [lines], by simp [lines], by simp [lines], ⟨mark, ?_⟩, by simp [lines], fun i x h => ?_⟩
  · have free : t.freeCount = 12288 := by simp [State.freeCount, lines]
    rw [low, free, lowJudged]
    simp [mark]
  · rw [site] at h
    cases h

theorem softResetValues_lasts : s.Lasts s.softResetValues := by
  have empty := invariants_of_empty (t := s.softResetValues) rfl rfl rfl rfl rfl rfl rfl rfl rfl
  exact ⟨fun _ => empty.1, fun hs => empty.2.1 hs.low.mark, fun _ => empty.2.2⟩

theorem powerOnReset_lasts : s.Lasts s.powerOnReset := by
  have empty := invariants_of_empty (t := s.powerOnReset) rfl rfl rfl rfl rfl rfl rfl rfl rfl
  exact ⟨fun _ => empty.1, fun _ => empty.2.1 (Nat.le_of_ble_eq_true rfl), fun _ => empty.2.2⟩

theorem setSoftWord_lasts (v : Word) : s.Lasts (s.setSoftWord v) := lasts_of_core rfl rfl

theorem softWordWritten_lasts (v : Word) : s.Lasts (s.softWordWritten v) := by
  have written (t : State) : t.Lasts (t.setSoftWord v).finish := (setSoftWord_lasts t v).trans (finish_lasts _)
  unfold State.softWordWritten
  split
  · exact lasts_refl s
  · split
    · split
      · exact setSoftWord_lasts s v
      · exact written s
    · split
      · exact ((catchUp_lasts s).trans (softResetValues_lasts _)).trans (setSoftWord_lasts _ v)
      · exact (catchUp_lasts s).trans (written _)

theorem powerOnRelease_lasts : s.Lasts s.powerOnRelease := by
  unfold State.powerOnRelease
  split
  · exact State.Lasts.trans (t := { s with porHeld := false }) (lasts_of_core rfl rfl) (finish_lasts _)
  · exact lasts_refl s

end

/-- Every command keeps the three invariants. -/
theorem exec_lasts (c : Instr) (s : State) : ∃ t, exec c s = .next t ∧ s.Lasts t := by
  cases c
  case powerOnReset => exact ⟨_, rfl, powerOnReset_lasts s⟩
  case powerOnResetRelease => exact ⟨_, rfl, powerOnRelease_lasts s⟩
  case softReset | softResetRelease => exact ⟨_, rfl, softWordWritten_lasts s _⟩
  case ack =>
    simp only [exec, execAck]
    split
    · exact ⟨_, rfl, lasts_of_core rfl rfl⟩
    · exact ⟨_, rfl, atEvent_lasts s _ fun t => lasts_of_core rfl rfl⟩
  case stage =>
    refine ⟨_, rfl, ?_⟩
    split
    · exact directRow_lasts s _
    · exact grantRow_lasts s _
  case sweepStep | settleStep | failFrameTaken | endTaken | holdTaken | linkLostMarkerTaken => exact ⟨_, rfl, grantRow_lasts s _⟩
  case arm | disarm | abort | lookupLine | listLines | pinLine | retireLine | markSpareDefective => exact ⟨_, rfl, grantRow_lasts s _⟩
  case go => exact ⟨_, rfl, atEvent_lasts s _ goWritten_lasts⟩
  case release => exact ⟨_, rfl, atEvent_lasts s _ releaseWritten_lasts⟩
  case eos => exact ⟨_, rfl, atEvent_lasts s _ fun t => lasts_of_core rfl rfl⟩
  case ignoredWrite => exact ⟨_, rfl, atEvent_lasts s _ lasts_refl⟩
  case requestBufferWrite => exact ⟨_, rfl, atEvent_lasts s _ fun t => requestWordWritten_lasts t _ _⟩
  case helloReceived => exact ⟨_, rfl, atEvent_lasts s _ fun t => receiveHello_lasts t _ _ _ _⟩
  case failReceived | endReceived | holdReceived => exact ⟨_, rfl, atEvent_lasts s _ fun t => receiveCounted_lasts t _ _⟩
  case badFrameReceived => exact ⟨_, rfl, atEvent_lasts s _ fun t => receiveBad_lasts t _⟩
  case trainingDeadline => exact ⟨_, rfl, atEvent_lasts s _ fun t => trainingPassed_lasts t _⟩
  case drainDeadline => exact ⟨_, rfl, atEvent_lasts s _ fun t => drainPassed_lasts t _⟩
  case busTimeout => exact ⟨_, rfl, atEvent_lasts s _ busExpired_lasts⟩
  case frameSent => exact ⟨_, rfl, atEvent_lasts s _ fun t => frameDone_lasts t _⟩
  case descriptorReadAccepted => exact ⟨_, rfl, atEvent_lasts s _ fun t => descriptorRead_lasts t _⟩
  case recordWordAccepted => exact ⟨_, rfl, atEvent_lasts s _ recordWordIn_lasts⟩
  case writeBackAccepted => exact ⟨_, rfl, atEvent_lasts s _ statusWordIn_lasts⟩
  case assemblyCompletion => exact ⟨_, rfl, atEvent_lasts s _ completeAssembly_lasts⟩
  case workItemComplete => exact ⟨_, rfl, atEvent_lasts s _ workItemDone_lasts⟩
  all_goals exact ⟨_, rfl, directRow_lasts s _⟩

/-- What lasts over every command, and does not look at the queue of commands, lasts over every step. -/
theorem step_lasts {P : State → Prop} (hrest : ∀ (s : State) (q : List Instr), P s → P { s with pending := q })
    (hlasts : ∀ s t : State, s.Lasts t → P s → P t) {s t : State} (hs : P s) (run : step s = .next t) : P t := by
  refine step_keeps hrest (fun c s t hs run => ?_) hs run
  obtain ⟨u, answers, last⟩ := exec_lasts c s
  obtain rfl : u = t := Host.Outcome.next.inj (answers.symm.trans run)
  exact hlasts s u last hs

end Sys2Proof.Machine

open Sys2Proof Sys2Proof.Machine

/-- Settles O57: every command keeps the queues, and the port with the request slots. -/
theorem stepKeepsQueuesAgree : Obligations.StepKeepsQueuesAgree := by
  unfold Obligations.StepKeepsQueuesAgree
  refine ⟨fun s t hs run => ?_, fun s t hs run => ?_⟩
  · exact step_lasts (P := State.QueuesAgree) (fun s q => queuesAgree_congr (s := s) rfl rfl rfl) (fun _ _ last => last.queues) hs run
  · exact step_lasts (P := State.RequestAgrees) (fun s q => requestAgrees_congr (s := s) rfl rfl rfl) (fun _ _ last => last.request) hs run

/-- Settles O58: every command keeps the index of the store. -/
theorem stepKeepsLineIndex : Obligations.StepKeepsLineIndex := by
  unfold Obligations.StepKeepsLineIndex
  refine ⟨rank_lt, fun s => ⟨rfl, fun k => ⟨fun r h => ?_, findLine_none ..⟩⟩, fun s t hs run => ?_⟩
  · exact findLine_some h
  · exact step_lasts (P := State.LinesIndexed) (fun s q => linesIndexed_congr (s := s) rfl rfl) (fun _ _ last => last.lines) hs run

end

section
/-! The resets (R185, R186), the part held in reset (log entry 6), and events after the grant that is due (log entry 1). -/

namespace Sys2Proof.Machine

section
variable {s : State}

/-! ### The end of the event in a part just reset -/

theorem powerOn_levels : ∀ n : Fin 16, State.powerOn.levelCondition n = (n == 12) := by decide +kernel

theorem exporter_idle_atRest (n : Nat) : (Exporter.idle n).atRest := ⟨rfl, rfl, fun _ _ => rfl⟩

theorem all_down_linksSettled (e : s.links = Vector.replicate 8 Link.down) : s.linksSettled := by
  intro h
  have down : s.link h = Link.down := by simp [State.link, e]
  rw [down]
  exact finished_eq _ _ nofun nofun

/-- A part that has just been reset has EXPORT_WANTED alone pending at the end of the event (R181, R185, R186). -/
theorem finish_of_reset (links : s.links = Vector.replicate 8 Link.down) (ex : s.ex = Exporter.idle s.ex.busTimeout)
    (table : s.co.table = Vector.replicate 128 none) (notices : s.lists.stopNotices = []) (low : s.store.low = false)
    (pending : s.att.pendingSet = 0) (service : s.att.inService = 0) :
    s.finish = { s with att := { s.att with pendingSet := sourceBit 12 } } := by
  have levels (n : Fin 16) : s.levelCondition n = (n == 12) := by
    rw [← powerOn_levels n]
    exact levelCondition_congr (by rw [ex]; rfl) (fun h => by simp [State.link, links, State.powerOn]) table notices (by rw [ex]; rfl) low n
  have judged : s.pendingJudged = sourceBit 12 := by
    refine sources_ext fun n => ?_
    have bit : (sourceBit 12).getLsbD n.val = (n == 12) := sourceBit_mem n 12
    rw [bit]
    cases event : isEventSource n.val
    · rw [pendingJudged_level s n event, levels, service]
      simp
    · rw [pendingJudged_event s n event, pending]
      have other : n ≠ 12 := fun h => by subst h; cases event
      simp [other]
  rw [finish_quiet (all_down_linksSettled links) (by rw [ex]; exact exporter_idle_atRest _), State.judgeAttention, judged]

theorem powerOnRelease_powerOnReset (s : State) :
    s.powerOnReset.powerOnRelease = { s.powerOnReset with porHeld := false, att := { s.powerOnReset.att with pendingSet := sourceBit 12 } } := by
  have held : s.powerOnReset.porHeld = true := rfl
  rw [State.powerOnRelease, if_pos held]
  exact finish_of_reset (s := { s.powerOnReset with porHeld := false }) rfl rfl rfl rfl rfl rfl rfl

theorem softReset_release (s : State) (v w : Word) :
    ((s.softResetValues.setSoftWord v).setSoftWord w).finish =
      { s.softResetValues with
        port := { s.softResetValues.port with softWord := w }, att := { s.softResetValues.att with pendingSet := sourceBit 12 } } :=
  finish_of_reset rfl rfl rfl rfl rfl rfl rfl

/-! ### A part held in reset (R185, log entry 6) -/

theorem atEvent_held (held : s.isHeld = true) (f : State → State) : s.atEvent f = s := by rw [State.atEvent, if_pos held]

theorem grantRow_held (held : s.isHeld = true) (p : State → Due → Bool) : s.grantRow p = s := by
  rw [State.grantRow, catchUp_held s held, ite_self]

theorem directRow_held (held : s.isHeld = true) (r : Request) : s.directRow r = s := by
  rw [State.directRow, atEvent_held held, ite_self]

theorem exec_held (held : s.isHeld = true) {c : Instr} (hc : reachesHeldPart c = false) : exec c s = .next s := by
  cases c
  case powerOnReset | powerOnResetRelease | softReset | softResetRelease | ack => cases hc
  case stage =>
    refine congrArg Host.Outcome.next ?_
    rw [directRow_held held, State.hostRow, grantRow_held held, ite_self]
  case sweepStep | settleStep | failFrameTaken | endTaken | holdTaken | linkLostMarkerTaken =>
    exact congrArg Host.Outcome.next (grantRow_held held _)
  case arm | disarm | abort | lookupLine | listLines | pinLine | retireLine | markSpareDefective =>
    exact congrArg Host.Outcome.next (grantRow_held held _)
  case go | release | eos | ignoredWrite | requestBufferWrite | helloReceived | failReceived | endReceived | holdReceived | badFrameReceived
      | trainingDeadline | drainDeadline | busTimeout | frameSent | descriptorReadAccepted | recordWordAccepted | writeBackAccepted
      | assemblyCompletion | workItemComplete => exact congrArg Host.Outcome.next (atEvent_held held _)
  all_goals exact congrArg Host.Outcome.next (directRow_held held _)

/-! ### Events after the grant that is due (log entry 1) -/

theorem atEvent_catchUp (s : State) (f : State → State) : s.catchUp.atEvent f = s.atEvent f := by
  cases held : s.isHeld with
  | true => rw [catchUp_held s held]
  | false => simp [State.atEvent, catchUp_isHeld, held, catchUp_catchUp]

theorem softWordWritten_catchUp (s : State) (v : Word) : s.catchUp.softWordWritten v = s.softWordWritten v := by
  cases held : s.isHeld with
  | true => rw [catchUp_held s held]
  | false =>
    have runs : s.catchUp.isHeld = false := by rw [catchUp_isHeld, held]
    simp only [State.isHeld, Bool.or_eq_false_iff] at held runs
    rw [State.softWordWritten, State.softWordWritten, held.1, held.2, runs.1, runs.2, catchUp_catchUp]
    rfl

theorem exec_event_catchUp (s : State) {c : Instr} (event : isEvent c = true) : exec c s = exec c s.catchUp := by
  cases c
  case softReset | softResetRelease => exact congrArg Host.Outcome.next (softWordWritten_catchUp s _).symm
  case ack =>
    cases held : s.isHeld with
    | true => rw [catchUp_held s held]
    | false =>
      have runs : s.catchUp.isHeld = false := by rw [catchUp_isHeld, held]
      simp only [exec, execAck, held, runs, Bool.false_eq_true, if_false]
      exact congrArg Host.Outcome.next (atEvent_catchUp s _).symm
  case go | release | eos | ignoredWrite | requestBufferWrite | helloReceived | failReceived | endReceived | holdReceived | badFrameReceived
      | trainingDeadline | drainDeadline | busTimeout | frameSent | descriptorReadAccepted | recordWordAccepted | writeBackAccepted
      | assemblyCompletion | workItemComplete => exact congrArg Host.Outcome.next (atEvent_catchUp s _).symm
  all_goals cases event

theorem grantRow_of_due {p : State → Due → Bool} (h : p s s.due = true) : s.grantRow p = s.catchUp := by rw [State.grantRow, if_pos h]

theorem hostRow_of_due {r : Request} (due : s.due = .host r) : s.hostRow r = s.catchUp := grantRow_of_due (by simp [due])

theorem perform_port (s : State) (d : Due) : (s.perform d).port = s.port := by
  cases d with
  | nothing => rfl
  | host r => exact (serve_within r s.unqueued).port
  | sweep => exact (sweepStep_within s).port
  | settle => exact (settleStep_within s).port
  | intake h => exact (takeItem_within s h).port

theorem catchUp_port (s : State) : s.catchUp.port = s.port := by
  by_cases h : s.due = .nothing
  · rw [due_nothing_catchUp h]
  · rw [catchUp_of_due rfl h, finish_port, perform_port]

/-- A STAGE that waits for its grant has the port RUNNING, so no GO serves it. -/
theorem execStage_of_running (running : s.port.state = .running) : exec .stage s = .next (s.hostRow .stage) := by
  have waits : s.catchUp.goServes .stage = false := by simp [State.goServes, catchUp_port, running]
  simp [exec, execStage, waits]

/-- The row of a request that waits for its grant is that grant. -/
theorem exec_grant_of_due {r : Request} (due : s.due = .host r)
    (waits : r ∈ [.arm, .disarm, .abort, .lookupLine, .listLines, .pinLine, .retireLine, .markSpareDefective] ∨ (r = .stage ∧ s.port.state = .running)) :
    exec (requestRow r) s = .next s.catchUp := by
  rw [← hostRow_of_due due]
  rcases waits with waits | ⟨rfl, running⟩
  · simp only [List.mem_cons, List.not_mem_nil, or_false] at waits
    rcases waits with rfl | rfl | rfl | rfl | rfl | rfl | rfl | rfl <;> rfl
  · exact execStage_of_running running

theorem exec_intake_of_due {h : HeadNo} (due : s.due = .intake h) :
    exec (match (s.link h).fifo with
      | .fail .. :: _ => .failFrameTaken
      | .endFrame _ :: _ => .endTaken
      | .hold .. :: _ => .holdTaken
      | [] => .linkLostMarkerTaken) s = .next s.catchUp := by
  have taken (p : Option UpFrame → Bool) (item : p (s.link h).fifo.head? = true) : s.grantRow (State.takesItem p) = s.catchUp :=
    grantRow_of_due (by simpa [due, State.takesItem, State.itemAt] using item)
  split <;> rename_i fifo
  · exact congrArg Host.Outcome.next (taken isFail (by rw [fifo]; rfl))
  · exact congrArg Host.Outcome.next (taken isEnd (by rw [fifo]; rfl))
  · exact congrArg Host.Outcome.next (taken isHold (by rw [fifo]; rfl))
  · exact congrArg Host.Outcome.next (taken Option.isNone (by rw [fifo]; rfl))

end

end Sys2Proof.Machine

open Sys2Proof Sys2Proof.Machine

/-- Settles O3. -/
theorem eventsFindDueWorkDone : Obligations.EventsFindDueWorkDone := by
  unfold Obligations.EventsFindDueWorkDone
  refine ⟨fun s => ⟨catchUp_due s, fun c event => exec_event_catchUp s event⟩, fun s => ⟨due_nothing_catchUp, fun r => exec_grant_of_due, ?_, ?_, ?_⟩⟩
  · exact fun due => congrArg Host.Outcome.next (grantRow_of_due (by simp [due]))
  · exact fun due => congrArg Host.Outcome.next (grantRow_of_due (by simp [due]))
  · exact fun h => exec_intake_of_due

/-- Settles O4. -/
theorem heldPartIgnoresCommands : Obligations.HeldPartIgnoresCommands := by
  unfold Obligations.HeldPartIgnoresCommands
  refine ⟨fun s => rfl, fun s held => ⟨fun c hc => exec_held held hc, ?_, fun power v set => ?_⟩⟩
  · simp [exec, execAck, held]
  · have soft : s.port.softWord.getLsbD 0 = true := by simpa [State.isHeld, power] using held
    refine congrArg Host.Outcome.next ?_
    rw [State.softWordWritten, if_neg (by simp [power]), if_pos soft, if_pos set]
    rfl

/-- Settles O5: the part held by the power-on input has its power-on values, and the release makes EXPORT_WANTED pending alone. -/
theorem powerOnResetValues : Obligations.PowerOnResetValues := by
  unfold Obligations.PowerOnResetValues
  refine ⟨fun s => ⟨fun _ => rfl, fun _ => ⟨rfl, rfl⟩, fun _ => rfl, fun _ => rfl⟩, fun s => ?_⟩
  have released : (false || (0 : Word).getLsbD 0) = false := by decide
  refine ⟨s.powerOnReset, _, rfl, congrArg Host.Outcome.next (powerOnRelease_powerOnReset s), rfl, rfl, released, rfl, fun b hb => ?_, fun n => ?_,
    fun i => ?_, rfl, rfl, rfl, rfl, fun n => ?_, rfl, rfl, rfl, rfl, fun h => ?_, rfl, rfl, rfl, rfl, rfl, rfl, rfl, rfl, rfl, rfl, rfl, rfl, rfl, rfl,
    rfl, rfl, rfl, rfl, rfl, fun k => ⟨?_, ?_⟩, rfl, rfl, rfl, fun n => ?_⟩
  · cases b <;> simp_all [Block.same]
  · exact Vector.getElem_replicate ..
  · exact Vector.getElem_replicate ..
  · exact Vector.getElem_replicate ..
  · exact Vector.getElem_replicate ..
  · exact Vector.getElem_replicate ..
  · exact Vector.getElem_replicate ..
  · exact Vector.getElem_ofFn ..

/-- A ready part is not held, and a write that sets the soft-reset bit begins a soft reset at once. -/
theorem exec_softReset_of_ready {s : State} (ready : s.Ready) {v : Word} (set : v.getLsbD 0 = true) :
    exec (.softReset v) s = .next (s.softResetValues.setSoftWord v) := by
  have runs := ready.running
  simp only [State.isHeld, Bool.or_eq_false_iff] at runs
  refine congrArg Host.Outcome.next ?_
  rw [State.softWordWritten, if_neg (by simp [runs.1]), if_neg (by rw [runs.2]; nofun), if_pos set, due_nothing_catchUp ready.idle]

theorem exec_softResetRelease_of_reset {s : State} (power : s.porHeld = false) {v w : Word} (set : v.getLsbD 0 = true) (clear : w.getLsbD 0 = false) :
    exec (.softResetRelease w) (s.softResetValues.setSoftWord v) = .next ((s.softResetValues.setSoftWord v).setSoftWord w).finish := by
  have off : (s.softResetValues.setSoftWord v).porHeld = false := power
  have soft : (s.softResetValues.setSoftWord v).port.softWord.getLsbD 0 = true := set
  refine congrArg Host.Outcome.next ?_
  rw [State.softWordWritten, if_neg (by rw [off]; nofun), if_pos soft, if_neg (by rw [clear]; nofun)]

theorem attentionLine_of_none {s : State} (none_ : s.att.pendingSet = 0) : s.attentionLine = false := by
  have nothing : highest (s.att.pendingSet &&& ~~~s.att.mask) = none := by
    rw [none_, show (0 : SourceSet) &&& ~~~s.att.mask = 0 from BitVec.zero_and]
    decide
  rw [State.attentionLine, Attention.asserting, nothing]
  rfl

theorem softResetValues_frame (s : State) : FrameBut [.templates, .sites, .sweepQueue, .stopNotices, .lines, .low, .capture, .pendingHost, .rotation,
    .workItem, .settleList, .sweepPos, .coTable, .tableFull, .links, .export_, .collectionQueue, .portState, .portFlags, .pendingSet, .inService, .mask]
    s s.softResetValues := by
  intro b hb
  cases b <;> simp_all [Block.same, State.softResetValues]
  rfl

theorem setSoftWord_frame (s : State) (v : Word) : FrameBut [.softWord] s (s.setSoftWord v) := by
  intro b hb
  cases b <;> simp_all [Block.same, State.setSoftWord]

/-- Settles O6. -/
theorem softResetValues : Obligations.SoftResetValues := by
  unfold Obligations.SoftResetValues
  intro s v w ready set clear
  have runs := ready.running
  simp only [State.isHeld, Bool.or_eq_false_iff] at runs
  refine ⟨s.softResetValues.setSoftWord v, exec_softReset_of_ready ready set, ?_, ?_, rfl, rfl, rfl, rfl, attentionLine_of_none rfl, fun n => ?_, fun i => ?_, rfl, rfl, rfl, rfl,
    rfl, rfl, fun n => ?_, rfl, fun h => ?_, rfl, rfl, rfl, rfl, fun b hb => ?_⟩
  · rw [exec_softResetRelease_of_reset runs.1 set clear, softReset_release]
    rfl
  · show (s.porHeld || v.getLsbD 0) = true
    rw [set, Bool.or_true]
  · exact Vector.getElem_map ..
  · exact Vector.getElem_replicate ..
  · exact Vector.getElem_replicate ..
  · exact Vector.getElem_replicate ..
  · exact ((softResetValues_frame s).trans (setSoftWord_frame s.softResetValues v)).mono (by simp) b hb

/-- The state after reset is the end of the event at which the power-on input rises. -/
theorem reset_eq_finish : State.powerOn.powerOnRelease = State.reset := powerOnRelease_powerOnReset State.powerOn

/-- Settles O60. -/
theorem resetMeetsInvariants : Obligations.ResetMeetsInvariants := by
  unfold Obligations.ResetMeetsInvariants
  obtain ⟨queues, lines, request⟩ := invariants_of_empty (t := State.reset) rfl rfl rfl rfl rfl rfl rfl rfl rfl
  have settled : State.reset.Settled := reset_eq_finish ▸ finish_settled _
  refine ⟨⟨rfl, by decide +kernel, settled⟩, queues, request, lines (by decide), fun h => ⟨all_down_ordered rfl h, ?_⟩, rfl, congrArg Host.Outcome.next reset_eq_finish⟩
  have down : State.reset.link h = Link.down := Vector.getElem_replicate ..
  rw [down]
  exact down_timed

end

section
/-! The Attention Unit: the highest source, acknowledgement and the end of service (R181 to R183). -/

namespace Sys2Proof.Machine

/-! ### The highest source of a set -/

theorem highest_eq_some {b : SourceSet} {n : Fin 16} :
    highest b = some n ↔ b.getLsbD n.val = true ∧ ∀ m : Fin 16, m.val < n.val → b.getLsbD m.val = false := by
  rw [highest, List.find?_eq_some_iff_getElem]
  constructor
  · rintro ⟨hn, k, hk, rfl, before⟩
    refine ⟨hn, fun m hm => ?_⟩
    simpa using before m.val (by simpa using hm)
  · rintro ⟨hn, before⟩
    refine ⟨hn, n.val, by simp, by simp, fun j hj => ?_⟩
    simpa using before ⟨j, by omega⟩ hj

theorem highest_eq_none {b : SourceSet} : highest b = none ↔ ∀ n : Fin 16, b.getLsbD n.val = false := by
  simp [highest, List.find?_eq_none]

/-- A source outranks all in service when it outranks the highest of them. -/
theorem outranks_iff {b : SourceSet} {n : Fin 16} :
    (∀ m : Fin 16, b.getLsbD m.val = true → n.val < m.val) ↔ ∀ k, highest b = some k → n.val < k.val := by
  constructor
  · intro h k hk
    exact h k (highest_eq_some.mp hk).1
  · intro h m hm
    cases top : highest b with
    | none => exact absurd hm (by rw [highest_eq_none.mp top]; nofun)
    | some k =>
      obtain ⟨_, before⟩ := highest_eq_some.mp top
      refine Nat.lt_of_lt_of_le (h k top) (Nat.le_of_not_lt fun hmk => ?_)
      rw [before m hmk] at hm
      cases hm

section
variable {a : Attention} {n : Fin 16}

theorem pending_unmasked (m : Fin 16) :
    (a.pendingSet &&& ~~~a.mask).getLsbD m.val = true ↔ a.pendingSet.getLsbD m.val = true ∧ a.mask.getLsbD m.val = false := by
  simp

/-- The asserting source is the one that wins (R182). -/
theorem asserting_eq_some : a.asserting = some n ↔ a.wins n := by
  have unmasked : (highest (a.pendingSet &&& ~~~a.mask) = some n ↔ (a.pendingSet.getLsbD n.val = true ∧ a.mask.getLsbD n.val = false) ∧
      ∀ m : Fin 16, m.val < n.val → a.pendingSet.getLsbD m.val = true → a.mask.getLsbD m.val = true) := by
    rw [highest_eq_some, pending_unmasked]
    refine and_congr_right fun _ => forall_congr' fun m => imp_congr_right fun _ => ?_
    rw [← Bool.not_eq_true, pending_unmasked]
    simp
  have asserts : a.asserting = some n ↔ highest (a.pendingSet &&& ~~~a.mask) = some n ∧ ∀ k, highest a.inService = some k → n.val < k.val := by
    unfold Attention.asserting
    split
    · rename_i h; simp [h]
    · rename_i x h
      split
      · rename_i h'; simp [h, h']
      · rename_i k h'
        simp only [h, h', Option.some.injEq, Option.ite_none_right_eq_some, forall_eq']
        constructor
        · rintro ⟨hk, rfl⟩; exact ⟨rfl, hk⟩
        · rintro ⟨rfl, hk⟩; exact ⟨hk, rfl⟩
  rw [asserts, unmasked, ← outranks_iff, Attention.wins]
  grind

theorem asserting_isSome : a.asserting.isSome = true ↔ ∃ n : Fin 16, a.pendingSet.getLsbD n.val = true ∧ a.mask.getLsbD n.val = false ∧
    ∀ m : Fin 16, a.inService.getLsbD m.val = true → n.val < m.val := by
  rw [Option.isSome_iff_exists]
  constructor
  · rintro ⟨n, hn⟩
    obtain ⟨pending, unmasked, outranks, _⟩ := asserting_eq_some.mp hn
    exact ⟨n, pending, unmasked, outranks⟩
  · rintro ⟨n, pending, unmasked, outranks⟩
    cases top : highest (a.pendingSet &&& ~~~a.mask) with
    | none =>
      have off := highest_eq_none.mp top n
      rw [(pending_unmasked n).mpr ⟨pending, unmasked⟩] at off
      cases off
    | some k =>
      obtain ⟨on, before⟩ := highest_eq_some.mp top
      have le : k.val ≤ n.val := by
        refine Nat.le_of_not_lt fun h => ?_
        have off := before n h
        rw [(pending_unmasked n).mpr ⟨pending, unmasked⟩] at off
        cases off
      obtain ⟨pending', unmasked'⟩ := (pending_unmasked k).mp on
      refine ⟨k, asserting_eq_some.mpr ⟨pending', unmasked', fun m hm => Nat.lt_of_le_of_lt le (outranks m hm), fun m hm pend => ?_⟩⟩
      refine Classical.byContradiction fun unm => ?_
      have off := before m hm
      rw [(pending_unmasked m).mpr ⟨pend, by simpa using unm⟩] at off
      cases off

end

/-! ### Acknowledgement (R182) -/

section
variable {s : State}

theorem exec_ack_of_ready (ready : s.Ready) : exec .ack s = .next s.ackRead.finish := by
  have runs : ¬ s.isHeld = true := by rw [ready.running]; nofun
  rw [exec, execAck, if_neg runs, Ready.atEvent ready]

/-- Only the level sources of a settled part look at the Attention Unit. -/
theorem settled_of_levels {s t : State} (hs : s.Settled) (sites : t.sites = s.sites) (links : t.links = s.links) (ex : t.ex = s.ex)
    (levels : t.levelsJudged) : t.Settled := by
  have link (h : HeadNo) : t.link h = s.link h := by simp [State.link, links]
  refine ⟨fun h => ?_, fun h => ?_, by rw [ex]; exact hs.write, by rw [ex]; exact hs.assembly, by rw [ex]; exact hs.initiator, levels⟩
  · rw [link, gateSet_congr sites h (by rw [link])]
    exact hs.gates h
  · rw [link]
    exact hs.transmitters h

theorem exec_ack_quiet (ready : s.Ready) (quiet : s.attentionLine = false) : exec .ack s = .next { s with busRead := s.att.defaultVector } := by
  have nothing : s.att.asserting = none := by simpa [State.attentionLine] using quiet
  have read : s.ackRead = { s with busRead := s.att.defaultVector } := by
    simp only [State.ackRead, Attention.ackVector, Attention.acknowledge, nothing]
  have settled : State.Settled { s with busRead := s.att.defaultVector } :=
    Settled_congr ready.settled rfl rfl rfl rfl rfl rfl (fun _ _ => rfl) rfl
  rw [exec_ack_of_ready ready, read, finish_of_settled settled]

/-- The state after an acknowledgement of source n (R182). -/
def State.acknowledged (s : State) (n : Fin 16) : State :=
  { s with
    busRead := s.att.vectors[n.val]
    att := { s.att with pendingSet := s.att.pendingSet &&& ~~~(sourceBit n.val), inService := s.att.inService ||| sourceBit n.val } }

/-- A source in service is not judged pending, and the others stay as they were judged. -/
theorem acknowledged_settled (hs : s.Settled) (n : Fin 16) : (s.acknowledged n).Settled := by
  refine settled_of_levels hs rfl rfl rfl fun m level => ?_
  have pending : (s.acknowledged n).att.pendingSet.getLsbD m.val = (s.att.pendingSet.getLsbD m.val && !(m == n)) := by
    rw [← sourceBit_mem m n]
    simp [State.acknowledged]
  have service : (s.acknowledged n).att.inService.getLsbD m.val = (s.att.inService.getLsbD m.val || m == n) := by
    rw [← sourceBit_mem m n]
    simp [State.acknowledged]
  rw [pending, service, hs.levels m level]
  show _ = (s.levelCondition m && _)
  cases s.levelCondition m <;> cases s.att.inService.getLsbD m.val <;> cases m == n <;> rfl

theorem exec_ack_wins (ready : s.Ready) {n : Fin 16} (wins : s.att.wins n) : exec .ack s = .next (s.acknowledged n) := by
  have asserts : s.att.asserting = some n := asserting_eq_some.mpr wins
  have read : s.ackRead = s.acknowledged n := by
    simp only [State.ackRead, Attention.ackVector, Attention.acknowledge, asserts]
    rfl
  rw [exec_ack_of_ready ready, read, finish_of_settled (acknowledged_settled ready.settled n)]

/-! ### The level sources (R181) -/

theorem levelCondition_head {n : Fin 16} {h : HeadNo} (e : n.val = 2 + h.val) : s.levelCondition n = (s.link h).causes.nonempty := by
  obtain ⟨k, hk⟩ := n
  obtain rfl : k = 2 + h.val := e
  match h, hk with
  | 0, _ | 1, _ | 2, _ | 3, _ | 4, _ | 5, _ | 6, _ | 7, _ => rfl

theorem levelCondition_tripped : s.levelCondition 10 = true ↔ ∃ (n : Fin 128) (e : CoEntry), s.co.table[n.val] = some e ∧ e.state = .tripped := by
  show (s.co.table.toList.any fun e => match e with | some e => e.state == .tripped | none => false) = true ↔ _
  rw [List.any_eq_true]
  constructor
  · rintro ⟨x, hx, tripped⟩
    obtain ⟨k, hk, rfl⟩ := List.mem_iff_getElem.mp hx
    rw [Vector.length_toList] at hk
    rw [Vector.getElem_toList] at tripped
    split at tripped
    · rename_i e he
      exact ⟨⟨k, hk⟩, e, he, by simpa using tripped⟩
    · cases tripped
  · rintro ⟨n, e, he, tripped⟩
    refine ⟨some e, he ▸ ?_, by simp [tripped]⟩
    simp

/-! ### The end of service (R183) -/

theorem exec_eos_of_ready (ready : s.Ready) : exec .eos s = .next (State.finish { s with att := s.att.endService }) :=
  congrArg Host.Outcome.next (Ready.atEvent ready _)

theorem exec_eos_idle (ready : s.Ready) (idle : s.att.inService = 0) : exec .eos s = .next s := by
  have nothing : highest s.att.inService = none := by rw [idle]; decide
  have ends : s.att.endService = s.att := by rw [Attention.endService, nothing]
  rw [exec_eos_of_ready ready, ends]
  exact congrArg Host.Outcome.next (finish_of_settled ready.settled)

/-- The state after the service of source n has ended, with the level sources judged again (R183). -/
def State.serviceEnded (s : State) (n : Fin 16) : State :=
  State.judgeAttention { s with att := { s.att with inService := s.att.inService &&& ~~~(sourceBit n.val) } }

theorem exec_eos_serves (ready : s.Ready) {n : Fin 16} (top : highest s.att.inService = some n) : exec .eos s = .next (s.serviceEnded n) := by
  have ends : s.att.endService = { s.att with inService := s.att.inService &&& ~~~(sourceBit n.val) } := by rw [Attention.endService, top]
  rw [exec_eos_of_ready ready, ends]
  exact congrArg Host.Outcome.next (finish_quiet (linksSettled_congr ready.settled.linksSettled rfl rfl) ready.settled.exportAtRest)

theorem getLsbD_without (b : SourceSet) (n m : Fin 16) : (b &&& ~~~(sourceBit n.val)).getLsbD m.val = (b.getLsbD m.val && m != n) := by
  rw [BitVec.getLsbD_and, BitVec.getLsbD_not, sourceBit_mem m n, bne, decide_eq_true m.isLt, Bool.true_and]

theorem serviceEnded_inService (n m : Fin 16) : (s.serviceEnded n).att.inService.getLsbD m.val = (s.att.inService.getLsbD m.val && m != n) :=
  getLsbD_without s.att.inService n m

theorem serviceEnded_pending (hs : s.Settled) (n m : Fin 16) :
    (s.serviceEnded n).att.pendingSet.getLsbD m.val =
      if isEventSource m.val then s.att.pendingSet.getLsbD m.val
      else if m = n then s.levelCondition n else s.att.pendingSet.getLsbD m.val := by
  cases event : isEventSource m.val with
  | true => exact (pendingJudged_event _ m event).trans (by simp)
  | false =>
    refine (pendingJudged_level _ m event).trans ?_
    show (s.levelCondition m && !(s.att.inService &&& ~~~sourceBit n.val).getLsbD m.val) = _
    rw [getLsbD_without, hs.levels m event]
    by_cases e : m = n
    · subst e
      simp
    · rw [if_neg (by nofun), if_neg e, bne, beq_false_of_ne e, Bool.not_false, Bool.and_true]

theorem serviceEnded_frame (n : Fin 16) : FrameBut [.pendingSet, .inService] s (s.serviceEnded n) := by
  intro b hb
  cases b <;> simp_all [Block.same, State.serviceEnded, State.judgeAttention]

theorem acknowledged_ready (ready : s.Ready) (n : Fin 16) : (s.acknowledged n).Ready :=
  ⟨ready.running, (due_congr (s := s) rfl rfl rfl (fun _ => rfl) (fun _ => rfl)).trans ready.idle, acknowledged_settled ready.settled n⟩

end

end Sys2Proof.Machine

open Sys2Proof Sys2Proof.Machine

/-- Settles O9. -/
theorem ackServesHighestSource : Obligations.AckServesHighestSource := by
  unfold Obligations.AckServesHighestSource
  refine ⟨fun n m => sourceBit_mem m n, fun s => asserting_isSome, fun s ready quiet => exec_ack_quiet ready quiet, fun s ready line => ?_,
    fun s n ready wins => exec_ack_wins ready wins⟩
  obtain ⟨n, asserts⟩ := Option.isSome_iff_exists.mp line
  exact ⟨n, asserting_eq_some.mp asserts⟩

/-- Settles O10. -/
theorem eosEndsHighestService : Obligations.EosEndsHighestService := by
  unfold Obligations.EosEndsHighestService
  refine ⟨by decide, fun s => ⟨?_, fun n h e => ?_, levelCondition_tripped, ?_, ?_, Iff.rfl⟩, fun s => exec_eos_idle, fun s n ready served top => ?_,
    fun s ready service wins => ?_, fun s n => ?_⟩
  · exact Option.isSome_iff_ne_none
  · rw [levelCondition_head e, causes_nonempty]
  · have level : s.levelCondition 11 = !s.lists.stopNotices.isEmpty := rfl
    simp [level]
  · have level : s.levelCondition 12 = (s.ex.nextSlot == .empty) := rfl
    rw [level, beq_iff_eq]
  · refine ⟨s.serviceEnded n, exec_eos_serves ready (highest_eq_some.mpr ⟨served, top⟩), serviceEnded_frame n, serviceEnded_inService n,
      fun m other => ?_, ?_⟩
    · rw [serviceEnded_pending ready.settled, if_neg other, ite_self]
    · rw [serviceEnded_pending ready.settled, if_pos rfl]
  · have both : (s.acknowledged 11).att.inService = sourceBit 15 ||| sourceBit 11 := congrArg (· ||| sourceBit 11) service
    have top : highest (s.acknowledged 11).att.inService = some 11 := by rw [both]; decide
    refine ⟨s.acknowledged 11, (s.acknowledged 11).serviceEnded 11, exec_ack_wins ready wins, rfl, both,
      exec_eos_serves (acknowledged_ready ready 11) top, ?_⟩
    show (s.acknowledged 11).att.inService &&& ~~~(sourceBit 11) = sourceBit 15
    rw [both]
    decide
  · have window : s.readWindow 0x90 = s.att.inService.setWidth 32 := rfl
    rw [window, BitVec.getLsbD_setWidth]
    simp [show n.val < 32 by omega]

end

section
/-! Which blocks each operation of the model can change. -/

namespace Sys2Proof.Machine

section
variable {s t u : State}

/-- Every block but those of a longer list. -/
theorem FrameBut.then {a b c : List Block} (h1 : FrameBut a s t) (h2 : FrameBut b t u) (hc : ∀ x, x ∈ a ++ b → x ∈ c) : FrameBut c s u :=
  (h1.trans h2).mono hc

theorem frame_foldl {α : Type} {c : List Block} (f : State → α → State) (hf : ∀ s a, FrameBut c s (f s a)) (l : List α) (s : State) :
    FrameBut c s (l.foldl f s) := by
  induction l generalizing s with
  | nil => exact FrameBut.refl s c
  | cons a l ih => exact (hf s a).then (ih _) (by simp)

theorem frame_ite {c : List Block} {p : Prop} [Decidable p] (ht : FrameBut c s t) (hu : FrameBut c s u) : FrameBut c s (if p then t else u) := by
  split
  · exact ht
  · exact hu

/-- A block that a frame does not name is as it was. -/
theorem FrameBut.pendingSet {c : List Block} (h : FrameBut c s t) (hc : Block.pendingSet ∉ c) : t.att.pendingSet = s.att.pendingSet := h .pendingSet hc

end

section
variable (s : State)

/-! ### Templates, sites and lists -/

theorem setTemplate_frame (n : TemplateNo) (x : Template) : FrameBut [.templates] s (s.setTemplate n x) := by
  intro b hb
  cases b <;> simp_all [Block.same]

theorem modSite_frame (i : SiteNo) (f : Site → Site) : FrameBut [.sites] s (s.modSite i f) := by
  intro b hb
  cases b <;> simp_all [Block.same]

theorem modCtx_frame (i : SiteNo) (f : Context → Context) : FrameBut [.sites] s (s.modCtx i f) := modSite_frame s i _

theorem addFlag_frame (i : SiteNo) (f : QualityFlag) : FrameBut [.sites] s (s.addFlag i f) := modCtx_frame s i _

theorem setReason_frame (i : SiteNo) (r : Reason) : FrameBut [.sites] s (s.setReason i r) := modCtx_frame s i _

theorem modDomain_frame (i : SiteNo) (d : DomainNo) (f : DomainRec → DomainRec) : FrameBut [.sites] s (s.modDomain i d f) := modCtx_frame s i _

theorem sweepQueue_frame (l : List SiteNo) : FrameBut [.sweepQueue] s { s with lists := { s.lists with sweepQueue := l } } := by
  intro b hb
  cases b <;> simp_all [Block.same]

theorem stopNotices_frame (l : List Notice) : FrameBut [.stopNotices] s { s with lists := { s.lists with stopNotices := l } } := by
  intro b hb
  cases b <;> simp_all [Block.same]

theorem postNotice_frame (i : SiteNo) (why : NoticeReason) : FrameBut [.stopNotices] s (s.postNotice i why) := stopNotices_frame s _

theorem postNoticeTag_frame (i : SiteNo) (why : NoticeReason) (tag : Word) : FrameBut [.stopNotices] s (s.postNoticeTag i why tag) :=
  stopNotices_frame s _

theorem readClock_frame : FrameBut [.clock] s s.readClock := by
  intro b hb
  cases b <;> simp_all [Block.same]

/-! ### The Line Store -/

theorem setLines_frame (l : List LineRec) : FrameBut [.lines, .low] s (s.setLines l) := by
  intro b hb
  cases b <;> simp_all [Block.same, State.setLines, State.judgeLow]

theorem writeLine_frame (k : Key) (f : LineRec → LineRec) : FrameBut [.lines] s (s.writeLine k f) := by
  intro b hb
  cases b <;> simp_all [Block.same, State.writeLine]

theorem freeLine_frame (k : Key) : FrameBut [.lines, .low] s (s.freeLine k) := setLines_frame s _

theorem takeLine_frame (k : Key) (st : LineState) : FrameBut [.lines, .low, .clock] s (s.takeLine k st) := by
  intro b hb
  cases b <;> simp_all [Block.same, State.takeLine, State.setLines, State.judgeLow]

theorem countLine_frame (k : Key) : FrameBut [.lines] s (s.countLine k) := writeLine_frame s k _

theorem createAbsent_frame (k : Key) : FrameBut [.lines, .low, .clock] s (s.createAbsent k) :=
  frame_ite (FrameBut.refl s _) (takeLine_frame s k _)

theorem capture_frame (c : Option Capture) : FrameBut [.capture] s { s with store := { s.store with capture := c } } := by
  intro b hb
  cases b <;> simp_all [Block.same]

theorem raise_frame (n : Nat) : FrameBut [.pendingSet] s (s.raise n) := by
  intro b hb
  cases b <;> simp_all [Block.same, State.raise]

theorem captureError_frame (i : SiteNo) (n : Nat) (a : Activity) : FrameBut [.capture, .pendingSet] s (s.captureError i n a) := by
  unfold State.captureError
  split
  · exact (capture_frame s _).then (raise_frame _ 0) (by simp)
  · exact (capture_frame s _).mono (by simp)

/-! ### The engine and the Coincidence Unit -/

theorem settleList_frame (l : List SettleEntry) : FrameBut [.settleList] s { s with engine := { s.engine with settleList := l } } := by
  intro b hb
  cases b <;> simp_all [Block.same]

theorem dropSettle_frame (p : SettleEntry → Bool) : FrameBut [.settleList] s (s.dropSettle p) := settleList_frame s _

theorem appendSettle_frame (i : SiteNo) (d : DomainNo) : FrameBut [.settleList] s (s.appendSettle i d) := settleList_frame s _

theorem moveCursor_frame (i : SiteNo) (d : DomainNo) (k : Key) (renew : Bool) : FrameBut [.settleList] s (s.moveCursor i d k renew) :=
  settleList_frame s _

theorem setSweepPos_frame (p : Option SweepPos) : FrameBut [.sweepPos] s (s.setSweepPos p) := by
  intro b hb
  cases b <;> simp_all [Block.same, State.setSweepPos]

theorem coTable_frame (l : Vector (Option CoEntry) 128) : FrameBut [.coTable] s { s with co := { s.co with table := l } } := by
  intro b hb
  cases b <;> simp_all [Block.same]

theorem coLeave_frame (i : SiteNo) : FrameBut [.coTable] s (s.coLeave i) := coTable_frame s _

theorem setCoEntry_frame (n : Fin 128) (e : Option CoEntry) : FrameBut [.coTable] s (s.setCoEntry n e) := coTable_frame s _

theorem coHold_frame (i : SiteNo) : FrameBut [.sites, .stopNotices] s (s.coHold i) := by
  unfold State.coHold
  split
  · exact (modSite_frame s i _).then (postNotice_frame _ i _) (by simp)
  · exact FrameBut.refl s _

theorem coMark_frame (l : List SiteNo) : FrameBut [.sites, .stopNotices] s (s.coMark l) := by
  unfold State.coMark
  have flagged := frame_foldl (fun s i => State.addFlag s i .coincident) (fun s i => addFlag_frame s i _) l s
  have held := frame_foldl State.coHold (fun s i => coHold_frame s i) l (l.foldl (fun s i => State.addFlag s i .coincident) s)
  simp only
  split
  · exact flagged.mono (by simp)
  · exact flagged.then held (by simp)

theorem coAdded_frame (n : Fin 128) (i : SiteNo) (e : CoEntry) : FrameBut [.coTable, .sites, .stopNotices] s (s.coAdded n i e) := by
  have marked (x : CoEntry) (l : List SiteNo) : FrameBut [.coTable, .sites, .stopNotices] s ((s.setCoEntry n (some x)).coMark l) :=
    (setCoEntry_frame s n _).then (coMark_frame _ l) (by simp)
  unfold State.coAdded
  split
  · exact marked e [i]
  · split
    · exact marked _ _
    · exact (setCoEntry_frame s n _).mono (by simp)

theorem tableFull_frame (full : Bool) : FrameBut [.tableFull] s { s with co := { s.co with tableFull := full } } := by
  intro b hb
  cases b <;> simp_all [Block.same]

theorem coJoin_frame (i : SiteNo) (d : DomainNo) (a : Axis) (x : LineAddr) :
    FrameBut [.coTable, .tableFull, .sites, .stopNotices] s (s.coJoin i d a x) := by
  have added (n : Fin 128) (e : CoEntry) : FrameBut [.coTable, .tableFull, .sites, .stopNotices] s (s.coAdded n i e) := (coAdded_frame s n i e).mono (by simp)
  unfold State.coJoin
  split
  · exact FrameBut.refl s _
  · simp only
    split
    · split
      · exact frame_ite (FrameBut.refl s _) (added _ _)
      · exact FrameBut.refl s _
    · split
      · exact added _ _
      · exact (tableFull_frame s true).mono (by simp)

/-! ### Moves of a site -/

theorem toSweeping_frame (i : SiteNo) : FrameBut [.sites, .sweepQueue] s (s.toSweeping i) := by
  exact (modSite_frame s i _).then (sweepQueue_frame _ _) (fun _ h => h)

theorem collectionQueue_frame (l : List SiteNo) : FrameBut [.collectionQueue] s { s with ex := { s.ex with collectionQueue := l } } := by
  intro b hb
  cases b <;> simp_all [Block.same]

theorem toHeld_frame (i : SiteNo) : FrameBut [.sites, .sweepQueue, .collectionQueue, .sweepPos] s (s.toHeld i) := by
  have queues (t : State) (a b : List SiteNo) (p : Option SweepPos) : FrameBut [.sweepQueue, .collectionQueue, .sweepPos] t
      { t with lists := { t.lists with sweepQueue := a }, ex := { t.ex with collectionQueue := b }, engine := { t.engine with sweepPos := p } } := by
    intro b hb
    cases b <;> simp_all [Block.same]
  exact (modCtx_frame s i _).trans (queues _ _ _ _)

theorem enterDraining_frame (i : SiteNo) : FrameBut [.sites, .links, .clock] s (s.enterDraining i) := by
  intro b hb
  cases b <;> simp_all [Block.same]

theorem startSite_frame (i : SiteNo) : FrameBut [.sites] s (s.startSite i) := modCtx_frame s i _

theorem freeSite_frame (i : SiteNo) : FrameBut [.lines, .low, .settleList, .coTable] s (s.freeSite i) :=
  (setLines_frame s _).then ((dropSettle_frame _ _).then (coLeave_frame _ i) (fun _ h => h)) (by simp)

theorem moveLost_frame (i : SiteNo) : FrameBut [.sites, .sweepQueue, .collectionQueue, .sweepPos, .links, .clock] s (s.moveLost i) := by
  unfold State.moveLost
  split
  · exact (toSweeping_frame s i).mono (by simp)
  · exact (enterDraining_frame s i).mono (by simp)
  · exact (toHeld_frame s i).mono (by simp)
  all_goals exact FrameBut.refl s _

/-! ### The links -/

theorem flagTested_frame (h : HeadNo) (f : QualityFlag) : FrameBut [.sites] s (s.flagTested h f) :=
  frame_foldl _ (fun s i => frame_ite (addFlag_frame s i f) (FrameBut.refl s _)) _ s

theorem clearHeadHolds_frame (h : HeadNo) : FrameBut [.sites] s (s.clearHeadHolds h) :=
  frame_foldl _ (fun s i => modSite_frame s i _) _ s

theorem linkLeftUp_frame (h : HeadNo) : FrameBut [.sites, .links] s (s.linkLeftUp h) :=
  ((flagTested_frame s h _).then (clearHeadHolds_frame _ h) (c := [.sites]) (by simp)).then (modLink_frame _ h _) (by simp)

theorem linkFault_frame (h : HeadNo) : FrameBut [.sites, .links] s (s.linkFault h) :=
  (modLink_frame s h _).then (linkLeftUp_frame _ h) (by simp)

theorem setLink_frame (h : HeadNo) (x : Link) : FrameBut [.links] s (s.setLink h x) := modLink_frame s h fun _ => x

/-! ### The Export Engine -/

/-- The Export Engine but for its Collection Queue and its bus timeout. -/
theorem ex_frame (e : Exporter) (queue : e.collectionQueue = s.ex.collectionQueue) (timeout : e.busTimeout = s.ex.busTimeout) :
    FrameBut [.export_] s { s with ex := e } := by
  intro b hb
  cases b <;> simp_all [Block.same]

theorem holdings_frame (e : Exporter) (h : e.holdings = s.ex.holdings) : FrameBut [.export_] s { s with ex := e } := by
  simp only [Exporter.holdings, Prod.mk.injEq] at h
  exact ex_frame s e h.1 h.2.2.2

end

end Sys2Proof.Machine

end

section
/-! The Command Port: the window, GO, and requests served directly (R176 to R178, R183, R185). -/

namespace Sys2Proof.Machine

/-! ### Numbers in parameters (R177) -/

theorem siteNo?_val (i : SiteNo) : siteNo? i.val = some i := by simp [siteNo?]
theorem headNo?_val (h : HeadNo) : headNo? h.val = some h := by simp [headNo?]
theorem templateNo?_val (n : TemplateNo) : templateNo? n.val = some n := by simp [templateNo?]

theorem siteNo?_none {n : Nat} (h : 255 < n) : siteNo? n = none := by simp [siteNo?]; omega
theorem headNo?_none {n : Nat} (h : 7 < n) : headNo? n = none := by simp [headNo?]; omega
theorem templateNo?_none {n : Nat} (h : 7 < n) : templateNo? n = none := by simp [templateNo?]; omega

section
variable {s : State}

theorem onSite_of_site {i : SiteNo} (h : s.param 1 = i.val) (f : SiteNo → State × Reply) : s.onSite f = f i := by
  rw [State.onSite, h, siteNo?_val]

theorem onSite_of_none (h : 255 < s.param 1) (f : SiteNo → State × Reply) : s.onSite f = (s, { status := .refused .badSite }) := by
  rw [State.onSite, siteNo?_none h]

/-! ### What requests served directly leave alone -/

theorem onSite_pendingSet (f : SiteNo → State × Reply) (hf : ∀ i, (f i).1.att.pendingSet = s.att.pendingSet) :
    (s.onSite f).1.att.pendingSet = s.att.pendingSet := by
  unfold State.onSite
  split
  · rfl
  · exact hf _

theorem serveClearTrip_pendingSet (s : State) : (serveClearTrip s).1.att.pendingSet = s.att.pendingSet := by
  unfold serveClearTrip
  split
  · split
    · split
      · rfl
      · split <;> rfl
    · rfl
  · split <;> rfl
  · rfl
  · rfl

theorem serveStartSites_pendingSet (s : State) : (serveStartSites s).1.att.pendingSet = s.att.pendingSet := by
  unfold serveStartSites
  split
  · rfl
  · split
    · rfl
    · exact (frame_foldl (c := [.sites]) _ (fun s sl => startSite_frame s _) _ s).pendingSet (by decide)

theorem serveClose_pendingSet (s : State) : (serveClose s).1.att.pendingSet = s.att.pendingSet :=
  onSite_pendingSet _ fun i => by split <;> rfl

theorem serveHoldSite_pendingSet (s : State) : (serveHoldSite s).1.att.pendingSet = s.att.pendingSet :=
  onSite_pendingSet _ fun i => by split <;> rfl

theorem serveLinkReset_pendingSet (s : State) : (serveLinkReset s).1.att.pendingSet = s.att.pendingSet := by
  unfold serveLinkReset
  split
  · rfl
  · simp only
    split
    · rfl
    · rename_i h _ _
      have left : FrameBut [.sites, .links] s (if (s.link h).state = .up then s.linkLeftUp h else s) := frame_ite (linkLeftUp_frame s h) (FrameBut.refl s _)
      have holds := (clearHeadHolds_frame (if (s.link h).state = .up then s.linkLeftUp h else s) h).trans (setLink_frame _ h Link.down)
      exact (left.trans holds).pendingSet (by decide)

theorem serveArm_error {why : Refuse} (h : s.armFields = .error why) : serveArm s = (s, { status := .refused why }) := by
  rw [serveArm, h]

theorem serveStage_error {why : Refuse} (h : s.armFields = .error why) : serveStage s = (s, { status := .refused why }) := by
  rw [serveStage, h]

theorem serveStage_full {i : SiteNo} {x : Staged} (h : s.armFields = .ok (i, x)) (present : s.siteState i ≠ .vacant) (full : (s.site i).staged ≠ none) :
    serveStage s = (s, { status := .refused .stagedFull }) := by
  simp only [serveStage, h, if_neg present, if_pos (Option.isSome_iff_ne_none.mpr full)]

theorem serveStage_staged {i : SiteNo} {x : Staged} (h : s.armFields = .ok (i, x)) (present : s.siteState i ≠ .vacant) (free : (s.site i).staged = none) :
    serveStage s = (s.modSite i fun y => { y with staged := some x }, { status := .done, words := [[.result .staged]] }) := by
  simp only [serveStage, h, if_neg present, free, Option.isSome_none, Bool.false_eq_true, if_false]

/-- A STAGE served directly finds its site not VACANT (R65). -/
theorem present_of_direct {i : SiteNo} {x : Staged} (h : s.armFields = .ok (i, x)) (direct : s.needsGrant .stage = false) : s.siteState i ≠ .vacant := by
  obtain ⟨site, -⟩ := armFields_ok h
  simpa [State.needsGrant, site] using direct

theorem serveStage_pendingSet (direct : s.needsGrant .stage = false) : (serveStage s).1.att.pendingSet = s.att.pendingSet := by
  match h : s.armFields with
  | .error why => rw [serveStage_error h]
  | .ok (i, x) =>
    have present := present_of_direct h direct
    by_cases free : (s.site i).staged = none
    · rw [serveStage_staged h present free]
      rfl
    · rw [serveStage_full h present free]

/-- The service of a request served directly leaves the pending set alone; a STAGE finds its site not VACANT. -/
theorem serve_pendingSet (s : State) (r : Request) (direct : s.needsGrant r = false) : (serve r s).1.att.pendingSet = s.att.pendingSet := by
  cases r <;> simp only [serve]
  case arm | disarm | abort | lookupLine | listLines | pinLine | retireLine | markSpareDefective => cases direct
  case loadTemplate => unfold serveLoadTemplate; split; · rfl
                       simp only; split <;> rfl
  case queryTemplate => unfold serveQueryTemplate; split <;> rfl
  case stage => exact serveStage_pendingSet direct
  case unstage => exact onSite_pendingSet _ fun _ => rfl
  case startSites => exact serveStartSites_pendingSet s
  case close => exact serveClose_pendingSet s
  case holdSite => exact serveHoldSite_pendingSet s
  case releaseHold => exact onSite_pendingSet _ fun _ => rfl
  case querySite => exact onSite_pendingSet _ fun _ => rfl
  case takeStopNotices => rfl
  case queryIntegrity => rfl
  case setCoincidence => unfold serveSetCoincidence; simp only; split; · rfl
                         split <;> rfl
  case listCoincidence => unfold serveListCoincidence; split <;> rfl
  case clearTrip => exact serveClearTrip_pendingSet s
  case queryCoincidence => rfl
  case linkEnable => unfold serveLinkEnable; split; · rfl
                     split <;> rfl
  case linkReset => exact serveLinkReset_pendingSet s
  case queryLink => unfold serveQueryLink; split <;> rfl
  case giveExportChain => unfold serveGiveExportChain; simp only; split; · rfl
                          split; · rfl
                          split <;> rfl
  case flushExport => unfold serveFlushExport; split; · split <;> rfl
                      rfl
  case resumeExport => unfold serveResumeExport; split <;> rfl
  case abandonBuffer => unfold serveAbandonBuffer; split <;> rfl
  case queryExport => rfl
  case setLimits => unfold serveSetLimits; split <;> rfl
  case queryPart => rfl
  case setAttention => rfl

/-! ### Replies (R178) -/

theorem postReply_posted (t : State) (reply : Reply) : (t.postReply reply).finish.Posted reply := by
  refine ⟨by rw [finish_port]; rfl, by rw [finish_port]; rfl, ?_⟩
  have kept := finish_sources (s := t.postReply reply) (t := t.postReply reply) (raised := []) fun _ _ _ => rfl
  have event := kept.events 15 (by decide) (by simp)
  refine event.trans ?_
  exact (raise_getLsbD _ 15 15).trans (by simp)

theorem postReply_sources {t : State} (kept : t.att.pendingSet = s.att.pendingSet) (reply : Reply) :
    s.SourcesKept (t.postReply reply).finish [15] := by
  refine finish_sources fun n _ other => ?_
  have apart : (n == (15 : Fin 16)) = false := beq_false_of_ne fun e => other (by rw [e]; exact List.mem_singleton.mpr rfl)
  exact (raise_getLsbD _ 15 n).trans (by rw [apart, Bool.or_false]; exact congrArg (BitVec.getLsbD · n.val) kept)

theorem served_frame (s : State) : FrameBut [.portState] s s.served := by
  intro b hb
  cases b <;> simp_all [Block.same, State.served]

theorem postReply_frame (s : State) (reply : Reply) : FrameBut [.portState, .replyBuf, .pendingSet] s (s.postReply reply) := by
  intro b hb
  cases b <;> simp_all [Block.same, State.postReply, State.raise]

/-- A GO whose code names no request is refused at the GO (R177). -/
theorem refusedGo_answers (ready : s.Ready) (reply : Reply) : s.Answers (s.served.postReply reply).finish reply [] where
  posted := postReply_posted _ _
  sources := postReply_sources rfl _
  frame := by
    have quiet : FrameBut [.pendingSet] (s.served.postReply reply) (s.served.postReply reply).finish :=
      finish_frame_quiet (linksSettled_congr ready.settled.linksSettled rfl rfl) ready.settled.exportAtRest
    exact ((served_frame s).trans (postReply_frame _ reply)).then quiet (by simp)

/-! ### GO (R176, R177) -/

/-- A change of the port and of the pending host request leaves a settled part settled. -/
theorem settled_of_port (hs : s.Settled) (p : Port) (e : Engine) : State.Settled { s with port := p, engine := e } :=
  Settled_congr hs rfl rfl rfl rfl rfl rfl (fun _ _ => rfl) rfl

theorem exec_go_of_ready (ready : s.Ready) : exec .go s = .next s.goWritten.finish := congrArg Host.Outcome.next (Ready.atEvent ready _)

theorem exec_go_lost (ready : s.Ready) (port : s.port.state ≠ .ready) : exec .go s = .next { s with port := { s.port with lostGo := true } } := by
  have lost : s.goWritten = { s with port := { s.port with lostGo := true } } := by
    unfold State.goWritten
    split
    · contradiction
    · rfl
    · rfl
  rw [exec_go_of_ready ready, lost]
  exact congrArg Host.Outcome.next (finish_of_settled (settled_of_port ready.settled _ _))

theorem goWritten_of_ready (port : s.port.state = .ready) :
    s.goWritten = match requestOfCode (s.param 0) with
      | some r => s.served.route r
      | none => s.served.postReply { status := .refused .badRequest } := by
  unfold State.goWritten
  rw [port]
  rfl

/-- The codes of requests (R177). -/
def requests : List Request :=
  [.loadTemplate, .queryTemplate, .arm, .stage, .unstage, .disarm, .startSites, .close, .abort, .holdSite, .releaseHold, .querySite,
    .takeStopNotices, .queryIntegrity, .lookupLine, .listLines, .pinLine, .retireLine, .markSpareDefective, .setCoincidence,
    .listCoincidence, .clearTrip, .queryCoincidence, .linkEnable, .linkReset, .queryLink, .giveExportChain, .flushExport, .resumeExport,
    .abandonBuffer, .queryExport, .setLimits, .queryPart, .setAttention]

theorem requestOfCode_large {n : Nat} (h : 34 < n) : requestOfCode n = none := by
  obtain ⟨k, rfl⟩ := Nat.exists_eq_add_of_le' h
  rfl

theorem requestOfCode_eq (n : Nat) : requestOfCode n = if n = 0 then none else requests[n - 1]? := by
  by_cases h : 34 < n
  · rw [requestOfCode_large h, if_neg (by omega), List.getElem?_eq_none (by simp [requests]; omega)]
  · have known : ∀ k : Fin 35, requestOfCode k.val = if k.val = 0 then none else requests[k.val - 1]? := by decide
    exact known ⟨n, by omega⟩

theorem needsGrant_iff (r : Request) : s.needsGrant r = true ↔
    r ∈ [.arm, .disarm, .abort, .lookupLine, .listLines, .pinLine, .retireLine, .markSpareDefective] ∨
      (r = .stage ∧ ∃ i : SiteNo, s.armWords.site = i.val ∧ s.siteState i = .vacant) := by
  by_cases stage : r = .stage
  · subst stage
    simp only [State.needsGrant, List.mem_cons, reduceCtorEq, List.not_mem_nil, or_self, false_or, true_and]
    constructor
    · intro h
      split at h
      · rename_i i hi
        unfold siteNo? at hi
        split at hi
        · rename_i small
          obtain rfl := Option.some.inj hi
          exact ⟨_, rfl, by simpa using h⟩
        · cases hi
      · cases h
    · rintro ⟨i, hi, vacant⟩
      rw [hi, siteNo?_val]
      simp [vacant]
  · cases r <;> simp_all [State.needsGrant]

/-- The row of a request served directly is the GO that serves it. -/
theorem exec_go_direct (ready : s.Ready) {r : Request} (port : s.port.state = .ready) (code : requestOfCode (s.param 0) = some r)
    (direct : s.needsGrant r = false) : exec .go s = exec (requestRow r) s := by
  have caught : s.catchUp = s := due_nothing_catchUp ready.idle
  have serves : s.catchUp.goServes r = true := by simp [caught, State.goServes, port, code, direct]
  have row : s.directRow r = s.atEvent State.goWritten := by rw [State.directRow, if_pos serves]
  have go : exec .go s = .next (s.directRow r) := congrArg Host.Outcome.next row.symm
  rw [go]
  cases r
  case arm | disarm | abort | lookupLine | listLines | pinLine | retireLine | markSpareDefective => cases direct
  case stage =>
    refine congrArg Host.Outcome.next ?_
    rw [if_pos serves]
  all_goals rfl

theorem exec_go_routed (ready : s.Ready) {r : Request} (port : s.port.state = .ready) (code : requestOfCode (s.param 0) = some r)
    (waits : s.needsGrant r = true) :
    exec .go s = .next { s with port := { s.port with state := .running }, engine := { s.engine with pendingHost := some r } } := by
  have routed : s.goWritten = { s with port := { s.port with state := .running }, engine := { s.engine with pendingHost := some r } } := by
    rw [goWritten_of_ready port, code]
    exact if_pos waits
  rw [exec_go_of_ready ready, routed]
  exact congrArg Host.Outcome.next (finish_of_settled (settled_of_port ready.settled _ _))

/-! ### The window (R176, R178, R185) -/

theorem exec_requestBufferWrite_of_ready (ready : s.Ready) (k : Fin 16) (v : Word) :
    exec (.requestBufferWrite k v) s = .next (if s.port.state = .running
      then { s with port := { s.port with writeIgnored := true } }
      else { s with port := { s.port with requestBuf := s.port.requestBuf.set k.val v } }) := by
  refine congrArg Host.Outcome.next ?_
  rw [Ready.atEvent ready]
  unfold State.requestWordWritten
  split <;> rename_i port <;> rw [port] <;> exact finish_of_settled (settled_of_port ready.settled _ _)

theorem exec_release_of_ready (ready : s.Ready) :
    exec .release s = .next (if s.port.state = .running
      then { s with port := { s.port with writeIgnored := true } }
      else { s with port := { s.port with state := .ready, lostGo := false, writeIgnored := false } }) := by
  refine congrArg Host.Outcome.next ?_
  rw [Ready.atEvent ready]
  unfold State.releaseWritten
  split <;> rename_i port <;> rw [port] <;> exact finish_of_settled (settled_of_port ready.settled _ _)

theorem commandOfWrite_word (k : Fin 16) (v : Word) : commandOfWrite (4 * k.val) v = .requestBufferWrite k v := by
  have word : 4 * k.val / 4 = k.val := by omega
  simp [commandOfWrite, word]

theorem commandOfWrite_ignored {offset : Nat} (v : Word) (h : (0x40 ≤ offset ∧ offset ≤ 0x7C) ∨ offset ∈ [0x84, 0x8C, 0x94]) :
    commandOfWrite offset v = .ignoredWrite offset v := by
  simp only [List.mem_cons, List.not_mem_nil, or_false] at h
  rw [commandOfWrite, dif_neg (by omega), if_neg (by omega), if_neg (by omega), if_neg (by omega)]

theorem readWindow_request (s : State) (k : Fin 16) : s.readWindow (4 * k.val) = s.port.requestBuf[k.val] := by
  have word : 4 * k.val / 4 = k.val := by omega
  simp [State.readWindow, word]

theorem readWindow_reply (s : State) (k : Fin 16) : s.readWindow (0x40 + 4 * k.val) = s.port.replyBuf[k.val].bits := by
  have place : (0x40 + 4 * k.val) / 4 - 16 = k.val := by omega
  rw [State.readWindow, dif_neg (by omega), dif_pos (by omega)]
  simp [place]

/-- A word with one number reads as that number (log entry 9). -/
theorem bits_num (n : Nat) : ReplyWord.bits [.num n] = BitVec.ofNat 32 n := by
  unfold ReplyWord.bits
  cases n with
  | zero => rfl
  | succ n => rfl

end

end Sys2Proof.Machine

open Sys2Proof Sys2Proof.Machine

/-- Settles O7. -/
theorem portWritesByState : Obligations.PortWritesByState := by
  unfold Obligations.PortWritesByState
  refine ⟨commandOfWrite_word, fun v => rfl, fun v => rfl, fun v => rfl, fun offset v => commandOfWrite_ignored v, fun s k => ⟨rfl, rfl⟩,
    fun s k => ⟨readWindow_request s k, readWindow_reply s k⟩, fun s => ⟨rfl, rfl, rfl, rfl⟩, ⟨rfl, bits_num⟩, fun s offset => ⟨rfl, fun idle => ?_⟩,
    fun s ready => ⟨exec_requestBufferWrite_of_ready ready, exec_release_of_ready ready, fun offset v => ?_⟩⟩
  · rw [State.hostRead, due_nothing_catchUp idle]
  · exact congrArg Host.Outcome.next (Ready.atEvent_unchanged ready rfl)

/-- Settles O8. -/
theorem goRoutesTheRequest : Obligations.GoRoutesTheRequest := by
  unfold Obligations.GoRoutesTheRequest
  refine ⟨requestOfCode_eq, fun reply => ⟨rfl, fun k => ?_⟩, fun s ready => ⟨exec_go_lost ready, fun port code => ?_, fun r port code direct => ?_,
    fun r => exec_go_routed ready, needsGrant_iff⟩⟩
  · rw [Reply.buffer, Vector.getElem_ofFn]
    exact List.getD_cons_succ ..
  · have unknown : requestOfCode (s.param 0) = none := by
      rcases code with zero | large
      · rw [zero]; rfl
      · exact requestOfCode_large large
    refine ⟨_, ?_, refusedGo_answers ready _⟩
    rw [exec_go_of_ready ready, goWritten_of_ready port, unknown]
  · refine ⟨exec_go_direct ready port code direct, _, (serve r s.served).2, exec_go_of_ready ready, ?_⟩
    have written : s.goWritten = (serve r s.served).1.postReply (serve r s.served).2 := by
      rw [goWritten_of_ready port, code]
      exact if_neg (by rw [needsGrant_served, direct]; nofun)
    rw [written]
    exact ⟨postReply_posted _ _, postReply_sources (s := s) (serve_pendingSet s.served r direct) _⟩

end

section
/-! Requests served directly: templates, queries and notices (R9 to R11, R40 to R42, R60, R124, R126, R157, R162, R173). -/

namespace Sys2Proof.Machine

/-! ### The rows of requests served directly -/

section
variable {s t : State} {r : Request} {reply : Reply} {c : Instr} {changed : List Block}

theorem State.GoServes.exec (hd : s.GoServes r) (row : exec c s = .next (s.directRow r)) (hs : serve r s.served = (t, reply)) :
    exec c s = .next (t.postReply reply).finish := by rw [row, hd.directRow hs]

theorem State.GoServes.atRest (hd : s.GoServes r) : s.ex.atRest := hd.ready.settled.exportAtRest

theorem State.GoServes.linksSettled (hd : s.GoServes r) (sites : t.sites = s.sites) (links : t.links = s.links) : t.linksSettled :=
  linksSettled_congr hd.ready.settled.linksSettled sites links

/-- A service that refuses and changes nothing (R178). -/
theorem State.GoServes.refuses {why : Refuse} {words : List ReplyWord} (hd : s.GoServes r) (row : Machine.exec c s = .next (s.directRow r))
    (hs : serve r s.served = (s.served, { status := .refused why, words })) : s.Refuses c why words :=
  ⟨_, hd.exec row hs, hd.unchanged hs⟩

/-- A service that answers and changes nothing (R178). -/
theorem State.GoServes.reads (hd : s.GoServes r) (row : Machine.exec c s = .next (s.directRow r)) (hs : serve r s.served = (s.served, reply)) :
    ∃ u, Machine.exec c s = .next u ∧ s.Answers u reply [] :=
  ⟨_, hd.exec row hs, hd.unchanged hs⟩

/-- A service after which the end of the event reaches the links (R24, R155). -/
theorem State.GoServes.onLinks (hd : s.GoServes r) (hs : serve r s.served = (t, reply)) (hf : FrameBut changed s.served t)
    (hp : Block.pendingSet ∉ changed) (rest : t.ex.atRest) : s.Answers (t.postReply reply).finish reply (changed ++ [.links]) :=
  hd.answers hs (hf.pendingSet hp) hf ((finish_frame_links (s := t.postReply reply) rest).mono (by simp)) (followed := [.links])
    fun b hb => List.mem_append_right _ hb

/-- A service after which the end of the event reaches the Export Engine and the clock (R164, R166, R167). -/
theorem State.GoServes.onExport (hd : s.GoServes r) (hs : serve r s.served = (t, reply)) (hf : FrameBut changed s.served t)
    (hp : Block.pendingSet ∉ changed) (settled : t.linksSettled) : s.Answers (t.postReply reply).finish reply (changed ++ [.export_, .clock]) :=
  hd.answers hs (hf.pendingSet hp) hf ((finish_frame_export (s := t.postReply reply) (linksSettled_congr settled rfl rfl)).mono (by simp))
    (followed := [.export_, .clock]) fun b hb => List.mem_append_right _ hb

/-- A service after which the end of the event judges the level sources and does nothing else. -/
theorem State.GoServes.quietly (hd : s.GoServes r) (hs : serve r s.served = (t, reply)) (hf : FrameBut changed s.served t)
    (hp : Block.pendingSet ∉ changed) (settled : t.linksSettled) (rest : t.ex.atRest) : s.Answers (t.postReply reply).finish reply changed :=
  hd.quiet hs (hf.pendingSet hp) hf settled rest

theorem State.Answers.mono {u : State} {more : List Block} (h : s.Answers u reply changed) (hm : ∀ b, b ∈ changed → b ∈ more) :
    s.Answers u reply more :=
  ⟨h.posted, h.sources, h.frame.mono fun b hb => by
    rcases List.mem_append.mp hb with port | block
    · exact List.mem_append_left _ port
    · exact List.mem_append_right _ (hm b block)⟩

/-! ### What the end of an event leaves of settled parts -/

theorem finish_link_of_settled (settled : t.linksSettled) (h : HeadNo) : t.finish.link h = t.link h := by rw [finish_link, settled h]

theorem finish_ex_of_rest (rest : t.ex.atRest) : t.finish.ex = t.ex := by
  rw [finish_export_rest rest]
  rfl

/-- The state after a direct service, block by block. -/
theorem posted_link (settled : t.linksSettled) (h : HeadNo) : (t.postReply reply).finish.link h = t.link h :=
  finish_link_of_settled (t := t.postReply reply) (linksSettled_congr settled rfl rfl) h

theorem posted_ex (rest : t.ex.atRest) : (t.postReply reply).finish.ex = t.ex := finish_ex_of_rest (t := t.postReply reply) rest

theorem posted_site (i : SiteNo) : (t.postReply reply).finish.site i = t.site i := finish_site _ i

theorem posted_template (n : TemplateNo) : (t.postReply reply).finish.template n = t.template n := finish_template _ n

theorem posted_lists : (t.postReply reply).finish.lists = t.lists := finish_lists _

theorem posted_store : (t.postReply reply).finish.store = t.store := finish_store _

theorem posted_co : (t.postReply reply).finish.co = t.co := finish_co _

theorem posted_linksFollow (f : HeadNo → Link → Link) (h : ∀ k, t.link k = f k (s.link k)) : s.LinksFollow (t.postReply reply).finish f :=
  finish_linksFollow s (t.postReply reply) f h

theorem posted_now_le : t.now ≤ (t.postReply reply).finish.now := finish_now_le (t.postReply reply)

theorem posted_followed : t.ex.Followed (t.postReply reply).finish := finish_followed (t.postReply reply)

end

/-! ### Templates (R9 to R11) -/

section
variable {s : State}

theorem badField_eq (g : Geometry) : g.badField =
    (([(1, decide (1 ≤ g.domainCount ∧ g.domainCount ≤ 16)), (2, decide (256 ≤ g.rows ∧ g.rows ≤ 65536)),
       (3, decide (64 ≤ g.columns ∧ g.columns ≤ 4096)), (4, [1, 2, 4, 8].contains g.rowGroup), (5, [1, 2, 4, 8].contains g.columnGroup),
       (6, decide (g.spareRows ≤ 15)), (7, decide (g.spareColumns ≤ 15)),
       (2, decide (g.rows % g.rowGroup = 0)), (3, decide (g.columns % g.columnGroup = 0))] : List (Nat × Bool)).find? fun c => !c.2).map Prod.fst := by
  have group (n : Nat) : isGroupSize n = [1, 2, 4, 8].contains n := by
    rw [Bool.eq_iff_iff]
    simp [isGroupSize, or_assoc]
  simp only [Geometry.badField, group, find?_cons_ite, List.find?_nil, apply_ite (Option.map Prod.fst), Option.map_some, Option.map_none,
    Bool.decide_and]
  rfl

theorem serveLoadTemplate_none (h : 7 < s.param 1) : serveLoadTemplate s = (s, { status := .refused .badTemplate }) := by
  rw [serveLoadTemplate, templateNo?_none h]

theorem serveLoadTemplate_bad {n : Nat} (h : s.param 1 ≤ 7) (bad : s.geometryParams.badField = some n) :
    serveLoadTemplate s = (s, { status := .refused .badGeometry, words := [[.num n]] }) := by
  have known : templateNo? (s.param 1) = some ⟨s.param 1, by omega⟩ := templateNo?_val ⟨s.param 1, by omega⟩
  simp only [serveLoadTemplate, known, bad]

theorem serveLoadTemplate_done {n : TemplateNo} (h : s.param 1 = n.val) (good : s.geometryParams.badField = none) :
    serveLoadTemplate s = (s.setTemplate n ((s.template n).load s.geometryParams),
      { status := .done, words := [[.result (if (s.template n).useCount = 0 then .active else .pending)],
          [.flag (decide ((s.template n).useCount ≠ 0) && (s.template n).pendingCopy.isSome)], [.num (s.template n).useCount]] }) := by
  have shared : ((s.template n).useCount != 0) = decide ((s.template n).useCount ≠ 0) := by
    rw [Bool.eq_iff_iff]
    simp
  simp only [serveLoadTemplate, h, templateNo?_val, good, shared]

end

end Sys2Proof.Machine

open Sys2Proof Sys2Proof.Machine

/-- Settles O11. -/
theorem loadTemplateWritesOneCopy : Obligations.LoadTemplateWritesOneCopy := by
  unfold Obligations.LoadTemplateWritesOneCopy
  refine ⟨badField_eq, fun s => rfl, fun s hd => ⟨fun large => ?_, fun n small bad => ?_, fun n known good => ?_⟩⟩
  · exact hd.refuses rfl (serveLoadTemplate_none (s := s.served) large)
  · exact hd.refuses rfl (serveLoadTemplate_bad (s := s.served) small bad)
  · have served := serveLoadTemplate_done (s := s.served) known good
    refine ⟨_, hd.exec rfl served, hd.quietly served (setTemplate_frame _ n _) (by decide) (hd.linksSettled rfl rfl) hd.atRest, fun k other => ?_, ?_⟩
    · rw [posted_template, setTemplate_template_ne other]
      rfl
    · rw [posted_template, setTemplate_template_self]
      rfl

end

section
/-! Requests served directly that list, view and query (R11, R40 to R42, R60, R124, R126, R157, R162, R173). -/

namespace Sys2Proof.Machine

/-! ### QUERY-TEMPLATE and LIST-COINCIDENCE (R11, R124) -/

theorem geometryWords_pair (a b : Option Geometry) : [a, b].flatMap geometryWords = geometryWords a ++ geometryWords b := by
  rw [List.flatMap_cons, List.flatMap_cons, List.flatMap_nil, List.append_nil]

theorem serveQueryTemplate_none {s : State} (h : 7 < s.param 1) : serveQueryTemplate s = (s, { status := .refused .badTemplate }) := by
  rw [serveQueryTemplate, templateNo?_none h]

theorem serveQueryTemplate_some {s : State} {n : TemplateNo} (h : s.param 1 = n.val) :
    serveQueryTemplate s = (s, { status := .done, words :=
      [.templateValid (s.template n).active.isSome, .flag (s.template n).pendingCopy.isSome, .num (s.template n).useCount]
        :: (geometryWords (s.template n).active ++ geometryWords (s.template n).pendingCopy) }) := by
  simp only [serveQueryTemplate, h, templateNo?_val, List.cons_append]

section
variable (c : CoUnit)

theorem mem_from (k : Nat) (n : Fin 128) (e : CoEntry) : (n, e) ∈ c.from k ↔ k ≤ n.val ∧ c.table[n.val] = some e := by
  rw [CoUnit.from, List.mem_filterMap]
  constructor
  · rintro ⟨m, -, found⟩
    split at found
    · rename_i above
      rw [Option.map_eq_some_iff] at found
      obtain ⟨x, hx, same⟩ := found
      obtain ⟨rfl, rfl⟩ := Prod.mk.inj same
      exact ⟨above, hx⟩
    · cases found
  · rintro ⟨above, found⟩
    exact ⟨n, List.mem_finRange n, by rw [if_pos above, found]; rfl⟩

theorem from_ascends (k : Nat) : (c.from k).Pairwise fun a b => a.1.val < b.1.val := by
  rw [CoUnit.from, List.pairwise_filterMap]
  refine (List.pairwise_lt_finRange 128).imp fun {m n} rises x hx y hy => ?_
  have first {m : Fin 128} {x} (h : (if k ≤ m.val then (c.table[m.val]).map fun e => (m, e) else none) = some x) : x.1 = m := by
    split at h
    · obtain ⟨e, -, rfl⟩ := Option.map_eq_some_iff.mp h
      rfl
    · cases h
  rw [first hx, first hy]
  exact rises

theorem foldl_last {α β : Type} (f : α → β) (z : β) (l : List α) : l.foldl (fun _ a => f a) z = (l.getLast?.map f).getD z := by
  induction l generalizing z with
  | nil => rfl
  | cons a l ih =>
    rw [List.foldl_cons, ih, List.getLast?_cons]
    cases l.getLast? <;> rfl

/-- No entry stands above the last one of a page that holds them all, and one stands above the last of a full page. -/
theorem from_next_isEmpty (k : Nat) :
    (c.from ((((c.from k).take 3).getLast?.map fun e => e.1.val + 1).getD 128)).isEmpty = decide ((c.from k).length ≤ 3) := by
  have rises := from_ascends c k
  rw [Bool.eq_iff_iff, decide_eq_true_iff, List.isEmpty_iff, List.eq_nil_iff_forall_not_mem]
  constructor
  · intro none_
    refine Classical.byContradiction fun long => ?_
    have short : 3 < (c.from k).length := by omega
    have last : ((c.from k).take 3).getLast? = some (c.from k)[2] := by
      rw [List.getLast?_eq_getElem?, List.length_take, Nat.min_eq_left (by omega), List.getElem?_take_of_lt (by omega), List.getElem?_eq_getElem]
    have next := List.pairwise_iff_getElem.mp rises 2 3 (by omega) short (by omega)
    refine none_ (c.from k)[3] ?_
    rw [last, mem_from]
    exact ⟨next, ((mem_from c k _ _).mp (List.getElem_mem short)).2⟩
  · intro short x hx
    rw [List.take_of_length_le short] at hx
    obtain ⟨above, found⟩ := (mem_from c _ x.1 x.2).mp hx
    cases e : (c.from k).getLast? with
    | none => rw [e] at above; exact absurd x.1.isLt (Nat.not_lt.mpr above)
    | some y =>
      rw [e] at above
      have within : x ∈ c.from k := (mem_from c k x.1 x.2).mpr ⟨?_, found⟩
      · obtain ⟨front, whole⟩ := List.getLast?_eq_some_iff.mp e
        rw [whole] at within rises
        rcases List.mem_append.mp within with before | same
        · have less := (List.pairwise_append.mp rises).2.2 x before y List.mem_cons_self
          exact absurd less (Nat.lt_asymm above)
        · rw [List.mem_singleton.mp same] at above
          exact absurd above (Nat.lt_irrefl _)
      · have start := ((mem_from c k y.1 y.2).mp (List.mem_of_getLast? e)).1
        exact Nat.le_of_lt (Nat.lt_of_le_of_lt start above)

theorem from_beyond : (c.from 128).isEmpty = true := by
  rw [List.isEmpty_iff, List.eq_nil_iff_forall_not_mem]
  intro x hx
  exact absurd x.1.isLt (Nat.not_lt.mpr ((mem_from c 128 x.1 x.2).mp hx).1)

/-- The first four of a list of digits to the base b, the first one lowest. -/
theorem foldl_digits (b : Nat) (l : List SiteNo) :
    ((l.take 4).zipIdx).foldl (fun acc (m, k) => acc + m.val * b ^ k) 0 =
      (l.map (·.val)).getD 0 0 + b * (l.map (·.val)).getD 1 0 + b ^ 2 * (l.map (·.val)).getD 2 0 + b ^ 3 * (l.map (·.val)).getD 3 0 := by
  rcases l with _ | ⟨a, _ | ⟨c, _ | ⟨d, _ | ⟨e, l⟩⟩⟩⟩ <;> simp [List.zipIdx, Nat.mul_comm]

/-- The first four members of an entry, a byte to each (R124). -/
theorem memberBytes (l : List SiteNo) :
    ((l.take 4).zipIdx).foldl (fun acc (m, k) => acc + m.val * 256 ^ k) 0 =
      (l.map (·.val)).getD 0 0 + 256 * (l.map (·.val)).getD 1 0 + 65536 * (l.map (·.val)).getD 2 0 + 16777216 * (l.map (·.val)).getD 3 0 := by
  have square : 256 ^ 2 = 65536 := rfl
  have cube : 256 ^ 3 = 16777216 := rfl
  have digits := foldl_digits 256 l
  rwa [square, cube] at digits

end

theorem serveListCoincidence_bad {s : State} (h : 127 < s.param 1) : serveListCoincidence s = (s, { status := .refused .badField }) := by
  rw [serveListCoincidence, if_pos h]

theorem serveListCoincidence_done {s : State} (h : s.param 1 ≤ 127) :
    serveListCoincidence s = (s, { status := .done, words :=
      [.num ((s.co.from (s.param 1)).take 3).length,
       .num (if (s.co.from (s.param 1)).length ≤ 3 then 128 else ((s.co.from (s.param 1)).take 3).foldl (fun _ e => e.1.val + 1) 0),
       .flag (decide ((s.co.from (s.param 1)).length ≤ 3))]
        :: ((s.co.from (s.param 1)).take 3).flatMap fun (n, e) => coEntryWords n e }) := by
  have next := from_next_isEmpty s.co (s.param 1)
  rw [serveListCoincidence, if_neg (Nat.not_lt.mpr h), foldl_last]
  cases last : ((s.co.from (s.param 1)).take 3).getLast? with
  | none =>
    rw [last] at next
    have short : (s.co.from (s.param 1)).length ≤ 3 := of_decide_eq_true (next.symm.trans (from_beyond s.co))
    simp only [last, from_beyond, if_true, if_pos short, decide_eq_true short]
  | some y =>
    rw [last, Option.map_some, Option.getD_some] at next
    by_cases short : (s.co.from (s.param 1)).length ≤ 3
    · simp only [last, next, if_pos short, decide_eq_true short, if_true, from_beyond]
    · simp only [last, next, if_neg short, decide_eq_false short, Bool.false_eq_true, if_false, Option.map_some, Option.getD_some]

end Sys2Proof.Machine

open Sys2Proof Sys2Proof.Machine

/-- Settles O12. -/
theorem listingRequestsChangeNothing : Obligations.ListingRequestsChangeNothing := by
  unfold Obligations.ListingRequestsChangeNothing
  refine ⟨fun s hd => ⟨fun large => ?_, fun n known => ?_⟩, fun c k => ⟨from_ascends c k, mem_from c k⟩, fun s hd => ⟨fun large => ?_, fun small => ?_⟩⟩
  · exact hd.refuses rfl (serveQueryTemplate_none (s := s.served) large)
  · have served := serveQueryTemplate_some (s := s.served) known
    rw [← geometryWords_pair] at served
    exact hd.reads rfl served
  · exact hd.refuses rfl (serveListCoincidence_bad (s := s.served) large)
  · have served := serveListCoincidence_done (s := s.served) small
    simp only [coEntryWords, memberBytes] at served
    exact hd.reads rfl served

end

section
/-! Requests served directly that view a site and that take one thing away (R40 to R42, R60, R126, R157, R162, R173). -/

namespace Sys2Proof.Machine

section
variable {s : State}

/-! ### QUERY-SITE (R42) -/

theorem serveQuerySite_none (h : 255 < s.param 1) : serveQuerySite s = (s, { status := .refused .badSite }) := onSite_of_none h _

theorem serveQuerySite_some {i : SiteNo} (h : s.param 1 = i.val) :
    serveQuerySite s = (s.readClock, { status := .done, words := (s.site i).view (s.inUse i) s.readClock.now (s.param 2) }) := onSite_of_site h _

theorem siteState_eq (i : SiteNo) : s.siteState i = match s.ctx i with
    | none => .vacant
    | some c => match c.phase with
      | .armed => .armed | .testing => .testing | .draining => .draining | .sweeping => .sweeping | .held => .held := by
  unfold State.siteState Site.state State.ctx
  cases (s.site i).ctx with
  | none => rfl
  | some c => cases h : c.phase <;> simp [h, Phase.siteState]

theorem view_vacant {x : Site} (h : x.ctx = none) (inUse now domain : Nat) : x.view inUse now domain =
    [[.siteState .vacant, .zero, .zero, .flag x.staged.isSome, .flag x.hostHold, .flag x.headHold, .zero],
      [], [], [], [.num 0], [], [], [], [], [], [], [], [], [], [.num (match x.staged with | some y => y.tag.toNat | none => 0)]] := by
  simp only [Site.view, Site.viewHead, h]
  rfl

theorem view_current {x : Site} {c : Context} (h : x.ctx = some c) (inUse now domain : Nat) : x.view inUse now domain =
    [[.siteState x.state, .num c.template.val, .policy c.policy, .flag x.staged.isSome, .flag x.hostHold, .flag x.headHold, .flag c.doomed],
      [.num c.tag.toNat], [.num c.quota, .num inUse], [match c.reason with | some r => .reason r | none => .zero, .quality c.flags],
      [.num (match x.drainDeadline with | some t => t - now | none => 0)],
      [.num c.geometry.domainCount], [.num c.geometry.rows], [.num c.geometry.columns], [.num c.geometry.rowGroup],
      [.num c.geometry.columnGroup], [.num c.geometry.spareRows], [.num c.geometry.spareColumns],
      (match c.domains[domain]? with
        | some r => [.domainState r.state, .num r.base.row, .num r.base.column, .num r.defective.row, .num r.defective.column,
                     .num r.assigned.row, .num r.assigned.column]
        | none => []),
      (match c.domains[domain]? with | some r => [.num r.failTotal.toNat] | none => []),
      [.num (match x.staged with | some y => y.tag.toNat | none => 0)]] := by
  simp only [Site.view, Site.viewHead, h, Option.map_some, Option.bind_some]
  cases x.drainDeadline <;> cases c.domains[domain]? <;> rfl

/-- QUERY-SITE reads the clock, which the end of the event leaves (log entry 4). -/
theorem querySite_answers {i : SiteNo} (hd : s.GoServes .querySite) (h : s.param 1 = i.val) : ∃ u, exec .querySite s = .next u ∧ s.now ≤ u.now ∧
    s.Answers u { status := .done, words := (s.site i).view (s.inUse i) u.now (s.param 2) } [.clock] := by
  have served := serveQuerySite_some (s := s.served) h
  have settled : s.served.readClock.linksSettled := hd.linksSettled rfl rfl
  have rest : s.served.readClock.ex.atRest := hd.atRest
  have quiet := hd.quietly served (readClock_frame s.served) (by decide) settled rest
  have now (reply : Reply) : (s.served.readClock.postReply reply).finish.now = s.readClock.now := by
    rw [finish_quiet (s := s.served.readClock.postReply reply) (linksSettled_congr settled rfl rfl) rest]
    rfl
  refine ⟨_, hd.exec rfl served, ?_, ?_⟩
  · rw [now]
    exact Nat.le_add_right _ _
  · rw [now]
    exact quiet

/-! ### Stop Notices, the Integrity Capture, TABLE_FULL and causes (R40, R41, R60, R126, R157) -/

theorem noticePosted_new {i : SiteNo} {l : List Notice} (h : ∀ n ∈ l, n.site ≠ i) (why : NoticeReason) (tag : Word) :
    noticePosted i why tag l = l ++ [{ site := i, reason := why, tag, more := false }] := by
  rw [noticePosted, if_neg]
  simpa using h

theorem noticePosted_again {i : SiteNo} {l : List Notice} (h : ∃ n ∈ l, n.site = i) (why : NoticeReason) (tag : Word) :
    noticePosted i why tag l = l.map fun n => if n.site = i then { n with more := true } else n := by
  rw [noticePosted, if_pos]
  simpa using h

theorem serveTakeStopNotices_eq : serveTakeStopNotices s = ({ s with lists := { s.lists with stopNotices := s.lists.stopNotices.drop 7 } },
    { status := .done, words := [.num (min 7 s.lists.stopNotices.length), .num (s.lists.stopNotices.length - 7)]
        :: (s.lists.stopNotices.take 7).flatMap noticeWords }) := by
  rw [← List.length_take, ← List.length_drop]
  rfl

theorem serveQueryIntegrity_eq : serveQueryIntegrity s = ({ s with store := { s.store with capture := none } },
    { status := .done, words := match s.store.capture with
        | some c => [[.flag true], [.num c.site.val], [.num c.index], [.activity c.activity], [.flag c.overflow]]
        | none => [[.flag false], [.num 0], [.num 0], [.zero], [.flag false]] }) := rfl

theorem isTripped_eq (e : Option CoEntry) : CoEntry.isTripped e = ((e.map (·.state)) == some .tripped) := by
  cases e with
  | none => rfl
  | some e => cases h : e.state <;> simp [CoEntry.isTripped, h]

theorem serveQueryCoincidence_eq : serveQueryCoincidence s = ({ s with co := { s.co with tableFull := false } },
    { status := .done, words := [[.num s.co.threshold], [.num s.co.span], [.coAction s.co.action], [.num (s.co.table.toList.filter (·.isSome)).length],
        [.num (s.co.table.toList.filter fun e => (e.map (·.state)) == some .tripped).length], [.flag s.co.tableFull]] }) := by
  rw [← funext isTripped_eq]
  rfl

theorem serveQueryLink_none (h : 7 < s.param 1) : serveQueryLink s = (s, { status := .refused .badSite }) := by
  rw [serveQueryLink, headNo?_none h]

theorem serveQueryLink_some {h : HeadNo} (e : s.param 1 = h.val) :
    serveQueryLink s = (s.modLink h fun l => { l with causes := {} },
      { status := .done,
        words := [[.linkState (s.link h).state, .num (s.link h).slotCount, .flag (s.link h).marker, .num (s.link h).badCount,
            .sending (s.link h).transmitter.isSome],
          [.num (s.link h).serial.toNat], [.num (s.link h).fifo.length, .num ((s.link h).downCredit.getD 0), .num (s.link h).balance],
          [.causes (s.link h).causes]] }) := by
  simp only [serveQueryLink, e, headNo?_val]
  rfl

/-- A link that the end of an event passes by: it has its gate set and leaves nothing waiting (R24, R155). -/
structure Link.Settled (l : Link) (g : SlotSet) : Prop where
  gate : l.state = .up → l.gateHanded = g
  queue : l.state = .up → l.transmitter = none → l.downGate = none ∧ l.drains = [] ∧ l.downCredit = none

theorem State.Settled.link (hs : s.Settled) (h : HeadNo) : (s.link h).Settled (s.gateSet h) := ⟨hs.gates h, hs.transmitters h⟩

/-- A change of a link that keeps its state, and that the end of an event passes by, keeps the links settled. -/
theorem modLink_linksSettled_of (hs : s.Settled) (h : HeadNo) (f : Link → Link) (state : (f (s.link h)).state = (s.link h).state)
    (passes : (f (s.link h)).Settled (s.gateSet h)) : (s.modLink h f).linksSettled := by
  intro k
  have gates : (s.modLink h f).gateSet k = s.gateSet k := by
    refine gateSet_congr (modLink_sites s h f) k ?_
    rw [modLink_link]
    split
    · rename_i e
      rw [state, e]
    · rfl
  rw [gates, modLink_link]
  split
  · rename_i e
    rw [e]
    exact finished_eq _ _ passes.gate passes.queue
  · exact finished_eq _ _ (hs.gates k) (hs.transmitters k)

theorem State.GoServes.settled {r : Request} (hd : s.GoServes r) : s.served.Settled := settled_of_port hd.ready.settled _ s.engine

theorem causes_linksSettled (hs : s.Settled) (h : HeadNo) (c : LinkCauses) : (s.modLink h fun l => { l with causes := c }).linksSettled :=
  modLink_linksSettled_of hs h _ rfl ⟨(hs.link h).gate, (hs.link h).queue⟩

/-! ### The Export Engine's view (R162, R173) -/

/-- A descriptor slot is HELD. -/
def DescSlot.isHeld : DescSlot → Bool
  | .held _ => true
  | _ => false

theorem engineState_eq (e : Exporter) : e.engineState =
    if e.stall ≠ none then .stalled
    else if e.assembling ≠ none then .assembling
    else if e.buffer ≠ none ∧ e.current.isHeld = true then .writing
    else if e.buffer ≠ none then .waiting
    else if e.current.isHeld = true then .ready
    else .idle := by
  unfold Exporter.engineState
  simp only [Option.isSome_iff_ne_none]
  refine ite_congr rfl (fun _ => rfl) fun _ => ite_congr rfl (fun _ => rfl) fun _ => ?_
  cases e.buffer <;> cases e.current <;> rfl

theorem badDescriptor_atRest {e : Exporter} (h : e.atRest) (b : Bool) : ({ e with badDescriptor := b } : Exporter).atRest :=
  ⟨(beginWrite_fix _).mpr ((beginWrite_fix e).mp h.write), (beginAssembly_fix _).mpr ((beginAssembly_fix e).mp h.assembly), h.initiator⟩

theorem serveQueryExport_eq : serveQueryExport s = ({ s with ex := { s.ex with badDescriptor := false } },
    { status := .done,
      words := [[.engineState s.ex.engineState, (match s.ex.stall with | some k => .stall k | none => .zero), s.ex.current.field, s.ex.nextSlot.field,
            .flag s.ex.flushPending, .num s.ex.writeBacks.length, .flag s.ex.badDescriptor],
          [.num s.ex.current.address], [.num s.ex.current.bufLen, .num (s.ex.fillOffset.getD 0)], [.num s.ex.nextSlot.address],
          [.num s.ex.collectionQueue.length, .num ((s.ex.collectionQueue.head?.map (·.val)).getD 0)],
          [.num ((s.ex.buffer.map (·.words.length)).getD 0), .num (s.ex.writePos.getD 0)]] }) := by
  have head : (match s.ex.collectionQueue with | i :: _ => i.val | [] => 0) = (s.ex.collectionQueue.head?.map (·.val)).getD 0 := by
    cases s.ex.collectionQueue <;> rfl
  have words : (match s.ex.buffer with | some r => r.words.length | none => 0) = (s.ex.buffer.map (·.words.length)).getD 0 := by
    cases s.ex.buffer <;> rfl
  rw [← head, ← words]
  rfl

end

end Sys2Proof.Machine

open Sys2Proof Sys2Proof.Machine

/-- Settles O14. -/
theorem querySiteViewsTheSite : Obligations.QuerySiteViewsTheSite := by
  unfold Obligations.QuerySiteViewsTheSite
  refine ⟨fun s i => ⟨rfl, siteState_eq i⟩, fun s hd => ⟨fun large => ?_, fun i known vacant => ?_, fun i c known current => ?_⟩⟩
  · exact hd.refuses rfl (serveQuerySite_none (s := s.served) large)
  · obtain ⟨u, row, now, answers⟩ := querySite_answers hd known
    rw [view_vacant vacant] at answers
    exact ⟨u, row, now, answers⟩
  · obtain ⟨u, row, now, answers⟩ := querySite_answers hd known
    rw [view_current current] at answers
    exact ⟨u, row, now, answers⟩

/-- Settles O15. -/
theorem queriesThatTakeAway : Obligations.QueriesThatTakeAway := by
  unfold Obligations.QueriesThatTakeAway
  refine ⟨fun i why tag l => ⟨fun h => noticePosted_new h why tag, fun h => noticePosted_again h why tag⟩, fun s hd => ?_, fun s hd => ?_, fun s hd => ?_⟩
  · have served := serveTakeStopNotices_eq (s := s.served)
    refine ⟨_, hd.exec rfl served, ?_, by rw [posted_lists]; rfl⟩
    exact hd.quietly served (stopNotices_frame _ _) (by decide) (hd.linksSettled rfl rfl) hd.atRest
  · have served := serveQueryIntegrity_eq (s := s.served)
    refine ⟨_, hd.exec rfl served, ?_, by rw [posted_store]⟩
    exact hd.quietly served (capture_frame _ _) (by decide) (hd.linksSettled rfl rfl) hd.atRest
  · have served := serveQueryCoincidence_eq (s := s.served)
    refine ⟨_, hd.exec rfl served, ?_, by rw [posted_co]⟩
    exact hd.quietly served (tableFull_frame _ _) (by decide) (hd.linksSettled rfl rfl) hd.atRest

/-- Settles O16. -/
theorem queriesOfLinkAndExport : Obligations.QueriesOfLinkAndExport := by
  unfold Obligations.QueriesOfLinkAndExport
  refine ⟨fun s hd => ⟨fun large => ?_, fun h known => ?_⟩, fun e => ?_, fun s hd => ?_⟩
  · exact hd.refuses rfl (serveQueryLink_none (s := s.served) large)
  · have served := serveQueryLink_some (s := s.served) known
    have settled : (s.served.modLink h fun l => { l with causes := {} }).linksSettled := causes_linksSettled hd.settled h {}
    refine ⟨_, hd.exec rfl served, hd.quietly served (modLink_frame _ h _) (by decide) settled hd.atRest, ?_, fun k other => ?_⟩
    · rw [posted_link settled, modLink_link_self]
      rfl
    · rw [posted_link settled, modLink_link, if_neg other]
      rfl
  · exact engineState_eq e
  · have served := serveQueryExport_eq (s := s.served)
    have rest : ({ s.served.ex with badDescriptor := false } : Exporter).atRest := badDescriptor_atRest hd.atRest false
    refine ⟨_, hd.exec rfl served, hd.quietly served (holdings_frame _ _ rfl) (by decide) (hd.linksSettled rfl rfl) rest, ?_⟩
    exact posted_ex rest

end

section
/-! Gate sets and the downlink order (R24, R154, R155), and the direct requests on sites: holds, START-SITES, CLOSE (R21, R23, R25, R27, R28). -/

namespace Sys2Proof.Machine

/-! ### Sites and slots -/

@[simp] theorem headOf_siteOf (h : HeadNo) (sl : SlotNo) : headOf (siteOf h sl) = h := Fin.ext (by simp [headOf, siteOf]; omega)

@[simp] theorem slotOf_siteOf (h : HeadNo) (sl : SlotNo) : slotOf (siteOf h sl) = sl := Fin.ext (by simp [slotOf, siteOf])

theorem siteOf_headOf (i : SiteNo) : siteOf (headOf i) (slotOf i) = i := Fin.ext (by simp [headOf, slotOf, siteOf]; omega)

theorem siteOf_eq_iff {h : HeadNo} {sl : SlotNo} {i : SiteNo} : siteOf h sl = i ↔ headOf i = h ∧ slotOf i = sl := by
  constructor
  · rintro rfl
    exact ⟨headOf_siteOf h sl, slotOf_siteOf h sl⟩
  · rintro ⟨rfl, rfl⟩
    exact siteOf_headOf i

section
variable {s t : State}

/-! ### Gate sets (R24) -/

/-- A site is TESTING and neither of its holds is set. -/
def State.gateOpen (s : State) (i : SiteNo) : Bool := s.siteState i == .testing && !(s.site i).hostHold && !(s.site i).headHold

theorem gateBit_eq (s : State) (h : HeadNo) (sl : SlotNo) : s.gateBit h sl = ((s.link h).state == .up && s.gateOpen (siteOf h sl)) := by
  simp only [State.gateBit, State.gateOpen, Bool.and_assoc]

theorem gateSet_getLsbD (s : State) (h : HeadNo) (sl : SlotNo) : (s.gateSet h).getLsbD sl.val = ((s.link h).state == .up && s.gateOpen (siteOf h sl)) := by
  unfold State.gateSet
  split
  · rw [getLsbD_bitSet 32 _ sl, gateBit_eq]
  · rename_i down
    simp [down]

/-- The gate sets look at the open gates and the link states. -/
theorem gateSet_of_gates (gates : ∀ i, t.gateOpen i = s.gateOpen i) (h : HeadNo) (state : (t.link h).state = (s.link h).state) :
    t.gateSet h = s.gateSet h := by
  unfold State.gateSet
  rw [state]
  congr 2
  funext sl
  rw [gateBit_eq, gateBit_eq, gates, state]

theorem linksSettled_of_gates (hs : s.linksSettled) (gates : ∀ i, t.gateOpen i = s.gateOpen i) (links : t.links = s.links) : t.linksSettled := by
  intro h
  have link : t.link h = s.link h := by simp [State.link, links]
  rw [link, gateSet_of_gates gates h (by rw [link])]
  exact hs h

/-- A site that is TESTING neither before nor after a change has its gate closed. -/
theorem gateOpen_of_not_testing {i : SiteNo} (h : s.siteState i ≠ .testing) : s.gateOpen i = false := by simp [State.gateOpen, h]

/-- A change of one site that leaves the gate it has. -/
theorem gates_of_site {i : SiteNo} (others : ∀ j, j ≠ i → t.site j = s.site j) (self : t.gateOpen i = s.gateOpen i) (j : SiteNo) :
    t.gateOpen j = s.gateOpen j := by
  by_cases e : j = i
  · rw [e, self]
  · simp only [State.gateOpen, State.siteState, others j e]

/-- The end of an event for an UP link, entry by entry (R24, R154, R155). -/
theorem finished_of_up {l : Link} {g : SlotSet} (up : l.state = .up) {m : Link}
    (hm : m = if l.gateHanded = g then l else { l with downGate := some g, gateHanded := g }) :
    l.finished g =
      match m.transmitter, m.downGate, m.drains, m.downCredit with
      | some _, _, _, _ => m
      | none, some set, _, _ => { m with downGate := none, transmitter := some (.gate set) }
      | none, none, sl :: rest, _ => { m with drains := rest, transmitter := some (.drain sl) }
      | none, none, [], some n => { m with downCredit := none, transmitter := some (.credit n), balance := m.balance + n }
      | none, none, [], none => m := by
  have handed : l.handGate g = m := by
    rw [hm, Link.handGate]
    by_cases same : l.gateHanded = g
    · rw [if_neg (fun h => h.2 same), if_pos same]
    · rw [if_pos ⟨up, same⟩, if_neg same]
  have state : m.state = .up := by rw [← handed, handGate_state, up]
  rw [Link.finished, handed, Link.takeDownlink]
  cases transmitter : m.transmitter with
  | some f => rw [if_neg (by simp)]
  | none =>
    rw [if_pos ⟨state, rfl⟩]
    cases gate : m.downGate with
    | some set => rfl
    | none =>
      cases drains : m.drains with
      | cons sl rest => rfl
      | nil => cases credit : m.downCredit <;> rfl

/-! ### Events that find the part ready -/

theorem happens_links {changed : List Block} (hf : FrameBut changed s t) (hp : Block.pendingSet ∉ changed) (rest : t.ex.atRest) :
    s.Happens t.finish (changed ++ [.links]) where
  sources := finish_sources fun n _ _ => by rw [hf.pendingSet hp]
  frame := hf.then (finish_frame_links rest) (by simp; grind)

theorem happens_export {changed : List Block} (hf : FrameBut changed s t) (hp : Block.pendingSet ∉ changed) (settled : t.linksSettled) :
    s.Happens t.finish (changed ++ [.export_, .clock]) where
  sources := finish_sources fun n _ _ => by rw [hf.pendingSet hp]
  frame := hf.then (finish_frame_export settled) (by simp; grind)

theorem happens_quiet {changed : List Block} (hf : FrameBut changed s t) (hp : Block.pendingSet ∉ changed) (settled : t.linksSettled)
    (rest : t.ex.atRest) : s.Happens t.finish changed where
  sources := finish_sources fun n _ _ => by rw [hf.pendingSet hp]
  frame := hf.then (finish_frame_quiet settled rest) (by simp; grind)

theorem State.Happens.mono {u : State} {changed more : List Block} (h : s.Happens u changed) (hm : ∀ b, b ∈ changed → b ∈ more) : s.Happens u more :=
  ⟨h.sources, h.frame.mono fun b hb => by
    rcases List.mem_cons.mp hb with rfl | block
    · exact List.mem_cons_self
    · exact List.mem_cons_of_mem _ (hm b block)⟩

/-- Changing one link leaves the end of the event to the others as it was in a settled part. -/
theorem finish_link_ne (hs : s.linksSettled) {h k : HeadNo} (other : k ≠ h) (f : Link → Link) : (s.modLink h f).finish.link k = s.link k := by
  have link : (s.modLink h f).link k = s.link k := by rw [modLink_link, if_neg other]
  rw [finish_link, link, gateSet_congr (modLink_sites s h f) k (by rw [link])]
  exact hs k

theorem finish_now_of_rest (rest : t.ex.atRest) : t.finish.now = t.now := by
  rw [finish_export_rest rest]
  rfl

theorem posted_now {reply : Reply} (rest : t.ex.atRest) : (t.postReply reply).finish.now = t.now := finish_now_of_rest (t := t.postReply reply) rest

/-! ### Holds and UNSTAGE (R21, R25) -/

theorem serveHoldSite_none (h : 255 < s.param 1) : serveHoldSite s = (s, { status := .refused .badSite }) := onSite_of_none h _

theorem serveHoldSite_vacant {i : SiteNo} (h : s.param 1 = i.val) (vacant : s.siteState i = .vacant) :
    serveHoldSite s = (s, { status := .refused .badState }) := (onSite_of_site h _).trans (if_pos vacant)

theorem serveHoldSite_done {i : SiteNo} (h : s.param 1 = i.val) (present : s.siteState i ≠ .vacant) :
    serveHoldSite s = (s.modSite i fun y => { y with hostHold := true }, { status := .done, words := [[.flag (s.site i).hostHold]] }) :=
  (onSite_of_site h _).trans (if_neg present)

theorem serveReleaseHold_none (h : 255 < s.param 1) : serveReleaseHold s = (s, { status := .refused .badSite }) := onSite_of_none h _

theorem serveReleaseHold_done {i : SiteNo} (h : s.param 1 = i.val) :
    serveReleaseHold s = (s.modSite i fun y => { y with hostHold := false }, { status := .done, words := [[.flag (s.site i).hostHold]] }) :=
  onSite_of_site h _

theorem serveUnstage_none (h : 255 < s.param 1) : serveUnstage s = (s, { status := .refused .badSite }) := onSite_of_none h _

theorem serveUnstage_done {i : SiteNo} (h : s.param 1 = i.val) :
    serveUnstage s = (s.modSite i fun y => { y with staged := none },
      { status := .done, words := [[.flag (s.site i).staged.isSome], [.num (match (s.site i).staged with | some x => x.tag.toNat | none => 0)]] }) :=
  onSite_of_site h _

/-- What is staged does not matter to the gates. -/
theorem staged_linksSettled (hs : s.linksSettled) (i : SiteNo) (x : Option Staged) : (s.modSite i fun y => { y with staged := x }).linksSettled := by
  refine linksSettled_of_gates hs (gates_of_site (fun j e => modSite_site_ne e s _) ?_) rfl
  simp only [State.gateOpen, State.siteState, modSite_site_self, Site.state]

/-- A direct request that changes one site and that the links follow (R24, R155). -/
theorem State.GoServes.onSite {r : Request} {reply : Reply} {c : Instr} (hd : s.GoServes r) (row : Machine.exec c s = .next (s.directRow r)) {i : SiteNo}
    {f : Site → Site} (hs : serve r s.served = (s.served.modSite i f, reply)) :
    ∃ u, Machine.exec c s = .next u ∧ s.Answers u reply [.sites, .links] ∧ u.site i = f (s.site i) ∧ (∀ j, j ≠ i → u.site j = s.site j) ∧
      s.LinksFollow u fun _ l => l := by
  refine ⟨_, hd.exec row hs, hd.onLinks hs (modSite_frame _ i f) (by decide) hd.atRest, ?_, fun j other => ?_, posted_linksFollow _ fun k => rfl⟩
  · rw [posted_site, modSite_site_self]
    rfl
  · rw [posted_site, modSite_site_ne other]
    rfl

/-! ### START-SITES (R23) -/

theorem startSite_site (h : HeadNo) (sl : SlotNo) (i : SiteNo) : (s.startSite (siteOf h sl)).site i =
    if headOf i = h ∧ slotOf i = sl then { s.site i with ctx := (s.ctx i).map fun c => { c with phase := .testing } } else s.site i := by
  rw [State.startSite, modCtx_site]
  by_cases e : i = siteOf h sl
  · rw [if_pos e, if_pos (siteOf_eq_iff.mp e.symm), ← e]
    rfl
  · rw [if_neg e, if_neg fun k => e (siteOf_eq_iff.mpr k).symm]

theorem startSites_site (h : HeadNo) (l : List SlotNo) (s : State) (i : SiteNo) :
    (l.foldl (fun t sl => t.startSite (siteOf h sl)) s).site i =
      if headOf i = h ∧ slotOf i ∈ l then { s.site i with ctx := (s.ctx i).map fun c => { c with phase := .testing } } else s.site i := by
  induction l generalizing s with
  | nil => simp
  | cons sl l ih =>
    have again : (s.startSite (siteOf h sl)).ctx i = ((s.startSite (siteOf h sl)).site i).ctx := rfl
    rw [List.foldl_cons, ih, again, startSite_site]
    by_cases head : headOf i = h
    · by_cases first : slotOf i = sl <;> by_cases later : slotOf i ∈ l <;> simp [head, first, later, State.ctx, Function.comp_def]
    · simp [head]

end

end Sys2Proof.Machine

open Sys2Proof Sys2Proof.Machine

/-- Settles O17. -/
theorem gateSetAndDownlinkOrder : Obligations.GateSetAndDownlinkOrder := by
  unfold Obligations.GateSetAndDownlinkOrder
  refine ⟨fun h sl => ⟨by simp [siteOf]; omega, headOf_siteOf h sl, slotOf_siteOf h sl⟩, fun s h sl => ?_, fun l g down => finished_eq l g (absurd · down) (absurd · down),
    fun l g up m hm => finished_of_up up hm, fun s h ready => ?_⟩
  · rw [gateSet_getLsbD]
    simp [State.gateOpen, and_assoc]
  · have sent : FrameBut [.links] s (s.frameDone h) := modLink_frame s h _
    refine ⟨(s.frameDone h).finish, congrArg Host.Outcome.next (Ready.atEvent ready _), ?_, ?_, fun k other => ?_⟩
    · exact (happens_links sent (by decide) ready.settled.exportAtRest).mono (by simp)
    · have idle : (s.frameDone h).link h = { s.link h with transmitter := none } := modLink_link_self s h _
      have gates : (s.frameDone h).gateSet h = s.gateSet h := gateSet_congr (s := s) (t := s.frameDone h) (modLink_sites s h _) h (by rw [idle])
      rw [finish_link, gates, idle]
    · exact finish_link_ne ready.settled.linksSettled other _

/-- Settles O18. -/
theorem holdsAndUnstaging : Obligations.HoldsAndUnstaging := by
  unfold Obligations.HoldsAndUnstaging
  refine ⟨fun s hd => ⟨fun large => ?_, fun i known vacant => ?_, fun i known present => ?_⟩,
    fun s hd => ⟨fun large => ?_, fun i known => ?_⟩, fun s hd => ⟨fun large => ?_, fun i known => ?_⟩⟩
  · exact hd.refuses rfl (serveHoldSite_none (s := s.served) large)
  · exact hd.refuses rfl (serveHoldSite_vacant (s := s.served) known vacant)
  · exact hd.onSite rfl (serveHoldSite_done (s := s.served) known present)
  · exact hd.refuses rfl (serveReleaseHold_none (s := s.served) large)
  · exact hd.onSite rfl (serveReleaseHold_done (s := s.served) known)
  · exact hd.refuses rfl (serveUnstage_none (s := s.served) large)
  · have served := serveUnstage_done (s := s.served) known
    refine ⟨_, hd.exec rfl served, ?_, ?_, fun j other => ?_⟩
    · exact hd.quietly served (modSite_frame _ i _) (by decide) (staged_linksSettled (hd.linksSettled rfl rfl) i none) hd.atRest
    · rw [posted_site, modSite_site_self]
      rfl
    · rw [posted_site, modSite_site_ne other]
      rfl

end

section
/-! START-SITES and CLOSE (R23, R27, R28), and the requests on links (R144, R158). -/

namespace Sys2Proof.Machine

section
variable {s t : State}

theorem served_siteState (s : State) (i : SiteNo) : s.served.siteState i = s.siteState i := rfl

theorem served_link (s : State) (h : HeadNo) : s.served.link h = s.link h := rfl

/-! ### START-SITES (R23) -/

/-- The slots of head h that START-SITES names, as judged, in ascending order. -/
def State.startSlots (s : State) (h : HeadNo) : List SlotNo := (slotsOf (s.reqWord 2)).filter fun sl => s.judgeStart h sl == .started

/-- The named ARMED sites of a head below its slot count start (R23). -/
def State.sitesStarted (s : State) (h : HeadNo) : State := (s.startSlots h).foldl (fun t sl => t.startSite (siteOf h sl)) s

theorem serveStartSites_none (h : 7 < s.param 1) : serveStartSites s = (s, { status := .refused .badSite }) := by
  rw [serveStartSites, headNo?_none h]

theorem serveStartSites_notUp {h : HeadNo} (e : s.param 1 = h.val) (down : (s.link h).state ≠ .up) :
    serveStartSites s = (s, { status := .refused .linkNotUp }) := by
  simp only [serveStartSites, e, headNo?_val, if_pos down]

theorem serveStartSites_done {h : HeadNo} (e : s.param 1 = h.val) (up : (s.link h).state = .up) :
    serveStartSites s = (s.sitesStarted h, { status := .done, words := [[.slots (s.startSet h (s.reqWord 2) .started)],
      [.slots (s.startSet h (s.reqWord 2) .noSlot)], [.slots (s.startSet h (s.reqWord 2) .badState)]] }) := by
  simp only [serveStartSites, e, headNo?_val, up, ne_eq, not_true_eq_false, if_false]
  rfl

theorem startSet_getLsbD (h : HeadNo) (set : SlotSet) (j : StartJudged) (sl : SlotNo) :
    (s.startSet h set j).getLsbD sl.val = (set.getLsbD sl.val && s.judgeStart h sl == j) := getLsbD_bitSet 32 _ sl

/-- The three judgments exclude one another (R23). -/
theorem judgeStart_iff (h : HeadNo) (sl : SlotNo) :
    (s.judgeStart h sl = .started ↔ sl.val < (s.link h).slotCount ∧ s.siteState (siteOf h sl) = .armed) ∧
      (s.judgeStart h sl = .noSlot ↔ (s.link h).slotCount ≤ sl.val) ∧
      (s.judgeStart h sl = .badState ↔ sl.val < (s.link h).slotCount ∧ s.siteState (siteOf h sl) ≠ .armed) := by
  unfold State.judgeStart
  split
  · rename_i beyond
    simp [beyond, Nat.not_lt.mpr beyond]
  · rename_i within
    split <;> simp_all

theorem judgeStart_started (h : HeadNo) (sl : SlotNo) :
    (s.judgeStart h sl == .started) = (decide (sl.val < (s.link h).slotCount) && s.siteState (siteOf h sl) == .armed) := by
  rw [Bool.eq_iff_iff, beq_iff_eq, (judgeStart_iff h sl).1]
  simp

theorem judgeStart_noSlot (h : HeadNo) (sl : SlotNo) : (s.judgeStart h sl == .noSlot) = decide ((s.link h).slotCount ≤ sl.val) := by
  rw [Bool.eq_iff_iff, beq_iff_eq, (judgeStart_iff h sl).2.1]
  simp

theorem judgeStart_badState (h : HeadNo) (sl : SlotNo) :
    (s.judgeStart h sl == .badState) = (decide (sl.val < (s.link h).slotCount) && s.siteState (siteOf h sl) != .armed) := by
  rw [Bool.eq_iff_iff, beq_iff_eq, (judgeStart_iff h sl).2.2]
  simp

theorem mem_startSlots (h : HeadNo) (sl : SlotNo) : sl ∈ s.startSlots h ↔ (s.startSet h (s.reqWord 2) .started).getLsbD sl.val = true := by
  rw [startSet_getLsbD, State.startSlots, List.mem_filter, slotsOf, List.mem_filter]
  simp

theorem sitesStarted_site (h : HeadNo) (i : SiteNo) :
    (s.sitesStarted h).site i = if headOf i = h ∧ (s.startSet h (s.reqWord 2) .started).getLsbD (slotOf i).val = true
      then { s.site i with ctx := (s.ctx i).map fun c => { c with phase := .testing } } else s.site i := by
  rw [State.sitesStarted, startSites_site]
  simp only [mem_startSlots]

theorem sitesStarted_frame (h : HeadNo) : FrameBut [.sites] s (s.sitesStarted h) := frame_foldl _ (fun s sl => startSite_frame s _) _ s

theorem sitesStarted_ex (h : HeadNo) : (s.sitesStarted h).ex = s.ex :=
  foldl_keeps State.ex (fun t sl => t.startSite (siteOf h sl)) (fun _ _ => rfl) _ s

/-! ### CLOSE (R27, R28) -/

theorem serveClose_none (h : 255 < s.param 1) : serveClose s = (s, { status := .refused .badSite }) := onSite_of_none h _

theorem serveClose_vacant {i : SiteNo} (h : s.param 1 = i.val) (vacant : s.siteState i = .vacant) :
    serveClose s = (s, { status := .refused .badState }) := by
  rw [serveClose, onSite_of_site h, vacant]

theorem serveClose_already {i : SiteNo} (h : s.param 1 = i.val) (closing : s.siteState i ∈ [.draining, .sweeping, .held]) :
    serveClose s = (s, { status := .refused .already }) := by
  simp only [List.mem_cons, List.not_mem_nil, or_false] at closing
  rw [serveClose, onSite_of_site h]
  rcases closing with state | state | state <;> rw [state]

theorem serveClose_armed {i : SiteNo} (h : s.param 1 = i.val) (armed : s.siteState i = .armed) :
    serveClose s = (s.toSweeping i, { status := .done, words := [[.siteState .sweeping]] }) := by
  rw [serveClose, onSite_of_site h, armed]

theorem serveClose_testing {i : SiteNo} (h : s.param 1 = i.val) (testing : s.siteState i = .testing) :
    serveClose s = (s.enterDraining i, { status := .done, words := [[.siteState .draining]] }) := by
  rw [serveClose, onSite_of_site h, testing]

/-- A site that is not TESTING and moves to SWEEPING or on has its gate closed before and after. -/
theorem toSweeping_linksSettled (hs : s.linksSettled) {i : SiteNo} (closed : s.siteState i ≠ .testing) : (s.toSweeping i).linksSettled := by
  refine linksSettled_of_gates hs (gates_of_site (i := i) (fun j e => ?_) ?_) rfl
  · rw [toSweeping_site, if_neg e]
  · rw [gateOpen_of_not_testing closed, gateOpen_of_not_testing]
    rw [toSweeping_siteState]
    split
    · decide
    · exact closed

theorem addDrain_eq (i : SiteNo) (l : Link) :
    l.addDrain (slotOf i) = if l.state = .up ∧ slotOf i ∉ l.drains then { l with drains := l.drains ++ [slotOf i] } else l := by
  unfold Link.addDrain
  by_cases up : l.state = .up <;> by_cases asked : slotOf i ∈ l.drains <;> simp [up, asked]

/-- The DRAIN request of a site that enters DRAINING (R28, R154). -/
theorem enterDraining_link (i : SiteNo) (h : HeadNo) : (s.enterDraining i).link h =
    if h = headOf i ∧ (s.link h).state = .up ∧ slotOf i ∉ (s.link h).drains then { s.link h with drains := (s.link h).drains ++ [slotOf i] }
    else s.link h := by
  have link : (s.enterDraining i).link h = if h = headOf i then (s.link (headOf i)).addDrain (slotOf i) else s.link h := modLink_link _ _ _ _
  rw [link]
  by_cases head : h = headOf i
  · rw [if_pos head, ← head, addDrain_eq]
    simp only [head, true_and]
  · rw [if_neg head, if_neg fun k => head k.1]

/-! ### LINK-ENABLE and LINK-RESET (R144, R158) -/

theorem serveLinkEnable_none (h : 7 < s.param 1) : serveLinkEnable s = (s, { status := .refused .badSite }) := by
  rw [serveLinkEnable, headNo?_none h]

theorem serveLinkEnable_down {h : HeadNo} (e : s.param 1 = h.val) (down : (s.link h).state = .down) :
    serveLinkEnable s = (s.startTraining h, { status := .done }) := by
  simp only [serveLinkEnable, e, headNo?_val, down]

theorem serveLinkEnable_already {h : HeadNo} (e : s.param 1 = h.val) (running : (s.link h).state ∈ [.training, .up]) :
    serveLinkEnable s = (s, { status := .refused .already }) := by
  simp only [List.mem_cons, List.not_mem_nil, or_false] at running
  rcases running with running | running <;> simp only [serveLinkEnable, e, headNo?_val, running]

theorem serveLinkEnable_faulted {h : HeadNo} (e : s.param 1 = h.val) (faulted : (s.link h).state = .faulted) :
    serveLinkEnable s = (s, { status := .refused (if (s.link h).marker then .headBusy else .badState) }) := by
  simp only [serveLinkEnable, e, headNo?_val, faulted]

theorem startTraining_frame (s : State) (h : HeadNo) : FrameBut [.clock, .links] s (s.startTraining h) := (readClock_frame s).trans (modLink_frame _ h _)

theorem startTraining_linksSettled (hs : s.linksSettled) (h : HeadNo) : (s.startTraining h).linksSettled :=
  modLink_linksSettled (linksSettled_congr (t := s.readClock) hs rfl rfl) h _ nofun

theorem serveLinkReset_none (h : 7 < s.param 1) : serveLinkReset s = (s, { status := .refused .badSite }) := by
  rw [serveLinkReset, headNo?_none h]

/-- The link of a head is busy: its marker is present, or it is UP and a site of it is TESTING or DRAINING (R158). -/
def State.headBusy (s : State) (h : HeadNo) : Bool := (s.link h).marker || ((s.link h).state == .up && s.headTests h)

theorem headTests_iff (h : HeadNo) : s.headTests h = true ↔ ∃ sl, s.siteState (siteOf h sl) = .testing ∨ s.siteState (siteOf h sl) = .draining := by
  simp [State.headTests, sitesOf]

theorem headBusy_iff (h : HeadNo) : s.headBusy h = true ↔ ((s.link h).marker = true ∨ ((s.link h).state = .up ∧
    ∃ sl, s.siteState (siteOf h sl) = .testing ∨ s.siteState (siteOf h sl) = .draining)) := by
  rw [← headTests_iff]
  simp [State.headBusy]

theorem serveLinkReset_busy {h : HeadNo} (e : s.param 1 = h.val) (busy : s.headBusy h = true) :
    serveLinkReset s = (s, { status := .refused .headBusy }) := by
  unfold State.headBusy at busy
  simp only [serveLinkReset, e, headNo?_val, busy, if_true]

/-- The state of a link that has been reset: its head holds clear and the link DOWN (R26, R31, R158). -/
def State.linkDowned (s : State) (h : HeadNo) : State :=
  ((if (s.link h).state = .up then s.linkLeftUp h else s).clearHeadHolds h).setLink h Link.down

theorem serveLinkReset_done {h : HeadNo} (e : s.param 1 = h.val) (free : s.headBusy h = false) :
    serveLinkReset s = (s.linkDowned h, { status := .done, words := [[.linkState (s.link h).state], [.num (s.link h).fifo.length]] }) := by
  unfold State.headBusy at free
  simp only [serveLinkReset, e, headNo?_val, free, Bool.false_eq_true, if_false]
  rfl

theorem linkDowned_frame (s : State) (h : HeadNo) : FrameBut [.sites, .links] s (s.linkDowned h) :=
  (frame_ite (c := [.sites, .links]) (linkLeftUp_frame s h) (FrameBut.refl s _)).then ((clearHeadHolds_frame _ h).trans (setLink_frame _ h _)) (by simp)

theorem mem_sitesOf {h : HeadNo} {i : SiteNo} : i ∈ sitesOf h ↔ headOf i = h := by
  simp only [sitesOf, List.mem_map, List.mem_finRange, true_and]
  constructor
  · rintro ⟨sl, rfl⟩
    exact headOf_siteOf h sl
  · intro head
    exact ⟨slotOf i, siteOf_eq_iff.mpr ⟨head, rfl⟩⟩

/-- Clearing the head holds of a head clears those of its sites alone (R26). -/
theorem clearHeadHolds_site (h : HeadNo) (i : SiteNo) :
    (s.clearHeadHolds h).site i = if headOf i = h then { s.site i with headHold := false } else s.site i := by
  have cleared (l : List SiteNo) (s : State) :
      (l.foldl (fun s i => State.modSite s i fun x => { x with headHold := false }) s).site i =
        if i ∈ l then { s.site i with headHold := false } else s.site i := by
    induction l generalizing s with
    | nil => simp
    | cons j l ih =>
      rw [List.foldl_cons, ih, modSite_site]
      by_cases first : i = j
      · by_cases later : i ∈ l <;> simp [first]
      · by_cases later : i ∈ l <;> simp [first, later]
  rw [State.clearHeadHolds, cleared]
  simp only [mem_sitesOf]

/-- A head without a site in TESTING or DRAINING has none to flag. -/
theorem flagTested_of_quiet {h : HeadNo} (quiet : s.headTests h = false) (f : QualityFlag) : s.flagTested h f = s := by
  have none_ (l : List SiteNo) (hl : ∀ i ∈ l, ¬ (s.siteState i = .testing ∨ s.siteState i = .draining)) :
      l.foldl (fun s i => if s.siteState i = .testing ∨ s.siteState i = .draining then s.addFlag i f else s) s = s := by
    induction l with
    | nil => rfl
    | cons i l ih =>
      rw [List.foldl_cons, if_neg (hl i List.mem_cons_self)]
      exact ih fun j hj => hl j (List.mem_cons_of_mem i hj)
  refine none_ _ fun i hi tests => ?_
  have busy : s.headTests h = true := by
    rw [State.headTests, List.any_eq_true]
    exact ⟨i, hi, by simpa using tests⟩
  rw [quiet] at busy
  cases busy

theorem linkDowned_link (h k : HeadNo) : (s.linkDowned h).link k = if k = h then Link.down else s.link k := by
  unfold State.linkDowned
  by_cases e : k = h
  · rw [e, setLink_link_self, if_pos rfl]
  · have cleared (t : State) : (t.clearHeadHolds h).link k = t.link k := by simp [State.link]
    rw [setLink_link_ne e, cleared, if_neg e]
    split
    · rw [State.linkLeftUp, modLink_link, if_neg e]
      simp [State.link]
    · rfl

theorem linkDowned_ex (h : HeadNo) : (s.linkDowned h).ex = s.ex := by
  have holds (t : State) : (t.clearHeadHolds h).ex = t.ex := foldl_keeps State.ex (fun s i => State.modSite s i _) (fun _ _ => rfl) _ t
  have flags (t : State) : (t.flagTested h .linkLost).ex = t.ex :=
    foldl_keeps State.ex (fun s i => if s.siteState i = .testing ∨ s.siteState i = .draining then s.addFlag i .linkLost else s)
      (fun s i => by split <;> rfl) _ t
  rw [State.linkDowned, setLink_ex, holds]
  split
  · rw [State.linkLeftUp, modLink_ex, holds, flags]
  · rfl

/-- LINK-RESET of a head that is not busy clears its head holds and leaves the rest of the sites (R26, R158). -/
theorem linkDowned_site {h : HeadNo} (free : s.headBusy h = false) (i : SiteNo) :
    (s.linkDowned h).site i = if headOf i = h then { s.site i with headHold := false } else s.site i := by
  have down (t : State) : (t.setLink h Link.down).site i = t.site i := rfl
  rw [State.linkDowned, down, clearHeadHolds_site]
  by_cases up : (s.link h).state = .up
  · have quiet : s.headTests h = false := by
      rw [State.headBusy, up] at free
      exact (Bool.or_eq_false_iff.mp free).2
    have left : (s.linkLeftUp h).site i = (s.clearHeadHolds h).site i := by
      rw [State.linkLeftUp, flagTested_of_quiet quiet]
      exact site_congr (modLink_sites ..) i
    rw [if_pos up, left, clearHeadHolds_site]
    split <;> rfl
  · rw [if_neg up]

/-- A gate set looks at the sites of its own head. -/
theorem gateSet_of_slots {k : HeadNo} (gates : ∀ i, headOf i = k → t.gateOpen i = s.gateOpen i) (state : (t.link k).state = (s.link k).state) :
    t.gateSet k = s.gateSet k := by
  unfold State.gateSet
  rw [state]
  congr 2
  funext sl
  rw [gateBit_eq, gateBit_eq, gates _ (headOf_siteOf k sl), state]

theorem linkDowned_linksSettled {h : HeadNo} (hs : s.linksSettled) (free : s.headBusy h = false) : (s.linkDowned h).linksSettled := by
  intro k
  by_cases e : k = h
  · rw [linkDowned_link, if_pos e]
    exact finished_eq _ _ nofun nofun
  · have link : (s.linkDowned h).link k = s.link k := by rw [linkDowned_link, if_neg e]
    rw [link, gateSet_of_slots (s := s) (fun i head => ?_) (by rw [link])]
    · exact hs k
    · simp only [State.gateOpen, State.siteState, linkDowned_site free, if_neg fun other => e (head.symm.trans other)]

end

end Sys2Proof.Machine

open Sys2Proof Sys2Proof.Machine

/-- Settles O19. -/
theorem startSitesStartsArmedSlots : Obligations.StartSitesStartsArmedSlots := by
  unfold Obligations.StartSitesStartsArmedSlots
  intro s hd
  refine ⟨fun large => hd.refuses rfl (serveStartSites_none (s := s.served) large),
    fun h known down => hd.refuses rfl (serveStartSites_notUp (s := s.served) known down), fun h known up => ?_⟩
  have served := serveStartSites_done (s := s.served) known up
  have started := sitesStarted_frame (s := s.served) h
  have rest : (s.served.sitesStarted h).ex.atRest := by rw [sitesStarted_ex]; exact hd.atRest
  refine ⟨_, _, _, _, hd.exec rfl served, hd.onLinks served started (by decide) rest, fun sl => ⟨?_, ?_, ?_⟩, fun i => ?_, posted_linksFollow _ fun k => ?_⟩
  · rw [startSet_getLsbD, judgeStart_started, Bool.and_assoc]
    rfl
  · rw [startSet_getLsbD, judgeStart_noSlot]
    rfl
  · rw [startSet_getLsbD, judgeStart_badState, Bool.and_assoc]
    rfl
  · rw [posted_site, sitesStarted_site]
    rfl
  · rw [State.link, started .links (by decide)]
    rfl

/-- Settles O20. -/
theorem closeByState : Obligations.CloseByState := by
  unfold Obligations.CloseByState
  intro s hd
  refine ⟨fun large => hd.refuses rfl (serveClose_none (s := s.served) large), fun i known vacant => ?_, fun i known closing => ?_, fun i known armed => ?_,
    fun i known testing => ?_⟩
  · exact hd.refuses rfl (serveClose_vacant (s := s.served) known vacant)
  · exact hd.refuses rfl (serveClose_already (s := s.served) known closing)
  · have served := serveClose_armed (s := s.served) known armed
    have settled : (s.served.toSweeping i).linksSettled := toSweeping_linksSettled (hd.linksSettled rfl rfl) (i := i) (by simp [served_siteState, armed])
    refine ⟨_, hd.exec rfl served, hd.quietly served (toSweeping_frame _ i) (by decide) settled hd.atRest, ?_, fun j other => ?_, by rw [posted_lists]; rfl⟩
    · rw [posted_site, toSweeping_site, if_pos rfl]
      rfl
    · rw [posted_site, toSweeping_site, if_neg other]
      rfl
  · have served := serveClose_testing (s := s.served) known testing
    have rest : (s.served.enterDraining i).ex.atRest := hd.atRest
    refine ⟨_, hd.exec rfl served, (hd.onLinks served (enterDraining_frame _ i) (by decide) rest).mono (by simp), ?_, ?_, fun j other => ?_,
      posted_linksFollow _ fun h => enterDraining_link i h⟩
    · rw [posted_now rest]
      exact Nat.le_add_right _ _
    · rw [posted_site, enterDraining_site, if_pos rfl, posted_now rest, Nat.mul_comm 10]
      rfl
    · rw [posted_site, enterDraining_site, if_neg other]
      rfl

/-- Settles O24. -/
theorem linkEnableStartsTraining : Obligations.LinkEnableStartsTraining := by
  unfold Obligations.LinkEnableStartsTraining
  intro s hd
  refine ⟨fun large => hd.refuses rfl (serveLinkEnable_none (s := s.served) large), fun h known running => ?_, fun h known faulted marker => ?_,
    fun h known faulted marker => ?_, fun h known down => ?_⟩
  · exact hd.refuses rfl (serveLinkEnable_already (s := s.served) known running)
  · have served := serveLinkEnable_faulted (s := s.served) known faulted
    rw [served_link, if_pos marker] at served
    exact hd.refuses rfl served
  · have served := serveLinkEnable_faulted (s := s.served) known faulted
    rw [served_link, if_neg (by rw [marker]; nofun)] at served
    exact hd.refuses rfl served
  · have served := serveLinkEnable_down (s := s.served) known down
    have settled := startTraining_linksSettled (s := s.served) (hd.linksSettled rfl rfl) h
    have rest : (s.served.startTraining h).ex.atRest := hd.atRest
    refine ⟨_, hd.exec rfl served, (hd.quietly served (startTraining_frame _ h) (by decide) settled rest).mono (by simp), ?_, ?_, fun k other => ?_⟩
    · rw [posted_now rest]
      exact Nat.le_add_right _ _
    · rw [posted_link settled, posted_now rest]
      exact modLink_link_self _ _ _
    · rw [posted_link settled]
      exact (modLink_link _ _ _ _).trans (if_neg other)

/-- Settles O25. -/
theorem linkResetReturnsToDown : Obligations.LinkResetReturnsToDown := by
  unfold Obligations.LinkResetReturnsToDown
  intro s hd
  refine ⟨fun large => hd.refuses rfl (serveLinkReset_none (s := s.served) large), fun h known busy => ?_, fun h known unmarked quiet => ?_⟩
  · exact hd.refuses rfl (serveLinkReset_busy (s := s.served) known ((headBusy_iff h).mpr busy))
  · have free : s.served.headBusy h = false := by
      rw [← Bool.not_eq_true, headBusy_iff]
      rintro (marked | ⟨up, sl, tests⟩)
      · rw [served_link, unmarked] at marked
        cases marked
      · exact tests.elim (quiet up sl).1 (quiet up sl).2
    have served := serveLinkReset_done (s := s.served) known free
    have link := linkDowned_link (s := s.served) h
    have settled : (s.served.linkDowned h).linksSettled := linkDowned_linksSettled (hd.linksSettled rfl rfl) free
    have rest : (s.served.linkDowned h).ex.atRest := by rw [linkDowned_ex]; exact hd.atRest
    refine ⟨_, hd.exec rfl served, hd.quietly served (linkDowned_frame _ h) (by decide) settled rest, ?_, fun k other => ?_, fun i => ?_⟩
    · rw [posted_link settled, link, if_pos rfl]
      rfl
    · rw [posted_link settled, link, if_neg other]
      rfl
    · rw [posted_site, linkDowned_site free]
      rfl

end

section
/-! The requests of the Export Engine, the port and the Attention Unit (R56, R165, R170 to R172, R179, R184). -/

namespace Sys2Proof.Machine

section
variable {s t : State}

/-- A direct request that changes the Export Engine alone, with what follows in the same event (R164, R166, R167). -/
theorem State.GoServes.onEngine {r : Request} {reply : Reply} {c : Instr} {e : Exporter} (hd : s.GoServes r)
    (row : Machine.exec c s = .next (s.directRow r)) (hs : serve r s.served = ({ s.served with ex := e }, reply)) (holdings : e.collectionQueue = s.ex.collectionQueue ∧ e.busTimeout = s.ex.busTimeout) :
    ∃ u, Machine.exec c s = .next u ∧ s.Answers u reply [.export_, .clock] ∧ e.Followed u := by
  have settled : State.linksSettled { s.served with ex := e } := hd.linksSettled rfl rfl
  exact ⟨_, hd.exec row hs, (hd.onExport hs (ex_frame _ e holdings.1 holdings.2) (by decide) settled).mono (by simp),
    posted_followed (t := { s.served with ex := e })⟩

/-! ### GIVE-EXPORT-CHAIN and FLUSH-EXPORT (R165, R170) -/

theorem isAligned_iff (a : Word) : isAligned a = true ↔ a.toNat % 4 = 0 := by simp [isAligned]

theorem serveGiveExportChain_bad (h : (s.reqWord 1).toNat % 4 ≠ 0) : serveGiveExportChain s = (s, { status := .refused .badField }) := by
  have odd : isAligned (s.reqWord 1) = false := by rw [← Bool.not_eq_true, isAligned_iff]; exact h
  rw [serveGiveExportChain, if_pos (by rw [odd]; rfl)]

theorem serveGiveExportChain_current (h : (s.reqWord 1).toNat % 4 = 0) (free : s.ex.current = .empty) :
    serveGiveExportChain s = ({ s with ex := s.ex.startFetch .current (s.reqWord 1) }, { status := .done, words := [[.result .current]] }) := by
  rw [serveGiveExportChain, if_neg (by rw [(isAligned_iff _).mpr h]; nofun), if_pos free]

theorem serveGiveExportChain_next (h : (s.reqWord 1).toNat % 4 = 0) (full : s.ex.current ≠ .empty) (free : s.ex.nextSlot = .empty) :
    serveGiveExportChain s = ({ s with ex := s.ex.startFetch .next (s.reqWord 1) }, { status := .done, words := [[.result .next]] }) := by
  rw [serveGiveExportChain, if_neg (by rw [(isAligned_iff _).mpr h]; nofun), if_neg full, if_pos free]

theorem serveGiveExportChain_full (h : (s.reqWord 1).toNat % 4 = 0) (full : s.ex.current ≠ .empty) (full' : s.ex.nextSlot ≠ .empty) :
    serveGiveExportChain s = (s, { status := .refused .chainPresent }) := by
  rw [serveGiveExportChain, if_neg (by rw [(isAligned_iff _).mpr h]; nofun), if_neg full, if_neg full']

theorem serveFlushExport_none (h : ∀ d, s.ex.current ≠ .held d) : serveFlushExport s = (s, { status := .refused .noBuffer }) := by
  unfold serveFlushExport
  split
  · rename_i d held
    exact absurd held (h d)
  · rfl

theorem serveFlushExport_deferred {d : Descriptor} (held : s.ex.current = .held d) (writes : s.ex.writePos ≠ none) :
    serveFlushExport s = ({ s with ex := { s.ex with flushPending := true } }, { status := .done, words := [[.result .deferred]] }) := by
  simp only [serveFlushExport, held, Option.isSome_iff_ne_none.mpr writes, if_true]

theorem serveFlushExport_closed {d : Descriptor} (held : s.ex.current = .held d) (idle : s.ex.writePos = none) :
    serveFlushExport s = ({ s with ex := s.ex.close .flushed }, { status := .done, words := [[.result .closed]] }) := by
  simp only [serveFlushExport, held, idle, Option.isSome_none, Bool.false_eq_true, if_false]

theorem close_of_held {e : Exporter} {d : Descriptor} (held : e.current = .held d) (cause : CloseCause) :
    e.close cause = ({ e with
      current := .empty, fillOffset := none
      writeBacks := e.writeBacks ++ [{ addr := d.addr, notify := d.notify, used := e.fillOffset.getD 0, cause }] } : Exporter).promoteNext := by
  rw [Exporter.close, held]

theorem flushPending_atRest {e : Exporter} (h : e.atRest) (b : Bool) : ({ e with flushPending := b } : Exporter).atRest :=
  ⟨(beginWrite_fix _).mpr ((beginWrite_fix e).mp h.write), (beginAssembly_fix _).mpr ((beginAssembly_fix e).mp h.assembly), h.initiator⟩

/-! ### RESUME-EXPORT and ABANDON-BUFFER (R171, R172) -/

theorem serveResumeExport_none (h : s.ex.stall = none) : serveResumeExport s = (s, { status := .refused .badState }) := by
  rw [serveResumeExport, h]

theorem serveResumeExport_some {k : Stall} (h : s.ex.stall = some k) :
    serveResumeExport s = ({ s with ex := s.ex.resume k }, { status := .done, words := [[.stall k]] }) := by
  rw [serveResumeExport, h]

theorem serveAbandonBuffer_none (h : s.ex.stall = none) : serveAbandonBuffer s = (s, { status := .refused .badState }) := by
  rw [serveAbandonBuffer, h]

theorem serveAbandonBuffer_some {k : Stall} (h : s.ex.stall = some k) :
    serveAbandonBuffer s = ({ s with ex := s.ex.abandon k }, { status := .done, words := [[.stall k]] }) := by
  rw [serveAbandonBuffer, h]

theorem holdings_kept {e f : Exporter} (h : f.holdings = e.holdings) : f.collectionQueue = e.collectionQueue ∧ f.busTimeout = e.busTimeout := by
  simp only [Exporter.holdings, Prod.mk.injEq] at h
  exact ⟨h.1, h.2.2.2⟩

theorem abandon_kept (e : Exporter) (k : Stall) : (e.abandon k).collectionQueue = e.collectionQueue ∧ (e.abandon k).busTimeout = e.busTimeout := by
  have kept := abandon_holdings e k
  split at kept
  · exact holdings_kept (e := { e with buffer := none }) kept
  · exact holdings_kept kept

/-! ### SET-LIMITS and SET-ATTENTION (R56, R179, R184) -/

theorem lowJudged_eq (free mark : Nat) (low : Bool) :
    lowJudged free mark low = if free < mark then true else if min (mark + 64) 12288 ≤ free then false else low := rfl

theorem serveSetLimits_bad {n : Nat} (h : s.badLimit = some n) : serveSetLimits s = (s, { status := .refused .badField, words := [[.num n]] }) := by
  rw [serveSetLimits, h]

theorem serveSetLimits_done (h : s.badLimit = none) : serveSetLimits s = (s.setLimits, { status := .done, words := s.setLimits.limitWords }) := by
  rw [serveSetLimits, h]

theorem setLimits_frame (s : State) : FrameBut [.drainTimeout, .trainingTimeout, .busTimeout, .defaultQuota, .lowWater, .low] s s.setLimits := by
  intro b hb
  cases b <;> simp_all [Block.same, State.setLimits, State.judgeLow]

/-- The bus timeout in force concerns the accesses to come (R164, R179). -/
theorem busTimeout_atRest {e : Exporter} (h : e.atRest) (n : Nat) : ({ e with busTimeout := n } : Exporter).atRest :=
  ⟨(beginWrite_fix _).mpr ((beginWrite_fix e).mp h.write), (beginAssembly_fix _).mpr ((beginAssembly_fix e).mp h.assembly), h.initiator⟩

theorem newAttention_frame (s : State) : FrameBut [.mask, .vectors] s { s with att := s.newAttention } := by
  intro b hb
  cases b <;> simp_all [Block.same, State.newAttention]

/-- The reply to SET-ATTENTION is all that follows: the level sources do not look at masks and vectors. -/
theorem newAttention_settled (hs : s.Settled) (reply : Reply) :
    (State.postReply { s.served with att := s.served.newAttention } reply).Settled := by
  refine Settled_congr hs rfl rfl rfl rfl rfl rfl (fun n level => ?_) rfl
  have apart : (n == (15 : Fin 16)) = false := beq_false_of_ne fun e => by subst e; cases level
  exact (raise_getLsbD _ 15 n).trans (by rw [apart, Bool.or_false]; rfl)

theorem newAttention_vector (n : Fin 16) : s.newAttention.vector n = if (s.reqWord 1).getLsbD 0
    then (s.reqWord ⟨2 + n.val / 4, by omega⟩).extractLsb' (8 * (n.val % 4)) 8 else s.att.vector n := by
  have vectors : s.newAttention.vectors = if (s.reqWord 1).getLsbD 0
    then Vector.ofFn fun n : Fin 16 => byteOf (s.reqWord ⟨2 + n.val / 4, by omega⟩) (n.val % 4) else s.att.vectors := rfl
  rw [Attention.vector, vectors]
  split
  · rw [Vector.getElem_ofFn]
    rfl
  · rfl

theorem newAttention_mask (n : Fin 16) : s.newAttention.mask.getLsbD n.val =
    if (s.reqWord 1).getLsbD 1 then (s.reqWord 6).getLsbD n.val else s.att.mask.getLsbD n.val := by
  have mask : s.newAttention.mask = if (s.reqWord 1).getLsbD 1 then (s.reqWord 6).setWidth 16 else s.att.mask := rfl
  rw [mask]
  split
  · rw [BitVec.getLsbD_setWidth, decide_eq_true n.isLt, Bool.true_and]
  · rfl

theorem posted_trainingTimeout {reply : Reply} : (t.postReply reply).finish.trainingTimeout = t.trainingTimeout := finish_trainingTimeout _

end

end Sys2Proof.Machine

open Sys2Proof Sys2Proof.Machine

/-- Settles O26. -/
theorem chainAndFlush : Obligations.ChainAndFlush := by
  unfold Obligations.ChainAndFlush
  refine ⟨fun s hd => ⟨fun odd => ?_, fun even free => ?_, fun even full free => ?_, fun even full full' => ?_⟩,
    fun s hd => ⟨fun unheld => ?_, fun d held writes => ?_, fun d held idle => ?_⟩⟩
  · exact hd.refuses rfl (serveGiveExportChain_bad (s := s.served) odd)
  · exact hd.onEngine rfl (serveGiveExportChain_current (s := s.served) even free) ⟨rfl, rfl⟩
  · exact hd.onEngine rfl (serveGiveExportChain_next (s := s.served) even full free) ⟨rfl, rfl⟩
  · exact hd.refuses rfl (serveGiveExportChain_full (s := s.served) even full full')
  · exact hd.refuses rfl (serveFlushExport_none (s := s.served) unheld)
  · have served := serveFlushExport_deferred (s := s.served) held writes
    have rest : ({ s.served.ex with flushPending := true } : Exporter).atRest := flushPending_atRest hd.atRest true
    refine ⟨_, hd.exec rfl served, hd.quietly served (holdings_frame _ _ rfl) (by decide) (hd.linksSettled rfl rfl) rest, ?_⟩
    exact posted_ex rest
  · have served := serveFlushExport_closed (s := s.served) held idle
    have kept := holdings_kept (close_holdings s.ex .flushed)
    obtain ⟨u, row, answers, followed⟩ := hd.onEngine (c := .flushExport) rfl served kept
    refine ⟨u, row, answers, ?_⟩
    rwa [close_of_held (e := s.served.ex) held] at followed

/-- Settles O27. -/
theorem stallRequests : Obligations.StallRequests := by
  unfold Obligations.StallRequests
  refine ⟨fun s hd => ⟨fun running => ?_, fun k stalled => ?_⟩, fun s hd => ⟨fun running => ?_, fun k stalled => ?_⟩⟩
  · exact hd.refuses rfl (serveResumeExport_none (s := s.served) running)
  · obtain ⟨u, row, answers, followed⟩ := hd.onEngine (c := .resumeExport) rfl (serveResumeExport_some (s := s.served) stalled) (holdings_kept (resume_holdings s.ex k))
    refine ⟨u, row, answers, ?_, ?_, fun a got fetch held => ?_, fun a got fetch held => ?_⟩
    · rintro rfl
      exact followed
    · rintro rfl
      exact followed
    · subst fetch
      have restart : s.ex.resume (.fetch .current) = { s.ex with stall := none, current := .fetching a [] } := by
        simp only [Exporter.resume, Exporter.restartFetch, Exporter.slot, held, Exporter.setSlot]
      exact restart ▸ followed
    · subst fetch
      have restart : s.ex.resume (.fetch .next) = { s.ex with stall := none, nextSlot := .fetching a [] } := by
        simp only [Exporter.resume, Exporter.restartFetch, Exporter.slot, held, Exporter.setSlot]
      exact restart ▸ followed
  · exact hd.refuses rfl (serveAbandonBuffer_none (s := s.served) running)
  · obtain ⟨u, row, answers, followed⟩ := hd.onEngine (c := .abandonBuffer) rfl (serveAbandonBuffer_some (s := s.served) stalled) (abandon_kept s.ex k)
    exact ⟨u, row, answers, fun e => by subst e; exact followed, fun e => by subst e; exact followed, fun e => by subst e; exact followed,
      fun e => by subst e; exact followed⟩

/-- Settles O28. -/
theorem setLimitsTogether : Obligations.SetLimitsTogether := by
  unfold Obligations.SetLimitsTogether
  refine ⟨lowJudged_eq, fun s hd => ⟨fun n bad => ?_, fun good => ?_⟩⟩
  · exact hd.refuses rfl (serveSetLimits_bad (s := s.served) ((badLimit_eq s).trans bad))
  · have served := serveSetLimits_done (s := s.served) ((badLimit_eq s).trans good)
    have rest : s.served.setLimits.ex.atRest := busTimeout_atRest hd.atRest _
    have answers := hd.quietly served (setLimits_frame _) (by decide) (hd.linksSettled rfl rfl) rest
    refine ⟨_, hd.exec rfl served, ?_, ?_, ?_, ?_, ?_, ?_, ?_⟩
    · rw [posted_lists, posted_trainingTimeout, posted_ex rest, posted_store]
      exact answers
    · rw [posted_lists]
      rfl
    · rw [posted_trainingTimeout]
      rfl
    · rw [posted_ex rest]
      rfl
    · rw [posted_store]
      rfl
    · rw [posted_store]
      rfl
    · rw [posted_store]
      rfl

/-- Settles O29. -/
theorem setAttentionSetsPresentItems : Obligations.SetAttentionSetsPresentItems := by
  unfold Obligations.SetAttentionSetsPresentItems
  intro s hd
  have served : serve .setAttention s.served = ({ s.served with att := s.served.newAttention }, _) := rfl
  have answers := hd.quietly served (newAttention_frame s.served) (by decide) (hd.linksSettled rfl rfl) hd.atRest
  have row := hd.exec (c := .setAttention) rfl served
  rw [finish_of_settled (newAttention_settled hd.ready.settled _)] at row answers
  refine ⟨_, row, answers, rfl, fun n => ?_, fun n => ?_, rfl⟩
  · exact newAttention_vector n
  · exact newAttention_mask n

end

section
/-! The Coincidence Unit: its requests (R123, R125), and the MUST assignments it is told of (R116 to R120). -/

namespace Sys2Proof.Machine

section
variable {s t : State}

/-! ### SET-COINCIDENCE (R123) -/

theorem action?_none {n : Nat} (h : n ∉ [1, 2]) : action? n = none := by
  unfold action?
  split <;> simp_all

/-- The ranges of the threshold and the span (R123). -/
def coFieldsOk (threshold span : Nat) : Prop := 2 ≤ threshold ∧ threshold ≤ 32 ∧ span ∈ [1, 2, 4, 8, 16]

theorem coFields_check (th sp : Nat) :
    (!(2 ≤ th && th ≤ 32) || !(sp == 1 || sp == 2 || sp == 4 || sp == 8 || sp == 16)) = true ↔ ¬ coFieldsOk th sp := by
  simp only [coFieldsOk, Bool.or_eq_true, Bool.not_eq_true', Bool.and_eq_false_iff, Bool.or_eq_false_iff, decide_eq_false_iff_not, beq_eq_false_iff_ne,
    List.mem_cons, List.not_mem_nil, or_false]
  omega

theorem serveSetCoincidence_bad (h : s.param 1 < 2 ∨ 32 < s.param 1 ∨ s.param 2 ∉ [1, 2, 4, 8, 16] ∨ s.param 3 ∉ [1, 2]) :
    serveSetCoincidence s = (s, { status := .refused .badField }) := by
  unfold serveSetCoincidence
  simp only
  by_cases ok : coFieldsOk (s.param 1) (s.param 2)
  · rw [if_neg fun check => (coFields_check _ _).mp check ok]
    obtain ⟨low, high, span⟩ := ok
    rw [action?_none]
    rcases h with short | long | other | unknown
    · omega
    · omega
    · exact absurd span other
    · exact unknown
  · rw [if_pos ((coFields_check _ _).mpr ok)]

/-- The settings as SET-COINCIDENCE leaves them; a change of the span empties the table (R123). -/
def State.coSet (s : State) (a : CoAction) : State :=
  { s with co := { s.co with
      threshold := s.param 1, span := s.param 2, action := a, table := if s.param 2 = s.co.span then s.co.table else Vector.replicate 128 none } }

theorem serveSetCoincidence_done {a : CoAction} (ok : coFieldsOk (s.param 1) (s.param 2)) (action : action? (s.param 3) = some a) :
    serveSetCoincidence s = (s.coSet a, { status := .done, words := [[.num (s.param 1)], [.num (s.param 2)], [.coAction a],
      [.num (if s.param 2 = s.co.span then 0 else (s.co.table.toList.filter (·.isSome)).length)]] }) := by
  unfold serveSetCoincidence
  simp only
  rw [if_neg fun check => (coFields_check _ _).mp check ok, action]
  by_cases same : s.param 2 = s.co.span
  · simp [State.coSet, same]
  · simp [State.coSet, same, CoUnit.count]

theorem coSet_same (a : CoAction) (same : s.param 2 = s.co.span) : (s.coSet a).co.table = s.co.table := if_pos same

theorem coSet_emptied (a : CoAction) (other : s.param 2 ≠ s.co.span) (n : Fin 128) : (s.coSet a).co.table[n.val] = none := by
  have table : (s.coSet a).co.table = Vector.replicate 128 none := if_neg other
  simp only [table, Vector.getElem_replicate]

theorem coSet_frame (s : State) (a : CoAction) : FrameBut [.coTable, .coSettings] s (s.coSet a) := by
  intro b hb
  cases b <;> simp_all [Block.same, State.coSet]

/-! ### CLEAR-TRIP (R125) -/

/-- Entry n of the table is cleared when it satisfies `p`, and left as it is when it does not. -/
def CoUnit.clearedBy (c d : CoUnit) (p : Nat → CoEntry → Prop) : Prop := ∀ n : Fin 128,
  (∀ e, c.table[n.val] = some e → p n.val e → d.table[n.val] = some { e with state := .counting }) ∧
    ((∀ e, c.table[n.val] = some e → ¬ p n.val e) → d.table[n.val] = c.table[n.val])

theorem setCoEntry_table (n m : Fin 128) (e : Option CoEntry) : (s.setCoEntry n e).co.table[m.val] = if m = n then e else s.co.table[m.val] := by
  show (s.co.table.set n.val e)[m.val] = _
  rw [Vector.getElem_set]
  simp only [Fin.val_inj, eq_comm]

theorem setCoEntry_clearedBy {n : Fin 128} {e : CoEntry} (h : s.co.table[n.val] = some e) :
    s.co.clearedBy (s.setCoEntry n (some e.cleared)).co fun k _ => k = n.val := by
  intro m
  rw [setCoEntry_table]
  constructor
  · rintro x hx same
    obtain rfl : m = n := Fin.ext same
    rw [if_pos rfl, Option.some.inj (hx.symm.trans h)]
    rfl
  · intro other
    rw [if_neg]
    rintro rfl
    exact other e h rfl

/-- A TRIPPED entry that satisfies `p`. -/
def CoEntry.tripped (p : CoEntry → Bool) (e : Option CoEntry) : Bool := e.any fun e => e.state == .tripped && p e

theorem tripped_all : CoEntry.tripped (fun _ => true) = fun e => e.any fun e => e.state == .tripped :=
  funext fun e => congrArg e.any (funext fun _ => Bool.and_true _)

/-- The entries that satisfy `p` are COUNTING again (R125). -/
def State.tripsCleared (s : State) (p : CoEntry → Bool) : State :=
  { s with co := { s.co with table := s.co.table.map fun e => if CoEntry.tripped p e then e.map CoEntry.cleared else e } }

theorem clearTrips_eq (p : CoEntry → Bool) :
    s.clearTrips p = (s.tripsCleared p, { status := .done, words := [[.num (s.co.table.toList.filter (CoEntry.tripped p)).length]] }) := by
  have hit : (fun e : Option CoEntry => match e with | some e => e.state == .tripped && p e | none => false) = CoEntry.tripped p :=
    funext fun e => by cases e <;> rfl
  unfold State.clearTrips
  simp only [CoUnit.count]
  rw [State.tripsCleared, ← hit] <;> rfl

theorem tripsCleared_clearedBy {p : CoEntry → Bool} {q : CoEntry → Prop} (hq : ∀ e, q e ↔ e.state = .tripped ∧ p e = true) :
    s.co.clearedBy (s.tripsCleared p).co fun _ e => q e := by
  intro n
  have entry : (s.tripsCleared p).co.table[n.val] =
      if CoEntry.tripped p s.co.table[n.val] then s.co.table[n.val].map CoEntry.cleared else s.co.table[n.val] := Vector.getElem_map ..
  rw [entry]
  constructor
  · rintro e he meets
    obtain ⟨trip, hp⟩ := (hq e).mp meets
    rw [he, CoEntry.tripped, Option.any_some, trip, hp]
    rfl
  · intro unmet
    rw [if_neg]
    intro hit
    rw [CoEntry.tripped, Option.any_eq_true] at hit
    obtain ⟨e, he, both⟩ := hit
    exact unmet e he ((hq e).mpr (by simpa using both))

theorem serveClearTrip_form (h : s.param 1 ∉ [1, 2, 3]) : serveClearTrip s = (s, { status := .refused .badField }) := by
  unfold serveClearTrip
  split <;> simp_all

theorem serveClearTrip_one_bad (form : s.param 1 = 1) (h : 127 < s.param 2) : serveClearTrip s = (s, { status := .refused .badField }) := by
  unfold serveClearTrip
  split
  · rw [dif_neg (by omega)]
  all_goals simp_all

/-- The entry of form ONE has the key of the parameters (R125). -/
def State.namesEntry (s : State) (e : CoEntry) : Prop :=
  e.key.template.val = s.param 3 ∧ e.key.domain.val = s.param 4 ∧ e.key.axis.code = s.param 5 ∧ e.key.coarse = s.param 6

theorem serveClearTrip_one {n : Fin 128} (form : s.param 1 = 1) (h : s.param 2 = n.val) :
    (∀ e, s.co.table[n.val] = some e → s.namesEntry e → serveClearTrip s =
      (s.setCoEntry n (some e.cleared), { status := .done, words := [[.num (if e.state = .tripped then 1 else 0)]] })) ∧
    ((∀ e, s.co.table[n.val] = some e → ¬ s.namesEntry e) → serveClearTrip s = (s, { status := .refused .notFound })) := by
  have inside : s.param 2 < 128 := by omega
  have entry : s.co.table[s.param 2] = s.co.table[n.val] := by simp only [h]
  have place : (⟨s.param 2, inside⟩ : Fin 128) = n := Fin.ext h
  unfold serveClearTrip
  simp only [form, dif_pos inside, entry, place]
  constructor
  · intro e he named
    simp only [he]
    exact if_pos named
  · intro none_
    cases he : s.co.table[n.val] with
    | none => rfl
    | some e => exact if_neg (none_ e he)

theorem serveClearTrip_template {n : TemplateNo} (form : s.param 1 = 2) (h : s.param 2 = n.val) :
    serveClearTrip s = s.clearTrips fun e => e.key.template == n := by
  unfold serveClearTrip
  simp only [form, h, templateNo?_val]

theorem serveClearTrip_template_bad (form : s.param 1 = 2) (h : 7 < s.param 2) : serveClearTrip s = (s, { status := .refused .badField }) := by
  unfold serveClearTrip
  simp only [form, templateNo?_none h]

theorem serveClearTrip_all (form : s.param 1 = 3) : serveClearTrip s = s.clearTrips fun _ => true := by
  unfold serveClearTrip
  simp only [form]

end

end Sys2Proof.Machine

open Sys2Proof Sys2Proof.Machine

/-- Settles O21. -/
theorem setCoincidenceSetsAllThree : Obligations.SetCoincidenceSetsAllThree := by
  unfold Obligations.SetCoincidenceSetsAllThree
  intro s hd
  refine ⟨fun bad => hd.refuses rfl (serveSetCoincidence_bad (s := s.served) bad), fun a low high span action => ?_, ⟨rfl, rfl⟩⟩
  have served := serveSetCoincidence_done (s := s.served) ⟨low, high, span⟩ action
  refine ⟨_, hd.exec rfl served, hd.quietly served (coSet_frame _ a) (by decide) (hd.linksSettled rfl rfl) hd.atRest, ?_, ?_, ?_, ?_, ?_⟩
  · rw [posted_co]
    rfl
  · rw [posted_co]
    rfl
  · rw [posted_co]
    rfl
  · intro same
    rw [posted_co]
    exact coSet_same (s := s.served) a same
  · intro other
    have entries (reply : Reply) (n : Fin 128) : ((s.served.coSet a).postReply reply).finish.co.table[n.val] = none := by
      simp only [posted_co]
      exact coSet_emptied (s := s.served) a other n
    refine ⟨entries _, Bool.eq_false_iff.mpr fun raised => ?_⟩
    obtain ⟨n, e, he, _⟩ := levelCondition_tripped.mp raised
    exact Option.some_ne_none e (he.symm.trans (entries _ n))

/-- Settles O22. -/
theorem clearTripReturnsToCounting : Obligations.ClearTripReturnsToCounting := by
  unfold Obligations.ClearTripReturnsToCounting
  refine ⟨⟨rfl, rfl⟩, fun s hd => ?_⟩
  have settles {t : State} {reply : Reply} {p : Nat → CoEntry → Prop} (served : serveClearTrip s.served = (t, reply))
      (frame : FrameBut [.coTable] s.served t) (ex : t.ex = s.served.ex) (cleared : s.served.co.clearedBy t.co p) :
      ∃ u, exec .clearTrip s = .next u ∧ s.Answers u reply [.coTable] ∧ s.co.clearedBy u.co p := by
    have sites : t.sites = s.served.sites := frame .sites (by decide)
    have links : t.links = s.served.links := frame .links (by decide)
    refine ⟨_, hd.exec rfl served, hd.quietly served frame (by decide) (hd.linksSettled sites links) ?_, ?_⟩
    · rw [ex]
      exact hd.atRest
    · rw [posted_co]
      exact cleared
  refine ⟨fun form large => hd.refuses rfl (serveClearTrip_one_bad (s := s.served) form large),
    fun form large => hd.refuses rfl (serveClearTrip_template_bad (s := s.served) form large),
    fun form => hd.refuses rfl (serveClearTrip_form (s := s.served) form), fun n form h unnamed => ?_, fun n e form h he t d a c => ?_,
    fun t form h => ?_, fun form => ?_⟩
  · exact hd.refuses rfl ((serveClearTrip_one (s := s.served) form h).2 unnamed)
  · exact settles ((serveClearTrip_one (s := s.served) form h).1 e he ⟨t, d, a, c⟩) (setCoEntry_frame _ _ _) rfl (setCoEntry_clearedBy (s := s.served) he)
  · exact settles ((serveClearTrip_template (s := s.served) form h).trans (clearTrips_eq _)) (coTable_frame _ _) rfl
      (tripsCleared_clearedBy fun e => by rw [beq_iff_eq])
  · have hs := (serveClearTrip_all (s := s.served) form).trans (clearTrips_eq _)
    rw [tripped_all] at hs
    exact settles hs (coTable_frame _ _) rfl (tripsCleared_clearedBy fun e => (and_iff_left rfl).symm)

end

section
/-! The Coincidence Unit told of a MUST assignment (R116 to R120). -/

namespace Sys2Proof.Machine

/-! ### Member lists (R117) -/

theorem memberInsert_length {i : SiteNo} {l : List SiteNo} (h : i ∉ l) : (memberInsert i l).length = l.length + 1 := by
  induction l with
  | nil => rfl
  | cons y ys ih =>
    obtain ⟨other, rest⟩ := List.ne_and_not_mem_of_not_mem_cons h
    unfold memberInsert
    rw [if_neg other]
    split
    · rfl
    · rw [List.length_cons, ih rest, List.length_cons]

theorem memberInsert_nodup {i : SiteNo} {l : List SiteNo} (h : i ∉ l) (nodup : l.Nodup) : (memberInsert i l).Nodup := by
  induction l with
  | nil => exact List.pairwise_singleton _ i
  | cons y ys ih =>
    obtain ⟨other, rest⟩ := List.ne_and_not_mem_of_not_mem_cons h
    obtain ⟨fresh, tail⟩ := List.nodup_cons.mp nodup
    unfold memberInsert
    rw [if_neg other]
    split
    · exact List.nodup_cons.mpr ⟨h, nodup⟩
    · refine List.nodup_cons.mpr ⟨fun hy => ?_, ih rest tail⟩
      rcases (mem_memberInsert i ys y).mp hy with same | old
      · exact other same.symm
      · exact fresh old

/-! ### The entry of a key and the lowest free entry (R117) -/

section
variable {c : CoUnit} {k : CoKey} {n : Fin 128}

/-- Entry n is in use and holds key k. -/
def CoUnit.holds (c : CoUnit) (k : CoKey) (n : Fin 128) : Prop := ∃ e, c.table[n.val] = some e ∧ e.key = k

theorem holdsKey_iff : (match c.table[n.val] with | some e => e.key == k | none => false) = true ↔ c.holds k n := by
  unfold CoUnit.holds
  cases c.table[n.val] <;> simp

/-- The first of the 128 places that meets a test. -/
theorem find_finRange {p : Fin 128 → Bool} (hn : p n = true) (before : ∀ m : Fin 128, m.val < n.val → ¬ p m = true) :
    (List.finRange 128).find? p = some n := by
  rw [List.find?_eq_some_iff_getElem]
  refine ⟨hn, n.val, by simp, by simp, fun j hj => ?_⟩
  simpa using before ⟨j, by omega⟩ hj

theorem find_none (h : ∀ n, ¬ c.holds k n) : c.find k = none := List.find?_eq_none.mpr fun n _ hit => h n (holdsKey_iff.mp hit)

theorem find_first (h : c.holds k n) (before : ∀ m : Fin 128, m.val < n.val → ¬ c.holds k m) : c.find k = some n :=
  find_finRange (holdsKey_iff.mpr h) fun m hm hit => before m hm (holdsKey_iff.mp hit)

theorem lowestFree_none (h : ∀ n : Fin 128, c.table[n.val] ≠ none) : c.lowestFree = none :=
  List.find?_eq_none.mpr fun n _ free => h n (Option.isNone_iff_eq_none.mp free)

theorem lowestFree_first (h : c.table[n.val] = none) (before : ∀ m : Fin 128, m.val < n.val → c.table[m.val] ≠ none) : c.lowestFree = some n :=
  find_finRange (Option.isNone_iff_eq_none.mpr h) fun m hm free => before m hm (Option.isNone_iff_eq_none.mp free)

end

/-! ### What reaches the sites of an entry (R119, R120) -/

section
variable {s t : State}

/-- The HOLD action sets the host hold of a TESTING site whose host hold is clear (R120). -/
def State.holdable (s : State) (j : SiteNo) : Bool := s.siteState j == .testing && !(s.site j).hostHold

theorem holdable_iff (j : SiteNo) : s.holdable j = true ↔ s.siteState j = .testing ∧ (s.site j).hostHold = false := by simp [State.holdable]

/-- A context with the COINCIDENT flag (R119). -/
def Context.coincident (c : Context) : Context := { c with flags := { c.flags with coincident := true } }

theorem addFlags_site (l : List SiteNo) (s : State) (j : SiteNo) :
    (l.foldl (fun s i => State.addFlag s i .coincident) s).site j =
      { s.site j with ctx := if j ∈ l then (s.ctx j).map Context.coincident else s.ctx j } := by
  induction l generalizing s with
  | nil => rfl
  | cons i l ih =>
    have flagged : (s.addFlag i .coincident).site j = if j = i then { s.site i with ctx := (s.ctx i).map Context.coincident } else s.site j :=
      modCtx_site s i j _
    rw [List.foldl_cons, ih, State.ctx, flagged]
    by_cases same : j = i
    · subst same
      rw [if_pos rfl, if_pos (List.mem_cons_self ..)]
      cases hc : s.ctx j <;> simp [Context.coincident]
    · rw [if_neg same]
      simp [same, State.ctx]

theorem coHold_held {i : SiteNo} (h : s.holdable i = true) :
    s.coHold i = (s.modSite i fun x => { x with hostHold := true }).postNotice i .coincidenceHold := if_pos ((holdable_iff i).mp h)

theorem coHold_kept {i : SiteNo} (h : s.holdable i = false) : s.coHold i = s :=
  if_neg fun both => Bool.false_ne_true (h.symm.trans ((holdable_iff i).mpr both))

theorem coHold_site (i j : SiteNo) : (s.coHold i).site j = { s.site j with hostHold := (s.site j).hostHold || (j == i && s.holdable j) } := by
  cases h : s.holdable i with
  | true =>
    have held : (s.coHold i).site j = (s.modSite i fun x => { x with hostHold := true }).site j := by rw [coHold_held h]; rfl
    rw [held, modSite_site]
    by_cases same : j = i
    · subst same
      simp [h]
    · simp [same, beq_eq_false_iff_ne.mpr same]
  | false =>
    rw [coHold_kept h]
    by_cases same : j = i
    · subst same
      simp [h]
    · simp [beq_eq_false_iff_ne.mpr same]

/-- The notice of a host hold that the HOLD action sets. -/
def State.holdNotice (s : State) (l : List Notice) (j : SiteNo) : List Notice := noticePosted j .coincidenceHold (((s.ctx j).map (·.tag)).getD 0) l

theorem coHold_notices (i : SiteNo) :
    (s.coHold i).lists.stopNotices = if s.holdable i then s.holdNotice s.lists.stopNotices i else s.lists.stopNotices := by
  cases h : s.holdable i with
  | true =>
    rw [coHold_held h]
    show noticePosted i _ ((((s.modSite i _).site i).ctx.map (·.tag)).getD 0) _ = _
    rw [modSite_site_self]
    rfl
  | false =>
    rw [coHold_kept h]
    rfl

theorem coHold_holdable {i j : SiteNo} (other : j ≠ i) : (s.coHold i).holdable j = s.holdable j := by
  have kept : (s.coHold i).site j = s.site j := by
    rw [coHold_site]
    simp [beq_eq_false_iff_ne.mpr other]
  rw [State.holdable, State.siteState, kept]
  rfl

theorem coHold_holdNotice (i : SiteNo) : (s.coHold i).holdNotice = s.holdNotice := by
  funext l j
  rw [State.holdNotice, State.ctx, coHold_site]
  rfl

theorem coHolds_site (l : List SiteNo) (nodup : l.Nodup) (s : State) (j : SiteNo) :
    (l.foldl State.coHold s).site j = { s.site j with hostHold := (s.site j).hostHold || (l.contains j && s.holdable j) } := by
  induction l generalizing s with
  | nil => simp
  | cons i l ih =>
    obtain ⟨fresh, rest⟩ := List.nodup_cons.mp nodup
    rw [List.foldl_cons, ih rest, coHold_site]
    by_cases same : j = i
    · subst same
      simp [fresh]
    · simp [same, beq_eq_false_iff_ne.mpr same, coHold_holdable same]

theorem coHolds_notices (l : List SiteNo) (nodup : l.Nodup) (s : State) :
    (l.foldl State.coHold s).lists.stopNotices = (l.filter s.holdable).foldl s.holdNotice s.lists.stopNotices := by
  induction l generalizing s with
  | nil => rfl
  | cons i l ih =>
    obtain ⟨fresh, rest⟩ := List.nodup_cons.mp nodup
    have later : l.filter (s.coHold i).holdable = l.filter s.holdable := List.filter_congr fun j hj => coHold_holdable fun same => fresh (same ▸ hj)
    rw [List.foldl_cons, ih rest, later, coHold_holdNotice, coHold_notices, List.filter_cons]
    split <;> rfl

/-- The sites of an entry that the action in force holds (R120). -/
def State.coTaken (s : State) (sites : List SiteNo) (j : SiteNo) : Bool :=
  sites.contains j && s.co.action == .hold && s.siteState j == .testing && !(s.site j).hostHold

/-- COINCIDENT and the action in force have reached the given sites (R119, R120). -/
def State.coMarked (s u : State) (sites : List SiteNo) : Prop :=
  (∀ j, u.site j = { s.site j with
    hostHold := (s.site j).hostHold || s.coTaken sites j
    ctx := if j ∈ sites then (s.ctx j).map fun b => { b with flags := { b.flags with coincident := true } } else s.ctx j }) ∧
  u.lists.stopNotices = (sites.filter (s.coTaken sites)).foldl (fun l j => noticePosted j .coincidenceHold (((s.ctx j).map (·.tag)).getD 0) l)
    s.lists.stopNotices ∧
  FrameBut [.coTable, .sites, .stopNotices] s u

/-- COINCIDENT has reached the given sites, before the action in force. -/
def State.coFlagged (s : State) (l : List SiteNo) : State := l.foldl (fun s i => State.addFlag s i .coincident) s

theorem coFlagged_site (l : List SiteNo) (j : SiteNo) :
    (s.coFlagged l).site j = { s.site j with ctx := if j ∈ l then (s.ctx j).map Context.coincident else s.ctx j } := addFlags_site l s j

theorem coFlagged_ctx (l : List SiteNo) (j : SiteNo) : (s.coFlagged l).ctx j = if j ∈ l then (s.ctx j).map Context.coincident else s.ctx j :=
  congrArg Site.ctx (coFlagged_site l j)

theorem coFlagged_hostHold (l : List SiteNo) (j : SiteNo) : ((s.coFlagged l).site j).hostHold = (s.site j).hostHold := by
  rw [coFlagged_site]

theorem coFlagged_holdable (l : List SiteNo) (j : SiteNo) : (s.coFlagged l).holdable j = s.holdable j := by
  have state : (s.coFlagged l).siteState j = s.siteState j := by
    refine site_state_congr ((congrArg (Option.map Context.phase) (coFlagged_ctx l j)).trans ?_)
    split
    · rw [Option.map_map]
      rfl
    · rfl
  rw [State.holdable, state, coFlagged_hostHold]
  rfl

theorem coFlagged_holdNotice (l : List SiteNo) : (s.coFlagged l).holdNotice = s.holdNotice := by
  funext old j
  rw [State.holdNotice, coFlagged_ctx]
  split
  · rw [Option.map_map]
    rfl
  · rfl

theorem coFlagged_lists (l : List SiteNo) : (s.coFlagged l).lists = s.lists :=
  foldl_keeps State.lists (fun s i => State.addFlag s i .coincident) (fun _ _ => rfl) l s

theorem coFlagged_co (l : List SiteNo) : (s.coFlagged l).co = s.co :=
  foldl_keeps State.co (fun s i => State.addFlag s i .coincident) (fun _ _ => rfl) l s

theorem coMark_notify (l : List SiteNo) (action : s.co.action = .notify) : s.coMark l = s.coFlagged l := by
  show (match (s.coFlagged l).co.action with | .notify => s.coFlagged l | .hold => _) = _
  rw [coFlagged_co, action]

theorem coMark_hold (l : List SiteNo) (action : s.co.action = .hold) : s.coMark l = l.foldl State.coHold (s.coFlagged l) := by
  show (match (s.coFlagged l).co.action with | .notify => _ | .hold => l.foldl State.coHold (s.coFlagged l)) = _
  rw [coFlagged_co, action]

theorem coTaken_notify (l : List SiteNo) (action : s.co.action = .notify) (j : SiteNo) : s.coTaken l j = false := by
  rw [State.coTaken, action]
  simp

theorem coTaken_hold (l : List SiteNo) (action : s.co.action = .hold) (j : SiteNo) : s.coTaken l j = (l.contains j && s.holdable j) := by
  rw [State.coTaken, action, State.holdable]
  simp [Bool.and_assoc]

theorem coMark_marked (l : List SiteNo) (nodup : l.Nodup) : s.coMarked (s.coMark l) l := by
  refine ⟨fun j => ?_, ?_, (coMark_frame s l).mono (by simp)⟩
  · cases action : s.co.action with
    | notify =>
      rw [coMark_notify l action, coTaken_notify l action, coFlagged_site, Bool.or_false]
      rfl
    | hold =>
      rw [coMark_hold l action, coTaken_hold l action, coHolds_site l nodup, coFlagged_holdable, coFlagged_site]
      rfl
  · cases action : s.co.action with
    | notify =>
      rw [coMark_notify l action, coFlagged_lists, List.filter_eq_nil_iff.mpr fun j _ => by rw [coTaken_notify l action]; exact Bool.false_ne_true]
      rfl
    | hold =>
      have taken : l.filter (s.coTaken l) = l.filter s.holdable := List.filter_congr fun j hj => by
        rw [coTaken_hold l action, List.contains_iff_mem.mpr hj, Bool.true_and]
      rw [coMark_hold l action, coHolds_notices l nodup, coFlagged_lists, coFlagged_holdNotice, funext (coFlagged_holdable l), taken]
      rfl

/-- The marks reach the sites of an entry after the entry is written. -/
theorem setCoEntry_marked (n : Fin 128) (x : Option CoEntry) (l : List SiteNo) (nodup : l.Nodup) : s.coMarked ((s.setCoEntry n x).coMark l) l := by
  obtain ⟨sites, notices, frame⟩ := coMark_marked (s := s.setCoEntry n x) l nodup
  exact ⟨sites, notices, (setCoEntry_frame s n x).then frame (by simp)⟩

end

/-! ### A MUST assignment (R118) -/

section
variable {s : State} {i : SiteNo} {d : DomainNo} {a : Axis} {addr : LineAddr} {c : Context} {n : Fin 128} {e : CoEntry}

/-- Entry n is `e` and the others are as they were. -/
def State.coOnly (s u : State) (n : Fin 128) (e : CoEntry) : Prop :=
  u.co.table[n.val] = some e ∧ ∀ m : Fin 128, m ≠ n → u.co.table[m.val] = s.co.table[m.val]

theorem setCoEntry_only : s.coOnly (s.setCoEntry n (some e)) n e :=
  ⟨by rw [setCoEntry_table, if_pos rfl], fun m other => by rw [setCoEntry_table, if_neg other]⟩

theorem coHold_co (i : SiteNo) : (s.coHold i).co = s.co := by
  cases h : s.holdable i with
  | true => rw [coHold_held h]; rfl
  | false => rw [coHold_kept h]

theorem coMark_co (l : List SiteNo) : (s.coMark l).co = s.co := by
  have held (t : State) : (l.foldl State.coHold t).co = t.co := foldl_keeps State.co State.coHold (fun t j => coHold_co j) l t
  cases action : s.co.action with
  | notify => rw [coMark_notify l action, coFlagged_co]
  | hold => rw [coMark_hold l action, held, coFlagged_co]

theorem marked_only (l : List SiteNo) : s.coOnly ((s.setCoEntry n (some e)).coMark l) n e := by
  rw [State.coOnly, coMark_co]
  exact setCoEntry_only

theorem coAdded_below (counting : e.state = .counting) (below : e.members.length < s.co.threshold) : s.coAdded n i e = s.setCoEntry n (some e) := by
  rw [State.coAdded, counting]
  exact if_neg (Nat.not_le_of_lt below)

theorem coAdded_trips (counting : e.state = .counting) (reached : s.co.threshold ≤ e.members.length) :
    s.coAdded n i e = (s.setCoEntry n (some { e with state := .tripped })).coMark e.members := by
  rw [State.coAdded, counting]
  exact if_pos reached

theorem coAdded_tripped (tripped : e.state = .tripped) : s.coAdded n i e = (s.setCoEntry n (some e)).coMark [i] := by
  rw [State.coAdded, tripped]

theorem coJoin_full (hc : s.ctx i = some c) (unheld : ∀ n, ¬ s.co.holds (coKeyOf c.template d a addr s.co.span) n)
    (full : ∀ n : Fin 128, s.co.table[n.val] ≠ none) : s.coJoin i d a addr = { s with co := { s.co with tableFull := true } } := by
  simp only [State.coJoin, hc, find_none unheld, lowestFree_none full]

theorem coJoin_new (hc : s.ctx i = some c) (unheld : ∀ n, ¬ s.co.holds (coKeyOf c.template d a addr s.co.span) n)
    (free : s.co.table[n.val] = none) (before : ∀ m : Fin 128, m.val < n.val → s.co.table[m.val] ≠ none) :
    s.coJoin i d a addr = s.coAdded n i { key := coKeyOf c.template d a addr s.co.span, members := [i], state := .counting } := by
  simp only [State.coJoin, hc, find_none unheld, lowestFree_first free before]

theorem coJoin_member (hc : s.ctx i = some c) (he : s.co.table[n.val] = some e) (key : e.key = coKeyOf c.template d a addr s.co.span)
    (before : ∀ m : Fin 128, m.val < n.val → ¬ s.co.holds (coKeyOf c.template d a addr s.co.span) m) (member : i ∈ e.members) :
    s.coJoin i d a addr = s := by
  simp only [State.coJoin, hc, find_first ⟨e, he, key⟩ before, he]
  exact if_pos (List.contains_iff_mem.mpr member)

theorem coJoin_joins (hc : s.ctx i = some c) (he : s.co.table[n.val] = some e) (key : e.key = coKeyOf c.template d a addr s.co.span)
    (before : ∀ m : Fin 128, m.val < n.val → ¬ s.co.holds (coKeyOf c.template d a addr s.co.span) m) (fresh : i ∉ e.members) :
    s.coJoin i d a addr = s.coAdded n i { e with members := memberInsert i e.members } := by
  simp only [State.coJoin, hc, find_first ⟨e, he, key⟩ before, he]
  exact if_neg fun member => fresh (List.contains_iff_mem.mp member)

end

end Sys2Proof.Machine

open Sys2Proof Sys2Proof.Machine

/-- Settles O23. -/
theorem coincidenceJoinsAndTrips : Obligations.CoincidenceJoinsAndTrips := by
  unfold Obligations.CoincidenceJoinsAndTrips
  refine ⟨fun i l => ⟨mem_memberInsert i l, memberInsert_ascends i l⟩, fun s i d a addr c hc two => ⟨fun unheld full => ?_,
    fun n unheld free before => ?_, fun n e he key before => ⟨fun member => ?_, fun fresh nodup => ⟨fun counting below => ?_,
      fun counting reached => ?_, fun tripped => ?_⟩⟩⟩⟩
  · exact coJoin_full hc unheld full
  · rw [(coJoin_new hc unheld free before).trans (coAdded_below (e := { key := _, members := [i], state := .counting }) rfl two)]
    exact ⟨setCoEntry_only, setCoEntry_frame s n _⟩
  · exact coJoin_member hc he key before member
  · rw [← memberInsert_length fresh] at below
    rw [(coJoin_joins hc he key before fresh).trans (coAdded_below (e := { e with members := memberInsert i e.members }) counting below)]
    exact ⟨setCoEntry_only, setCoEntry_frame s n _⟩
  · rw [← memberInsert_length fresh] at reached
    rw [(coJoin_joins hc he key before fresh).trans (coAdded_trips (e := { e with members := memberInsert i e.members }) counting reached)]
    exact ⟨marked_only _, setCoEntry_marked n _ _ (memberInsert_nodup fresh nodup)⟩
  · rw [(coJoin_joins hc he key before fresh).trans (coAdded_tripped (e := { e with members := memberInsert i e.members }) tripped)]
    exact ⟨marked_only _, setCoEntry_marked n _ _ (List.pairwise_singleton _ i)⟩

end

section
/-! Head-link frames as bytes (R187). -/

namespace Sys2Proof.Machine

section
variable {f : RawFrame} {h : HeadNo}

/-- The check byte as one pass over the bits, the most significant bit of each byte first. -/
theorem checkByte_bits (bs : List Byte) : checkByte bs =
    (bs.flatMap fun b => [b.getLsbD 7, b.getLsbD 6, b.getLsbD 5, b.getLsbD 4, b.getLsbD 3, b.getLsbD 2, b.getLsbD 1, b.getLsbD 0]).foldl crcStep 0xFF := by
  rw [List.foldl_flatMap, checkByte]
  exact congrArg (fun g => bs.foldl g 0xFF) (funext fun c => funext fun b => crcByte_bits c b)

theorem bytes_first (v : Vector Byte 8) : v.toList.take 7 = [v[0], v[1], v[2], v[3], v[4], v[5], v[6]] := by
  refine List.ext_getElem (by simp) fun n hn _ => ?_
  have small : n < 7 := by simpa using hn
  rw [List.getElem_take, Vector.getElem_toList]
  match n, small with
  | 0, _ | 1, _ | 2, _ | 3, _ | 4, _ | 5, _ | 6, _ => rfl

theorem checked_iff : f.checked = true ↔ f.bytes[7] = checkByte (f.bytes.toList.take 7) := by
  rw [bytes_first, RawFrame.checked, beq_iff_eq]

theorem frameOf_first (b0 b1 b2 b3 b4 b5 b6 : Byte) : (frameOf b0 b1 b2 b3 b4 b5 b6).bytes.toList.take 7 = [b0, b1, b2, b3, b4, b5, b6] := rfl

theorem frameOf_checked (b0 b1 b2 b3 b4 b5 b6 : Byte) : (frameOf b0 b1 b2 b3 b4 b5 b6).checked = true := checked_iff.mpr rfl

/-- A frame without a framing fault whose check byte matches. -/
def RawFrame.sound (f : RawFrame) : Prop := f.framingFault = false ∧ f.checked = true

theorem frameOf_sound (b0 b1 b2 b3 b4 b5 b6 : Byte) : (frameOf b0 b1 b2 b3 b4 b5 b6).sound := ⟨rfl, frameOf_checked ..⟩

/-! ### The command that a frame is -/

theorem commandOfFrame_fault (hf : f.framingFault = true ∨ f.checked = false) : commandOfFrame h f = .badFrameReceived h :=
  if_pos (by simpa using hf)

/-- The judgment of a sound frame is that of its kind. -/
theorem commandOfFrame_sound (hf : f.sound) : commandOfFrame h f =
    if f.bytes[0] = 0x01 then .helloReceived h (f.bytes[2] ++ f.bytes[1]) f.bytes[3] f.bytes[4]
    else if f.bytes[0] = 0x02 then
      .failReceived h f.slot ⟨f.bytes[2].toNat % 16, by omega⟩ (f.bytes[4] ++ f.bytes[3]) ((f.bytes[6] ++ f.bytes[5]).setWidth 12)
        ⟨f.bytes[2].toNat / 16, by have := f.bytes[2].isLt; omega⟩
    else if f.bytes[0] = 0x03 then .endReceived h f.slot
    else if f.bytes[0] = 0x04 then .holdReceived h f.slot (f.bytes[2].getLsbD 0)
    else .badFrameReceived h := if_neg (by simpa [RawFrame.sound] using hf)

theorem commandOfFrame_hello (hf : f.sound) (kind : f.bytes[0] = 0x01) :
    commandOfFrame h f = .helloReceived h (f.bytes[2] ++ f.bytes[1]) f.bytes[3] f.bytes[4] := by
  rw [commandOfFrame_sound hf, if_pos kind]

theorem commandOfFrame_fail (hf : f.sound) (kind : f.bytes[0] = 0x02) : commandOfFrame h f =
    .failReceived h f.slot ⟨f.bytes[2].toNat % 16, by omega⟩ (f.bytes[4] ++ f.bytes[3]) ((f.bytes[6] ++ f.bytes[5]).setWidth 12)
      ⟨f.bytes[2].toNat / 16, by have := f.bytes[2].isLt; omega⟩ := by
  rw [commandOfFrame_sound hf, kind]
  rfl

theorem commandOfFrame_end (hf : f.sound) (kind : f.bytes[0] = 0x03) : commandOfFrame h f = .endReceived h f.slot := by
  rw [commandOfFrame_sound hf, kind]
  rfl

theorem commandOfFrame_hold (hf : f.sound) (kind : f.bytes[0] = 0x04) : commandOfFrame h f = .holdReceived h f.slot (f.bytes[2].getLsbD 0) := by
  rw [commandOfFrame_sound hf, kind]
  rfl

theorem commandOfFrame_unknown (kind : f.bytes[0].toNat ∉ [1, 2, 3, 4]) : commandOfFrame h f = .badFrameReceived h := by
  have other (n : Nat) (small : n < 256) (listed : n ∈ [1, 2, 3, 4]) : f.bytes[0] ≠ BitVec.ofNat 8 n := by
    intro same
    rw [same, BitVec.toNat_ofNat, Nat.mod_eq_of_lt small] at kind
    exact kind listed
  by_cases hf : f.sound
  · have hello : f.bytes[0] ≠ 0x01 := other 1 (by decide) (by decide)
    have fail : f.bytes[0] ≠ 0x02 := other 2 (by decide) (by decide)
    have done : f.bytes[0] ≠ 0x03 := other 3 (by decide) (by decide)
    have hold : f.bytes[0] ≠ 0x04 := other 4 (by decide) (by decide)
    rw [commandOfFrame_sound hf, if_neg hello, if_neg fail, if_neg done, if_neg hold]
  · refine commandOfFrame_fault ?_
    rw [RawFrame.sound] at hf
    cases fault : f.framingFault <;> simp_all

/-! ### Numbers split into bytes -/

theorem toNat_append_byte (a b : Byte) : (a ++ b).toNat = b.toNat + 256 * a.toNat := by
  rw [BitVec.toNat_append, ← Nat.shiftLeft_add_eq_or_of_lt b.isLt, Nat.shiftLeft_eq]
  omega

theorem toNat_low_twelve (a b : Byte) : ((a ++ b).setWidth 12).toNat = b.toNat + 256 * (a.toNat % 16) := by
  rw [BitVec.toNat_setWidth, toNat_append_byte]
  have := b.isLt
  omega

theorem append_bytes (n : BitVec 16) : n.extractLsb' 8 8 ++ n.extractLsb' 0 8 = n := by
  refine BitVec.eq_of_toNat_eq ?_
  rw [toNat_append_byte, BitVec.extractLsb'_toNat, BitVec.extractLsb'_toNat, Nat.shiftRight_eq_div_pow, Nat.shiftRight_eq_div_pow]
  have := n.isLt
  omega

theorem append_nibble (n : BitVec 12) : ((n.extractLsb' 8 4).setWidth 8 ++ n.extractLsb' 0 8).setWidth 12 = n := by
  refine BitVec.eq_of_toNat_eq ?_
  rw [toNat_low_twelve, BitVec.toNat_setWidth, BitVec.extractLsb'_toNat, BitVec.extractLsb'_toNat, Nat.shiftRight_eq_div_pow,
    Nat.shiftRight_eq_div_pow]
  have := n.isLt
  omega

theorem toNat_ofNat_byte {n : Nat} (h : n < 256) : (BitVec.ofNat 8 n).toNat = n := by rw [BitVec.toNat_ofNat, Nat.mod_eq_of_lt h]

/-! ### Frames sent -/

theorem slot_of_byte {slot : SlotNo} (byte : f.bytes[1] = BitVec.ofNat 8 slot.val) : f.slot = slot := by
  refine Fin.ext ?_
  show f.bytes[1].toNat % 32 = slot.val
  rw [byte, toNat_ofNat_byte (by omega)]
  exact Nat.mod_eq_of_lt slot.isLt

theorem commandOfFrame_up (f : UpFrame) : commandOfFrame h f.raw = match f with
    | .fail slot d row col len => .failReceived h slot d row col len
    | .endFrame slot => .endReceived h slot
    | .hold slot on => .holdReceived h slot on := by
  cases f with
  | fail slot d row col len =>
    have byte : (BitVec.ofNat 8 (d.val + 16 * len.val)).toNat = d.val + 16 * len.val := toNat_ofNat_byte (by omega)
    refine (commandOfFrame_fail (f := (UpFrame.fail slot d row col len).raw) (frameOf_sound ..) rfl).trans ?_
    simp only [Instr.failReceived.injEq, true_and]
    refine ⟨slot_of_byte rfl, Fin.ext ?_, append_bytes row, append_nibble col, Fin.ext ?_⟩
    · refine (congrArg (· % 16) byte).trans ?_
      omega
    · refine (congrArg (· / 16) byte).trans ?_
      omega
  | endFrame slot =>
    refine (commandOfFrame_end (f := (UpFrame.endFrame slot).raw) (frameOf_sound ..) rfl).trans ?_
    exact congrArg (Instr.endReceived h) (slot_of_byte rfl)
  | hold slot on =>
    refine (commandOfFrame_hold (f := (UpFrame.hold slot on).raw) (frameOf_sound ..) rfl).trans ?_
    simp only [Instr.holdReceived.injEq, true_and]
    refine ⟨slot_of_byte rfl, ?_⟩
    show BitVec.getLsbD (if on then (1 : Byte) else 0) 0 = on
    cases on <;> decide

end

end Sys2Proof.Machine

open Sys2Proof Sys2Proof.Machine

/-- Settles O59. -/
theorem framesAreReceivedAsSent : Obligations.FramesAreReceivedAsSent := by
  unfold Obligations.FramesAreReceivedAsSent
  refine ⟨checkByte_bits, fun f => ⟨?_, ?_, ?_⟩, fun h f whole check => ?_, fun h f => commandOfFrame_up f, fun h serial slotCount level => ?_,
    fun h f => ?_, fun h f bad => ?_⟩
  · cases f <;> rfl
  · cases f <;> rfl
  · cases f <;> rfl
  · have hf : f.sound := ⟨whole, checked_iff.mpr check⟩
    refine ⟨commandOfFrame_hello hf, fun kind => ⟨_, _, _, _, _, commandOfFrame_fail hf kind, rfl, rfl, rfl, ?_, ?_⟩,
      fun kind => ⟨_, commandOfFrame_end hf kind, rfl⟩, fun kind => ⟨_, commandOfFrame_hold hf kind, rfl⟩⟩
    · exact toNat_append_byte _ _
    · exact toNat_low_twelve _ _
  · refine (commandOfFrame_hello (f := helloFrame serial slotCount level) (frameOf_sound ..) rfl).trans ?_
    exact congrArg (fun n => Instr.helloReceived h n slotCount level) (append_bytes serial)
  · refine commandOfFrame_unknown ?_
    cases f with
    | gate set => exact (by decide : ((0x81 : Byte).toNat ∉ [1, 2, 3, 4]))
    | credit n => exact (by decide : ((0x82 : Byte).toNat ∉ [1, 2, 3, 4]))
    | drain slot => exact (by decide : ((0x83 : Byte).toNat ∉ [1, 2, 3, 4]))
  · rcases bad with fault | wrong | unknown
    · exact commandOfFrame_fault (Or.inl fault)
    · exact commandOfFrame_fault (Or.inr (Bool.eq_false_iff.mpr fun ok => wrong (checked_iff.mp ok)))
    · exact commandOfFrame_unknown unknown

end

section
/-! Frames received and the drain deadline (R29, R31, R146 to R150). -/

namespace Sys2Proof.Machine

section
variable {s t : State} {h : HeadNo}

/-! ### Events of a ready part -/

/-- A change of the other blocks leaves the Export Engine. -/
theorem FrameBut.ex {changed : List Block} (hf : FrameBut changed s t) (he : Block.export_ ∉ changed) (hq : Block.collectionQueue ∉ changed)
    (ht : Block.busTimeout ∉ changed) : t.ex = s.ex := by
  have rest := hf .export_ he
  have queue : t.ex.collectionQueue = s.ex.collectionQueue := hf .collectionQueue hq
  have timeout : t.ex.busTimeout = s.ex.busTimeout := hf .busTimeout ht
  rw [Block.same] at rest
  cases hs : s.ex
  cases ht : t.ex
  simp_all

theorem State.Ready.exec {c : Instr} {f : State → State} (hs : s.Ready) (row : Machine.exec c s = .next (s.atEvent f)) (effect : f s = t) :
    Machine.exec c s = .next t.finish := by rw [row, Ready.atEvent hs, effect]

theorem State.Ready.ignores {c : Instr} {f : State → State} (hs : s.Ready) (row : Machine.exec c s = .next (s.atEvent f)) (effect : f s = s) :
    Machine.exec c s = .next s := by rw [row, Ready.atEvent_unchanged hs effect]

theorem State.Ready.atRest (hs : s.Ready) : s.ex.atRest := hs.settled.exportAtRest

/-- An event that changes one link, which the end of the event passes by. -/
theorem State.Ready.onLink {c : Instr} {g : State → State} {f : Link → Link} (hs : s.Ready) (row : Machine.exec c s = .next (s.atEvent g))
    (effect : g s = s.modLink h f) (settled : (s.modLink h f).linksSettled) :
    ∃ u, Machine.exec c s = .next u ∧ s.Happens u [.links] ∧ u.link h = f (s.link h) ∧ ∀ k, k ≠ h → u.link k = s.link k := by
  refine ⟨_, State.Ready.exec hs row effect, happens_quiet (modLink_frame s h f) (by decide) settled hs.atRest, ?_, fun k other => ?_⟩
  · rw [finish_link_of_settled settled, modLink_link_self]
  · rw [finish_link_of_settled settled, modLink_link, if_neg other]

theorem modLink_site (f : Link → Link) (i : SiteNo) : (s.modLink h f).site i = s.site i := site_congr (modLink_sites s h f) i

/-! ### A good HELLO (R146, R147) -/

theorem helloValid_iff (slotCount level : Byte) : helloValid slotCount level = true ↔ level = 1 ∧ 1 ≤ slotCount.toNat ∧ slotCount.toNat ≤ 32 := by
  simp [helloValid, and_assoc]

section
variable {serial : BitVec 16} {slotCount level : Byte}

theorem receiveHello_discarded (state : (s.link h).state ∈ [.down, .faulted]) : s.receiveHello h serial slotCount level = s := by
  unfold State.receiveHello
  split <;> simp_all

theorem receiveHello_up (state : (s.link h).state = .up) : s.receiveHello h serial slotCount level =
    s.modLink h fun l => { l with badCount := 0, causes := { l.causes with badHello := true } } := by
  rw [State.receiveHello, state]
  exact modLink_modLink ..

theorem receiveHello_invalid (state : (s.link h).state = .training) (invalid : helloValid slotCount level = false) :
    s.receiveHello h serial slotCount level = s.modLink h fun l => { l with causes := { l.causes with badHello := true } } := by
  rw [State.receiveHello, state, invalid]
  rfl

theorem receiveHello_valid (state : (s.link h).state = .training) (valid : helloValid slotCount level = true) :
    s.receiveHello h serial slotCount level = s.enterUp h serial slotCount := by
  rw [State.receiveHello, state, valid]
  rfl

/-- A link that a valid HELLO has brought UP, with the gate set of its sites (R146). -/
def Link.raised (l : Link) (serial : BitVec 16) (slotCount : Byte) (gates : SlotSet) : Link :=
  { l with state := .up, trainingDeadline := none, serial, slotCount := slotCount.toNat, balance := 0, badCount := 0, downCredit := some 64,
           causes := { l.causes with upReached := true }, downGate := some gates, gateHanded := gates }

theorem enterUp_link (k : HeadNo) : (s.enterUp h serial slotCount).link k =
    if k = h then (s.link h).raised serial slotCount ((s.enterUp h serial slotCount).gateSet h) else s.link k := by
  have gates : (s.enterUp h serial slotCount).gateSet h = (s.modLink h fun l =>
      { l with state := .up, trainingDeadline := none, serial, slotCount := slotCount.toNat, balance := 0, badCount := 0,
               downCredit := some Config.linkCredits, causes := l.causes.add .upReached }).gateSet h := by
    refine gateSet_congr (modLink_sites ..) h ?_
    exact (congrArg Link.state (modLink_link_self _ h _)).trans rfl
  rw [gates]
  refine (modLink_link _ h k _).trans ?_
  by_cases same : k = h
  · rw [if_pos same, if_pos same, modLink_link_self]
    rfl
  · rw [if_neg same, if_neg same, modLink_link, if_neg same]

theorem enterUp_frame (s : State) (h : HeadNo) (serial : BitVec 16) (slotCount : Byte) : FrameBut [.links] s (s.enterUp h serial slotCount) :=
  (modLink_frame s h _).then (modLink_frame _ h _) (by simp)

end

/-! ### Flags of the sites of a head (R31, R148) -/

/-- A context in TESTING or DRAINING gains a flag. -/
def Context.flagTested (f : QualityFlag) (c : Context) : Context :=
  if c.phase = .testing ∨ c.phase = .draining then { c with flags := c.flags.set f } else c

theorem flagTested_again (f : QualityFlag) (c : Context) : (c.flagTested f).flagTested f = c.flagTested f := by
  unfold Context.flagTested
  by_cases tests : c.phase = .testing ∨ c.phase = .draining
  · rw [if_pos tests, if_pos tests]
    cases f <;> rfl
  · rw [if_neg tests, if_neg tests]

/-- One site's part of the flags. -/
def State.flagSite (s : State) (f : QualityFlag) (i : SiteNo) : State :=
  if s.siteState i = .testing ∨ s.siteState i = .draining then s.addFlag i f else s

theorem flagSite_site (f : QualityFlag) (i j : SiteNo) :
    (s.flagSite f i).site j = if j = i then { s.site i with ctx := (s.ctx i).map (Context.flagTested f) } else s.site j := by
  by_cases same : j = i
  · subst same
    rw [if_pos rfl, State.flagSite, siteState_eq]
    cases hc : s.ctx j with
    | none =>
      rw [if_neg (by simp)]
      rw [State.ctx] at hc
      rw [Option.map_none, ← hc]
    | some c =>
      rw [State.ctx] at hc
      cases phase : c.phase <;> simp [phase, State.addFlag, modCtx_site, hc, Context.flagTested] <;> rw [← hc]
  · rw [if_neg same, State.flagSite]
    split
    · rw [State.addFlag, modCtx_site, if_neg same]
    · rfl

theorem flagTested_site (f : QualityFlag) (i : SiteNo) : (s.flagTested h f).site i =
    if headOf i = h then { s.site i with ctx := (s.ctx i).map (Context.flagTested f) } else s.site i := by
  have flags (l : List SiteNo) (s : State) : (l.foldl (fun s i => State.flagSite s f i) s).site i =
      if i ∈ l then { s.site i with ctx := (s.ctx i).map (Context.flagTested f) } else s.site i := by
    induction l generalizing s with
    | nil => rfl
    | cons j l ih =>
      have first (k : SiteNo) : (s.flagSite f j).ctx k = ((s.flagSite f j).site k).ctx := rfl
      rw [List.foldl_cons, ih, first, flagSite_site]
      by_cases same : i = j
      · subst same
        cases hc : s.ctx i <;> by_cases later : i ∈ l <;> simp [later, flagTested_again]
      · by_cases later : i ∈ l <;> simp [same, later, State.ctx]
  refine (flags (sitesOf h) s).trans ?_
  simp only [mem_sitesOf]

/-! ### A link that faults from UP (R31, R150) -/

theorem linkFault_link (k : HeadNo) : (s.linkFault h).link k = if k = h then { (s.link h).faulted with gateHanded := 0 } else s.link k := by
  have swept (t : State) (k : HeadNo) : ((t.flagTested h .linkLost).clearHeadHolds h).link k = t.link k := by simp [State.link]
  rw [State.linkFault, State.linkLeftUp, modLink_link]
  split
  · rw [swept, modLink_link_self]
  · rename_i other
    rw [swept, modLink_link, if_neg other]

theorem linkFault_site (i : SiteNo) : (s.linkFault h).site i =
    if headOf i = h then { s.site i with headHold := false, ctx := (s.ctx i).map (Context.flagTested .linkLost) } else s.site i := by
  have left : (s.linkFault h).site i = (((s.modLink h Link.faulted).flagTested h .linkLost).clearHeadHolds h).site i := by
    rw [State.linkFault, State.linkLeftUp, modLink_site]
  have before : (s.modLink h Link.faulted).ctx i = s.ctx i := rfl
  rw [left, clearHeadHolds_site, flagTested_site, before]
  by_cases head : headOf i = h
  · rw [if_pos head, if_pos head, if_pos head, modLink_site]
  · rw [if_neg head, if_neg head, if_neg head, modLink_site]

/-- A link that is not UP asks nothing of the end of an event, and the other heads are as they were. -/
theorem linksSettled_of_head (hs : s.linksSettled) (down : (t.link h).state ≠ .up) (links : ∀ k, k ≠ h → t.link k = s.link k)
    (sites : ∀ i, headOf i ≠ h → t.site i = s.site i) : t.linksSettled := by
  intro k
  by_cases same : k = h
  · subst same
    exact finished_eq _ _ (fun up => absurd up down) (fun up => absurd up down)
  · rw [links k same, gateSet_of_slots (s := s) (fun i head => ?_) (by rw [links k same])]
    · exact hs k
    · simp only [State.gateOpen, State.siteState, sites i fun other => same (head.symm.trans other)]

/-- What comes before a fault: the causes, the count of bad frames and the flag of the bad frame (R148 to R150). -/
structure State.FaultBegins (s t : State) (h : HeadNo) (bad : Nat) (c : LinkCauses) (suspect : Bool) : Prop where
  link : t.link h = { s.link h with badCount := bad, causes := c }
  links : ∀ k, k ≠ h → t.link k = s.link k
  sites : ∀ i, t.site i = if headOf i = h ∧ suspect = true then { s.site i with ctx := (s.ctx i).map (Context.flagTested .suspect) } else s.site i
  frame : FrameBut [.links, .sites] s t

theorem fault_happens {c : Instr} {g : State → State} {bad : Nat} {causes : LinkCauses} {suspect : Bool} (hs : s.Ready)
    (row : exec c s = .next (s.atEvent g)) (effect : g s = t.linkFault h) (begins : s.FaultBegins t h bad causes suspect) :
    ∃ u, exec c s = .next u ∧ s.Happens u [.links, .sites] ∧ s.LinkFaults u h bad causes suspect := by
  have frame : FrameBut [.links, .sites] s (t.linkFault h) := begins.frame.then (linkFault_frame t h) (by simp)
  have sites (i : SiteNo) : (t.linkFault h).site i = if headOf i = h
      then { s.site i with headHold := false, ctx := (s.ctx i).map fun x => if x.phase = .testing ∨ x.phase = .draining
        then { x with flags := { x.flags with suspect := x.flags.suspect || suspect, linkLost := true } } else x }
      else s.site i := by
    have flags (x : Context) : ((if suspect = true then Context.flagTested .suspect x else x).flagTested .linkLost) =
        if x.phase = .testing ∨ x.phase = .draining
        then { x with flags := { x.flags with suspect := x.flags.suspect || suspect, linkLost := true } } else x := by
      unfold Context.flagTested
      by_cases tests : x.phase = .testing ∨ x.phase = .draining
      · cases suspect <;> simp [tests, QualityFlags.set]
      · cases suspect <;> simp [tests]
    have ctx : (t.ctx i) = (t.site i).ctx := rfl
    rw [linkFault_site, ctx, begins.sites]
    by_cases head : headOf i = h
    · rw [if_pos head, if_pos head, ← funext flags]
      cases suspect <;> simp [head, Function.comp_def, State.ctx]
    · rw [if_neg head, if_neg head, if_neg fun both => head both.1]
  have settled : (t.linkFault h).linksSettled := by
    refine linksSettled_of_head (h := h) hs.settled.linksSettled ?_ (fun k other => ?_) fun i other => ?_
    · rw [linkFault_link, if_pos rfl]
      nofun
    · rw [linkFault_link, if_neg other, begins.links k other]
    · rw [sites, if_neg other]
  have rest : (t.linkFault h).ex.atRest := by
    rw [frame.ex (by decide) (by decide) (by decide)]
    exact hs.atRest
  refine ⟨_, State.Ready.exec hs row effect, happens_quiet frame (by decide) settled rest, ?_, fun k other => ?_, fun i => ?_⟩
  · rw [finish_link_of_settled settled, linkFault_link, if_pos rfl, begins.link]
    rfl
  · rw [finish_link_of_settled settled, linkFault_link, if_neg other, begins.links k other]
  · rw [finish_site, sites]

/-! ### A good counted frame (R147, R149) -/

theorem receiveCounted_discarded {f : UpFrame} (state : (s.link h).state ≠ .up) : s.receiveCounted h f = s := by
  unfold State.receiveCounted
  split
  · contradiction
  all_goals rfl

/-- The command that a received counted frame is. -/
def UpFrame.received (h : HeadNo) : UpFrame → Instr
  | .fail slot d row col len => .failReceived h slot d row col len
  | .endFrame slot => .endReceived h slot
  | .hold slot on => .holdReceived h slot on

theorem exec_received (f : UpFrame) : exec (f.received h) s = .next (s.atEvent fun s => s.receiveCounted h f) := by
  cases f <;> rfl

theorem receiveCounted_placed {f : UpFrame} (up : (s.link h).state = .up) (credit : 0 < (s.link h).balance) :
    s.receiveCounted h f = s.modLink h fun l => { l with badCount := 0, balance := l.balance - 1, fifo := l.fifo ++ [f] } := by
  unfold State.receiveCounted
  rw [up]
  simp only [modLink_link_self]
  rw [if_pos credit]
  exact modLink_modLink ..

theorem receiveCounted_faults {f : UpFrame} (up : (s.link h).state = .up) (spent : (s.link h).balance = 0) :
    s.receiveCounted h f =
      (s.modLink h fun l => { l with badCount := 0, causes := { l.causes with overrun := true, faulted := true } }).linkFault h := by
  unfold State.receiveCounted
  rw [up]
  simp only [modLink_link_self]
  rw [if_neg (by omega), State.addCause, State.addCause, modLink_modLink, modLink_modLink]
  rfl

/-! ### A bad frame (R147, R148) -/

theorem receiveBad_discarded (state : (s.link h).state ∈ [.down, .faulted]) : s.receiveBad h = s := by
  unfold State.receiveBad
  split <;> simp_all

theorem receiveBad_training (state : (s.link h).state = .training) :
    s.receiveBad h = s.modLink h fun l => { l with causes := { l.causes with badFrame := true } } := by
  rw [State.receiveBad, state]
  rfl

/-- A bad frame on an UP link is counted and flags the sites of its head (R148). -/
def State.badCounted (s : State) (h : HeadNo) : State :=
  ((s.addCause h .badFrame).flagTested h .suspect).modLink h fun l => { l with badCount := l.badCount + 1 }

theorem badCounted_link (k : HeadNo) : (s.badCounted h).link k = if k = h
    then { s.link h with badCount := (s.link h).badCount + 1, causes := { (s.link h).causes with badFrame := true } } else s.link k := by
  have flags (t : State) (k : HeadNo) : (t.flagTested h .suspect).link k = t.link k := by simp [State.link]
  rw [State.badCounted, modLink_link]
  split
  · rw [flags, State.addCause, modLink_link_self]
    rfl
  · rename_i other
    rw [flags, State.addCause, modLink_link, if_neg other]

theorem badCounted_site (i : SiteNo) : (s.badCounted h).site i =
    if headOf i = h then { s.site i with ctx := (s.ctx i).map (Context.flagTested .suspect) } else s.site i := by
  have before (i : SiteNo) : (s.addCause h .badFrame).site i = s.site i := modLink_site _ i
  have ctx : (s.addCause h .badFrame).ctx i = s.ctx i := congrArg Site.ctx (before i)
  rw [State.badCounted, modLink_site, flagTested_site, before, ctx]

theorem badCounted_frame (s : State) (h : HeadNo) : FrameBut [.links, .sites] s (s.badCounted h) :=
  ((modLink_frame s h _).then (flagTested_frame _ h _) (c := [.links, .sites]) (by simp)).then (modLink_frame _ h _) (by simp)

theorem receiveBad_counted (up : (s.link h).state = .up) (few : (s.link h).badCount < 3) :
    s.receiveBad h = (s.badCounted h).modLink h Link.badFrameCredit := by
  have count : ((s.badCounted h).link h).badCount < 4 := by
    rw [badCounted_link, if_pos rfl]
    exact Nat.succ_lt_succ few
  rw [State.receiveBad, up]
  exact if_pos count

theorem receiveBad_faults (up : (s.link h).state = .up) (many : 3 ≤ (s.link h).badCount) :
    s.receiveBad h = ((s.badCounted h).addCause h .faulted).linkFault h := by
  have count : ¬ ((s.badCounted h).link h).badCount < 4 := by
    rw [badCounted_link, if_pos rfl]
    exact Nat.not_lt_of_le (Nat.succ_le_succ many)
  rw [State.receiveBad, up]
  exact if_neg count

/-! ### The drain deadline (R29) -/

theorem drainPassed_other {i : SiteNo} (h : s.siteState i ≠ .draining ∨ (s.site i).drainDeadline = none) : s.drainPassed i = s := by
  unfold State.drainPassed
  split
  · rename_i t running
    rw [if_neg]
    rcases h with other | none_
    · exact other
    · rw [none_] at running
      cases running
  · rfl

theorem drainPassed_done {i : SiteNo} {t : Nat} (draining : s.siteState i = .draining) (running : (s.site i).drainDeadline = some t) :
    s.drainPassed i = ((s.clockAt t).addFlag i .drainTimeout).toSweeping i := by
  rw [State.drainPassed, running]
  exact if_pos draining

end

end Sys2Proof.Machine

open Sys2Proof Sys2Proof.Machine

/-- Settles O39. -/
theorem helloJudgedByState : Obligations.HelloJudgedByState := by
  unfold Obligations.HelloJudgedByState
  intro s h serial slotCount level hs
  refine ⟨fun state => hs.ignores rfl (receiveHello_discarded state), fun up => ?_, fun training invalid => ?_, fun training protocol least most => ?_⟩
  · refine hs.onLink (g := fun t => t.receiveHello h serial slotCount level) rfl (receiveHello_up up) ?_
    exact modLink_linksSettled_of hs.settled h _ rfl ⟨(hs.settled.link h).gate, (hs.settled.link h).queue⟩
  · have judged : helloValid slotCount level = false := by rwa [← Bool.not_eq_true, helloValid_iff]
    exact hs.onLink (g := fun t => t.receiveHello h serial slotCount level) rfl (receiveHello_invalid training judged) (causes_linksSettled hs.settled h _)
  · have valid : helloValid slotCount level = true := (helloValid_iff ..).mpr ⟨protocol, least, most⟩
    refine ⟨_, hs.exec rfl (receiveHello_valid training valid), (happens_links (enterUp_frame s h serial slotCount) (by decide) hs.atRest).mono (by simp), ?_⟩
    refine finish_linksFollow s _ _ fun k => ?_
    rw [enterUp_link, finish_gateSet]
    by_cases same : k = h
    · rw [if_pos same, if_pos same, same]
      rfl
    · rw [if_neg same, if_neg same]

/-- Settles O40. -/
theorem countedFramesTakeACredit : Obligations.CountedFramesTakeACredit := by
  unfold Obligations.CountedFramesTakeACredit
  intro s h f hs
  have row : exec (f.received h) s = .next (s.atEvent fun s => s.receiveCounted h f) := exec_received f
  refine ⟨fun state => hs.ignores row (receiveCounted_discarded state), fun up credit => ?_, fun up spent => ?_⟩
  · refine hs.onLink row (receiveCounted_placed up credit) ?_
    exact modLink_linksSettled_of hs.settled h _ rfl ⟨(hs.settled.link h).gate, (hs.settled.link h).queue⟩
  · refine fault_happens hs row (receiveCounted_faults up spent) ⟨?_, fun k other => ?_, fun i => ?_, (modLink_frame s h _).mono (by simp)⟩
    · rw [modLink_link_self]
    · rw [modLink_link, if_neg other]
    · rw [if_neg (by simp)]
      rfl

/-- Settles O41. -/
theorem badFramesAreCounted : Obligations.BadFramesAreCounted := by
  unfold Obligations.BadFramesAreCounted
  intro s h hs
  refine ⟨fun state => hs.ignores rfl (receiveBad_discarded state), fun training => ?_, fun up few => ?_, fun up many => ?_⟩
  · exact hs.onLink rfl (receiveBad_training training) (causes_linksSettled hs.settled h _)
  · have frame : FrameBut [.links, .sites] s ((s.badCounted h).modLink h Link.badFrameCredit) :=
      (badCounted_frame s h).then (modLink_frame _ h _) (by simp)
    have rest : ((s.badCounted h).modLink h Link.badFrameCredit).ex.atRest := by
      rw [frame.ex (by decide) (by decide) (by decide)]
      exact hs.atRest
    refine ⟨_, hs.exec rfl (receiveBad_counted up few), (happens_links frame (by decide) rest).mono (by simp), ?_, fun i => ?_⟩
    · refine finish_linksFollow s _ _ fun k => ?_
      rw [modLink_link, badCounted_link, badCounted_link, if_pos rfl]
      by_cases same : k = h
      · rw [if_pos same, if_pos same, same]
        rfl
      · rw [if_neg same, if_neg same, if_neg same]
    · rw [finish_site, modLink_site, badCounted_site]
      rfl
  · refine fault_happens hs rfl (receiveBad_faults up many) ⟨?_, fun k other => ?_, fun i => ?_,
      (badCounted_frame s h).then (modLink_frame _ h _) (by simp)⟩
    · rw [State.addCause, modLink_link_self, badCounted_link, if_pos rfl]
      rfl
    · rw [State.addCause, modLink_link, if_neg other, badCounted_link, if_neg other]
    · rw [State.addCause, modLink_site, badCounted_site]
      simp only [and_true]

/-- Settles O43. -/
theorem drainDeadlineSweepsTheSite : Obligations.DrainDeadlineSweepsTheSite := by
  unfold Obligations.DrainDeadlineSweepsTheSite
  refine ⟨fun s i c t hs hc phase running => ?_, fun s i hs other => hs.ignores rfl (drainPassed_other other)⟩
  have draining : s.siteState i = .draining := by rw [siteState_of_ctx hc, phase]; rfl
  have effect := drainPassed_done draining running
  have frame : FrameBut [.sites, .sweepQueue, .clock] s (((s.clockAt t).addFlag i .drainTimeout).toSweeping i) :=
    ((clockAt_frame s t).then (addFlag_frame _ i _) (c := [.clock, .sites]) (by simp)).then (toSweeping_frame _ i) (by simp)
  have settled : (((s.clockAt t).addFlag i .drainTimeout).toSweeping i).linksSettled := by
    refine linksSettled_of_gates hs.settled.linksSettled (gates_of_site (i := i) (fun j other => ?_) ?_) rfl
    · rw [toSweeping_site, if_neg other, State.addFlag, modCtx_site, if_neg other]
      rfl
    · rw [gateOpen_of_not_testing, gateOpen_of_not_testing]
      · rw [draining]
        decide
      · have present : ((s.clockAt t).addFlag i .drainTimeout).siteState i ≠ .vacant := by
          have kept : ((s.clockAt t).addFlag i .drainTimeout).siteState i = .draining :=
            (modCtx_siteState (s.clockAt t) i (fun c => { c with flags := c.flags.set .drainTimeout }) (fun _ => rfl) i).trans draining
          rw [kept]
          decide
        rw [toSweeping_siteState, if_pos ⟨rfl, present⟩]
        decide
  refine ⟨_, hs.exec rfl effect, happens_quiet frame (by decide) settled hs.atRest, ?_, ?_, fun j other => ?_, ?_⟩
  · rw [finish_now_of_rest]
    · rfl
    · exact hs.atRest
  · rw [finish_site, toSweeping_site, if_pos rfl, State.addFlag, modCtx_site, if_pos rfl, State.ctx, modCtx_site, if_pos rfl]
    have before : ((s.clockAt t).site i).ctx = some c := hc
    rw [before]
    rfl
  · rw [finish_site, toSweeping_site, if_neg other, State.addFlag, modCtx_site, if_neg other]
    rfl
  · rw [finish_lists]
    rfl

end

section
/-! The Export Engine: descriptors, accesses, write-backs and the bus timeout (R161, R163, R164, R166, R167, R169, R189). -/

namespace Sys2Proof.Machine

section
variable {s t : State} {e : Exporter} {d : Descriptor} {a : Word}

/-! ### Writes and assemblies that begin (R166, R167) -/

theorem beginWrite_idle (h : e.buffer = none ∨ e.writePos ≠ none ∨ ∀ d, e.current ≠ .held d) : e.beginWrite = e := by
  refine (beginWrite_fix e).mpr fun full waits d held => ?_
  rcases h with empty | writes | none_
  · exact full empty
  · exact writes waits
  · exact none_ d held

theorem beginWrite_begins {r : Record} (full : e.buffer = some r) (waits : e.writePos = none) (held : e.current = .held d) :
    e.beginWrite = { e with writePos := some 0 } := by
  rw [Exporter.beginWrite, full, waits, held]

theorem beginAssembly_idle (h : e.collectionQueue = [] ∨ e.buffer ≠ none ∨ e.assembling ≠ none ∨ e.stall ≠ none) : e.beginAssembly = e := by
  refine (beginAssembly_fix e).mpr fun empty free runs => ?_
  rcases h with none_ | full | busy | stalled
  · exact none_
  · exact absurd empty full
  · exact absurd free busy
  · exact absurd runs stalled

theorem beginAssembly_begins {i : SiteNo} {rest : List SiteNo} (queue : e.collectionQueue = i :: rest) (empty : e.buffer = none)
    (free : e.assembling = none) (runs : e.stall = none) : e.beginAssembly = { e with assembling := some i } := by
  rw [Exporter.beginAssembly, queue, empty, free, runs]

/-! ### Descriptors that become current (R163) -/

theorem promoteNext_idle (h : e.current ≠ .empty ∨ ∀ d, e.nextSlot ≠ .held d) : e.promoteNext = e := by
  unfold Exporter.promoteNext
  split
  · rename_i d current next
    rcases h with full | none_
    · exact absurd current full
    · exact absurd next (none_ d)
  · rfl

theorem makeCurrent_plain (h : ∀ a, d.nextAddr = some a → e.nextSlot ≠ .empty) : e.makeCurrent d = { e with current := .held d, fillOffset := some 0 } := by
  unfold Exporter.makeCurrent
  cases next : d.nextAddr with
  | none => rfl
  | some a => exact if_neg (h a next)

theorem makeCurrent_fetches (next : d.nextAddr = some a) (empty : e.nextSlot = .empty) : e.makeCurrent d =
    { e with current := .held d, fillOffset := some 0, nextSlot := .fetching a [], fetchOrder := e.fetchOrder ++ [.next] } := by
  unfold Exporter.makeCurrent
  rw [next]
  exact if_pos empty

theorem promoteNext_held (empty : e.current = .empty) (held : e.nextSlot = .held d) :
    e.promoteNext = ({ e with nextSlot := .empty } : Exporter).makeCurrent d := by
  rw [Exporter.promoteNext, empty, held]

theorem promoteNext_last (empty : e.current = .empty) (held : e.nextSlot = .held d) (next : d.nextAddr = none) :
    e.promoteNext = { e with current := .held d, fillOffset := some 0, nextSlot := .empty } := by
  rw [promoteNext_held empty held, makeCurrent_plain fun a named => by rw [next] at named; cases named]

theorem promoteNext_chained (empty : e.current = .empty) (held : e.nextSlot = .held d) (next : d.nextAddr = some a) :
    e.promoteNext = { e with current := .held d, fillOffset := some 0, nextSlot := .fetching a [], fetchOrder := e.fetchOrder ++ [.next] } := by
  rw [promoteNext_held empty held, makeCurrent_fetches next rfl]

/-! ### The next access (R164) -/

theorem nextAccess_status {w : WriteBack} {rest : List WriteBack} (h : e.writeBacks = w :: rest) : e.nextAccess = some (.status (w.addr + 4) w.status) := by
  rw [Exporter.nextAccess, h]

theorem nextAccess_none (backs : e.writeBacks = []) (fetches : e.fetchOrder = []) (h : e.buffer = none ∨ e.writePos = none) : e.nextAccess = none := by
  rw [Exporter.nextAccess, backs, fetches]
  rcases h with empty | idle
  · rw [empty]
  · rw [idle]
    cases e.buffer <;> rfl

theorem nextAccess_read {j : SlotId} {rest : List SlotId} {got : List Word} (backs : e.writeBacks = []) (fetches : e.fetchOrder = j :: rest)
    (slot : e.slot j = .fetching a got) : e.nextAccess = some (.read j (fetchAddress a got)) := by
  rw [Exporter.nextAccess, backs, fetches]
  simp only [slot]

theorem fetchAddress_eq (got : List Word) : fetchAddress a got = match got with | [] => a | [_] => a + 8 | [_, _] => a + 12 | _ => a + 16 := by
  unfold fetchAddress
  match got with
  | [] => rfl
  | [_] => rfl
  | [_, _] => rfl
  | _ :: _ :: _ :: _ => rfl

theorem nextAccess_record {r : Record} {n f : Nat} {w : Word} (backs : e.writeBacks = []) (fetches : e.fetchOrder = []) (full : e.buffer = some r)
    (writes : e.writePos = some n) (held : e.current = .held d) (fill : e.fillOffset = some f) (word : r.words[n]? = some w) :
    e.nextAccess = some (.record (d.bufAddr + BitVec.ofNat 32 (4 * (f + n))) w) := by
  rw [Exporter.nextAccess, backs, fetches, full, writes, held, fill]
  simp only [List.getD_eq_getElem?_getD, word, Option.getD_some]

/-! ### Words (R189) -/

theorem status_toNat (w : WriteBack) (used : w.used < 2 ^ 21) :
    w.status.toNat = w.used + (match w.cause with | .full => 1 | .flushed => 3) * 2 ^ 24 + 2 ^ 31 := by
  have packed (code : Nat) (small : code ≤ 3) : (packBits [(w.used, 0), (code, 24), (1, 31)]).toNat = w.used + code * 2 ^ 24 + 2 ^ 31 := by
    simp only [packBits, List.foldl_cons, List.foldl_nil, BitVec.toNat_ofNat, Nat.zero_add, Nat.pow_zero, Nat.mul_one, Nat.one_mul]
    rw [Nat.mod_eq_of_lt]
    omega
  rw [WriteBack.status]
  cases w.cause with
  | full => exact packed 1 (by decide)
  | flushed => exact packed 3 (by decide)

theorem bufferOk_eq (b : Word) (n : Nat) : bufferOk b n =
    (decide (b.toNat % 4 = 0) && decide (528 ≤ n) && decide (n ≤ 1048576) && decide (b.toNat + 4 * n ≤ 2 ^ 32)) := by
  rw [bufferOk, isAligned, Bool.beq_eq_decide_eq]

theorem presentSetOk_eq (p : Word) : presentSetOk p = (p.getLsbD 0 && p.getLsbD 1 && decide (p.toNat < 16)) := by
  have small : (p.toNat / 16 == 0) = decide (p.toNat < 16) := by
    rw [Bool.beq_eq_decide_eq, decide_eq_decide]
    omega
  rw [presentSetOk, small]

theorem judgeFetch_three_plain {p b n : Word} (h : p.getLsbD 2 = false) : judgeFetch a [p, b, n] =
    if bufferOk b n.toNat then .taken { addr := a, bufAddr := b, bufLen := n.toNat, nextAddr := none, notify := p.getLsbD 3 } else .refused :=
  if_neg (by rw [h]; nofun)

theorem judgeFetch_three_chained {p b n : Word} (h : p.getLsbD 2 = true) : judgeFetch a [p, b, n] = .reading := if_pos h

theorem judgeFetch_four {p b n x : Word} : judgeFetch a [p, b, n, x] =
    if bufferOk b n.toNat && isAligned x then
      .taken { addr := a, bufAddr := b, bufLen := n.toNat, nextAddr := some x, notify := p.getLsbD 3 } else .refused := rfl

/-! ### Events of the Export Engine -/

/-- An event that changes the Export Engine alone, with what follows in the same event (R164, R166, R167). -/
theorem State.Ready.onEngine {c : Instr} {g : State → State} (hs : s.Ready) (row : Machine.exec c s = .next (s.atEvent g))
    (effect : g s = { s with ex := e }) (queue : e.collectionQueue = s.ex.collectionQueue) (timeout : e.busTimeout = s.ex.busTimeout) :
    ∃ u, Machine.exec c s = .next u ∧ s.Happens u [.export_, .clock] ∧ e.Followed u := by
  have settled : State.linksSettled { s with ex := e } := linksSettled_congr hs.settled.linksSettled rfl rfl
  exact ⟨_, State.Ready.exec hs row effect, (happens_export (ex_frame s e queue timeout) (by decide) settled).mono (by simp),
    finish_followed { s with ex := e }⟩

/-! ### Reads accepted (R163) -/

theorem descriptorRead_other (data : Word) (h : ∀ x, s.ex.access = some x → ∀ j w, x.kind ≠ .read j w) : s.descriptorRead data = s := by
  unfold State.descriptorRead
  split
  · rename_i j w deadline access
    exact absurd rfl (h _ access j w)
  · rfl

/-- The engine whose access in flight has been accepted. -/
def Exporter.accepted (e : Exporter) : Exporter := { e with access := none }

theorem descriptorRead_read {data w : Word} {j : SlotId} {x : Access} (access : s.ex.access = some x) (kind : x.kind = .read j w) :
    s.descriptorRead data = { s with ex := s.ex.accepted.readAccepted j data } := by
  obtain ⟨kind', deadline⟩ := x
  obtain rfl : kind' = .read j w := kind
  rw [State.descriptorRead, access]
  rfl

section
variable {j : SlotId} {data : Word} {got : List Word}

theorem readAccepted_reading (slot : e.slot j = .fetching a got) (judged : judgeFetch a (got ++ [data]) = .reading) :
    e.readAccepted j data = e.setSlot j (.fetching a (got ++ [data])) := by
  rw [Exporter.readAccepted, slot]
  simp only [judged]

theorem readAccepted_refused (slot : e.slot j = .fetching a got) (judged : judgeFetch a (got ++ [data]) = .refused) :
    e.readAccepted j data = ({ (e.endFetch j).setSlot j .empty with badDescriptor := true } : Exporter).promoteNext := by
  rw [Exporter.readAccepted, slot]
  simp only [judged]

theorem readAccepted_next (slot : e.nextSlot = .fetching a got) (judged : judgeFetch a (got ++ [data]) = .taken d) :
    e.readAccepted .next data = ({ e.endFetch .next with nextSlot := .held d } : Exporter).promoteNext := by
  rw [Exporter.readAccepted, show e.slot .next = _ from slot]
  simp only [judged]
  rfl

/-- A fetch for the current slot that is taken makes its descriptor current, and no other can become current then. -/
theorem readAccepted_current (slot : e.current = .fetching a got) (judged : judgeFetch a (got ++ [data]) = .taken d) :
    e.readAccepted .current data = (e.endFetch .current).makeCurrent d := by
  have current (e : Exporter) : (e.makeCurrent d).current = .held d := by
    by_cases chained : ∃ a, d.nextAddr = some a ∧ e.nextSlot = .empty
    · obtain ⟨a, next, empty⟩ := chained
      rw [makeCurrent_fetches next empty]
    · rw [makeCurrent_plain fun a next empty => chained ⟨a, next, empty⟩]
  rw [Exporter.readAccepted, show e.slot .current = _ from slot]
  simp only [judged]
  refine promoteNext_idle (Or.inl ?_)
  rw [current]
  nofun

end

/-! ### Write-backs accepted and the bus timeout (R164, R169) -/

theorem statusWordIn_other (h : ∀ x, s.ex.access = some x → ∀ y w, x.kind ≠ .status y w) : s.statusWordIn = s := by
  unfold State.statusWordIn
  split
  · rename_i y w deadline access
    exact absurd rfl (h _ access y w)
  · rfl

/-- The oldest write-back has left the list. -/
def State.writeBackTaken (s : State) (rest : List WriteBack) : State := { s with ex := { s.ex with access := none, writeBacks := rest } }

/-- The end of a write-back raises BUFFER_CLOSED when its notify flag was set (R169). -/
def State.writeBackEnded (s : State) (w : WriteBack) (rest : List WriteBack) : State :=
  if w.notify then (s.writeBackTaken rest).raise 13 else s.writeBackTaken rest

theorem statusWordIn_status {x : Access} {y z : Word} {w : WriteBack} {rest : List WriteBack} (access : s.ex.access = some x)
    (kind : x.kind = .status y z) (backs : s.ex.writeBacks = w :: rest) : s.statusWordIn = s.writeBackEnded w rest := by
  obtain ⟨kind', deadline⟩ := x
  obtain rfl : kind' = .status y z := kind
  have backs' : s.clearAccess.ex.writeBacks = w :: rest := backs
  rw [State.statusWordIn, access]
  simp only [State.writeBackDone, backs']
  rfl

theorem writeBackEnded_ex (w : WriteBack) (rest : List WriteBack) : (s.writeBackEnded w rest).ex = { s.ex with access := none, writeBacks := rest } := by
  unfold State.writeBackEnded
  split <;> rfl

theorem writeBackEnded_frame (s : State) (w : WriteBack) (rest : List WriteBack) : FrameBut [.export_, .pendingSet] s (s.writeBackEnded w rest) := by
  have taken : FrameBut [.export_] s (s.writeBackTaken rest) := ex_frame s _ rfl rfl
  exact frame_ite (taken.then (raise_frame _ 13) (by simp)) (taken.mono (by simp))

theorem writeBackEnded_getLsbD (w : WriteBack) (rest : List WriteBack) (n : Fin 16) :
    (s.writeBackEnded w rest).att.pendingSet.getLsbD n.val = (s.att.pendingSet.getLsbD n.val || (n == 13 && w.notify)) := by
  unfold State.writeBackEnded
  cases w.notify with
  | false => simp [State.writeBackTaken]
  | true =>
    refine (raise_getLsbD (s.writeBackTaken rest) 13 n).trans ?_
    rw [Bool.and_true]
    rfl

theorem busExpired_none (h : s.ex.access = none) : s.busExpired = s := by rw [State.busExpired, h]

theorem busExpired_some {x : Access} (h : s.ex.access = some x) :
    s.busExpired = ({ s with ex := { s.ex with access := none, stall := some x.kind.stall } } : State).clockAt x.deadline := by
  rw [State.busExpired, h]

/-- A STALLED engine with no access in flight begins no assembly and takes no access; a record that waits for no descriptor does not begin. -/
theorem stalled_atRest (h : e.atRest) (k : Stall) : ({ e with access := none, stall := some k } : Exporter).atRest where
  write := (beginWrite_fix _).mpr ((beginWrite_fix e).mp h.write)
  assembly := beginAssembly_idle (Or.inr (Or.inr (Or.inr (by nofun))))
  initiator := fun _ runs => by cases runs

end

end Sys2Proof.Machine

open Sys2Proof Sys2Proof.Machine

/-- Settles O44. -/
theorem descriptorsAreFetchedAhead : Obligations.DescriptorsAreFetchedAhead := by
  unfold Obligations.DescriptorsAreFetchedAhead
  refine ⟨fun e => ⟨beginWrite_idle, fun r d => beginWrite_begins⟩, fun e => ⟨beginAssembly_idle, fun i rest => beginAssembly_begins⟩,
    fun e => nextAccess_none, fun e => promoteNext_idle, fun e d => promoteNext_last, fun e d a => promoteNext_chained, fun e w rest => nextAccess_status,
    status_toNat, fun e j rest a got backs fetches slot => ?_, fun e r n f d w => nextAccess_record, fun a p b n x => ⟨?_, rfl, ?_, ?_⟩,
    fun s data hs other => hs.ignores rfl (descriptorRead_other data other), fun s data a x j w got hs access kind slot => ?_⟩
  · have same : e.slot j = .fetching a got := by cases j <;> exact slot
    exact (nextAccess_read backs fetches same).trans (congrArg (fun x => some (AccessKind.read j x)) (fetchAddress_eq got))
  · rw [← presentSetOk_eq]
    rfl
  · intro plain
    rw [judgeFetch_three_plain plain, ← bufferOk_eq, plain]
    rfl
  · intro chained
    refine ⟨judgeFetch_three_chained chained, ?_⟩
    rw [judgeFetch_four, ← bufferOk_eq, chained, isAligned, Bool.beq_eq_decide_eq]
    rfl
  · have same : s.ex.accepted.slot j = .fetching a got := by cases j <;> exact slot
    have kept := holdings_kept (readAccepted_holdings s.ex.accepted j data)
    obtain ⟨u, run, happens, followed⟩ := hs.onEngine (c := .descriptorReadAccepted data) (g := fun t => t.descriptorRead data) rfl (descriptorRead_read access kind) kept.1 kept.2
    refine ⟨u, run, happens, fun reading => ?_, fun refused => ?_, fun d taken => ⟨fun next => ?_, fun current plain => ?_, fun n current chained empty => ?_⟩⟩
    · rw [readAccepted_reading same reading] at followed
      cases j <;> exact followed
    · rw [readAccepted_refused same refused] at followed
      cases j <;> exact followed
    · subst next
      rwa [readAccepted_next (e := s.ex.accepted) slot taken] at followed
    · subst current
      rwa [readAccepted_current (e := s.ex.accepted) slot taken, makeCurrent_plain (e := s.ex.accepted.endFetch .current) plain] at followed
    · subst current
      rwa [readAccepted_current (e := s.ex.accepted) slot taken, makeCurrent_fetches (e := s.ex.accepted.endFetch .current) chained empty] at followed

/-- Settles O46. -/
theorem writeBackAndBusTimeout : Obligations.WriteBackAndBusTimeout := by
  unfold Obligations.WriteBackAndBusTimeout
  refine ⟨fun s hs other => hs.ignores rfl (statusWordIn_other other), fun s a x y w rest hs access kind backs => ?_,
    fun s hs idle => hs.ignores rfl (busExpired_none idle), fun s a hs access => ?_⟩
  · have settled : (s.writeBackEnded w rest).linksSettled := by
      have frame := writeBackEnded_frame s w rest
      exact linksSettled_congr hs.settled.linksSettled (frame .sites (by decide)) (frame .links (by decide))
    refine ⟨_, hs.exec rfl (statusWordIn_status access kind backs), ?_, finish_sources fun n _ other => ?_, ?_, ?_⟩
    · exact (writeBackEnded_frame s w rest).then (finish_frame_export settled) (by simp)
    · have unlike : (n == 13) = false := beq_eq_false_iff_ne.mpr fun same => other (by rw [same]; decide)
      rw [writeBackEnded_getLsbD, unlike, Bool.false_and, Bool.or_false]
    · have kept := finish_sources (s := s.writeBackEnded w rest) (t := s.writeBackEnded w rest) (raised := []) fun _ _ _ => rfl
      refine (kept.events 13 (by decide) (by simp)).trans ((writeBackEnded_getLsbD w rest 13).trans ?_)
      rfl
    · have followed := finish_followed (s.writeBackEnded w rest)
      rwa [writeBackEnded_ex] at followed
  · have rest := stalled_atRest hs.atRest a.kind.stall
    have stalled : FrameBut [.export_] s { s with ex := { s.ex with access := none, stall := some a.kind.stall } } := ex_frame s _ rfl rfl
    have frame := stalled.then (clockAt_frame _ a.deadline) (c := [.export_, .clock]) (by simp)
    refine ⟨_, hs.exec rfl (busExpired_some access), ?_, ?_, ?_⟩
    · exact happens_quiet frame (by decide) (linksSettled_congr hs.settled.linksSettled rfl rfl) rest
    · exact finish_now_of_rest rest
    · refine (finish_ex_of_rest rest).trans ?_
      show ({ s.ex with access := none, stall := some a.kind.stall } : Exporter) = _
      cases a.kind <;> rfl

end

section
/-! The arbiter: which grant comes next, and the completion of a work item (R63 to R67). -/

namespace Sys2Proof.Machine

section
variable {s : State}

/-! ### The head an intake grant chooses (R67) -/

theorem rotation_place (j last : HeadNo) : j + last + 1 - last - 1 = j := by
  revert j last
  decide

theorem rotation_head (k last : HeadNo) : k - last - 1 + last + 1 = k := by
  revert k last
  decide

/-- The first head in rotation that meets a test. -/
theorem find_rotation {last h : HeadNo} {p : HeadNo → Bool} (found : (rotation last).find? p = some h) :
    p h = true ∧ ∀ k, p k = true → (h - last - 1).val ≤ (k - last - 1).val := by
  rw [rotation, heads, List.find?_map, Option.map_eq_some_iff] at found
  obtain ⟨j, first, rfl⟩ := found
  rw [List.find?_eq_some_iff_getElem] at first
  obtain ⟨meets, n, hn, place, before⟩ := first
  obtain rfl : n = j.val := by rw [← place]; simp
  refine ⟨meets, fun k hk => Nat.le_of_not_lt fun lower => ?_⟩
  rw [rotation_place] at lower
  have earlier := before (k - last - 1).val lower
  simp [rotation_head, hk] at earlier

theorem find_rotation_none {last : HeadNo} {p : HeadNo → Bool} (h : (rotation last).find? p = none) (k : HeadNo) : p k = false := by
  rw [rotation, heads, List.find?_map, Option.map_eq_none_iff, List.find?_eq_none] at h
  have missed := h (k - last - 1) (List.mem_finRange _)
  rw [Function.comp_apply, rotation_head] at missed
  exact Bool.eq_false_iff.mpr missed

theorem isUrgent_iff (l : Link) : l.isUrgent = true ↔ 48 ≤ l.fifo.length := decide_eq_true_iff

theorem hasItem_iff (l : Link) : l.hasItem = true ↔ l.fifo ≠ [] ∨ l.marker = true := by simp [Link.hasItem]

theorem hasItem_of_urgent {l : Link} (h : l.isUrgent = true) : l.hasItem = true := by
  rw [isUrgent_iff] at h
  rw [hasItem_iff]
  refine Or.inl fun empty => ?_
  rw [empty] at h
  cases h

/-- A head is chosen among the urgent ones if there are any, else among those with an item. -/
theorem chooseHead_cases {h : HeadNo} (chosen : s.chooseHead = some h) :
    (rotation s.engine.lastHead).find? (fun h => (s.link h).isUrgent) = some h ∨
      ((∀ k, (s.link k).isUrgent = false) ∧ (rotation s.engine.lastHead).find? (fun h => (s.link h).hasItem) = some h) := by
  unfold State.chooseHead at chosen
  split at chosen
  · rename_i k urgent
    exact Or.inl (by rw [urgent, chosen])
  · rename_i calm
    exact Or.inr ⟨fun k => find_rotation_none calm k, chosen⟩

theorem chooseHead_none : s.chooseHead = none ↔ ∀ h, (s.link h).hasItem = false := by
  unfold State.chooseHead
  constructor
  · intro h
    split at h
    · cases h
    · exact fun k => find_rotation_none h k
  · intro empty
    have calm : (rotation s.engine.lastHead).find? (fun h => (s.link h).isUrgent) = none :=
      List.find?_eq_none.mpr fun k _ urgent => Bool.false_ne_true ((empty k).symm.trans (hasItem_of_urgent urgent))
    rw [calm]
    exact List.find?_eq_none.mpr fun k _ item => Bool.false_ne_true ((empty k).symm.trans item)

theorem chooseHead_some (h : ∃ h, (s.link h).fifo ≠ [] ∨ (s.link h).marker = true) : ∃ h, s.chooseHead = some h := by
  obtain ⟨k, item⟩ := h
  refine Option.ne_none_iff_exists'.mp fun none_ => ?_
  exact Bool.false_ne_true ((chooseHead_none.mp none_ k).symm.trans ((hasItem_iff _).mpr item))

theorem chooseHead_empty (h : ¬ ∃ h, (s.link h).fifo ≠ [] ∨ (s.link h).marker = true) : s.chooseHead = none :=
  chooseHead_none.mpr fun k => Bool.eq_false_iff.mpr fun item => h ⟨k, (hasItem_iff _).mp item⟩

/-! ### The next grant (R65, R66) -/

theorem backgroundDue_eq : s.backgroundDue = if s.lists.sweepQueue ≠ [] then .sweep else if s.engine.settleList ≠ [] then .settle else .nothing := by
  unfold State.backgroundDue
  cases s.lists.sweepQueue <;> cases s.engine.settleList <;> rfl

theorem nextGrant_of_request {r : Request} (h : s.engine.pendingHost = some r) : s.nextGrant = .host r := by rw [State.nextGrant, h]

theorem nextGrant_groups (host : s.engine.pendingHost = none) : s.nextGrant = match s.chooseHead with
    | none => s.backgroundDue
    | some h => if s.backgroundDue = .nothing ∨ s.engine.lastGroup = .background then .intake h else s.backgroundDue := by
  rw [State.nextGrant, host]
  cases s.chooseHead with
  | none => cases s.backgroundDue <;> rfl
  | some h => cases s.backgroundDue <;> simp

theorem nextGrant_quiet (host : s.engine.pendingHost = none) (background : s.backgroundDue = .nothing) (head : s.chooseHead = none) :
    s.nextGrant = .nothing := by
  rw [nextGrant_groups host, head, background]

theorem nextGrant_background (host : s.engine.pendingHost = none) (background : s.backgroundDue ≠ .nothing)
    (turn : s.chooseHead = none ∨ s.engine.lastGroup = .intake) : s.nextGrant = s.backgroundDue := by
  rw [nextGrant_groups host]
  cases head : s.chooseHead with
  | none => rfl
  | some h =>
    refine if_neg ?_
    rintro (none_ | own)
    · exact background none_
    · rcases turn with empty | intake
      · rw [head] at empty
        cases empty
      · rw [intake] at own
        cases own

theorem nextGrant_intake {h : HeadNo} (host : s.engine.pendingHost = none) (chosen : s.chooseHead = some h)
    (turn : s.backgroundDue = .nothing ∨ s.engine.lastGroup = .background) : s.nextGrant = .intake h := by
  rw [nextGrant_groups host, chosen]
  exact if_pos turn

/-! ### The completion of a work item (R63, R65) -/

/-- No work item is in progress any more. -/
def State.itemEnded (s : State) : State := { s with engine := { s.engine with inProgress := none } }

theorem itemEnded_idle (h : s.engine.inProgress = none) : s.itemEnded = s := by
  have same : ({ s.engine with inProgress := none } : Engine) = s.engine := by rw [← h]
  rw [State.itemEnded, same]

theorem itemEnded_frame (s : State) : FrameBut [.workItem] s s.itemEnded := by
  intro b hb
  cases b <;> simp_all [Block.same, State.itemEnded]

theorem workItemDone_plain (h : ∀ reply, s.engine.inProgress ≠ some (.host reply)) : s.workItemDone = s.itemEnded := by
  unfold State.workItemDone
  split
  · rename_i reply item
    exact absurd item (h reply)
  · rfl

theorem workItemDone_host {reply : Reply} (h : s.engine.inProgress = some (.host reply)) : s.workItemDone = s.itemEnded.postReply reply := by
  rw [State.workItemDone, h]
  rfl

theorem itemEnded_settled (hs : s.Settled) : s.itemEnded.Settled := settled_of_port hs s.port _

end

end Sys2Proof.Machine

open Sys2Proof Sys2Proof.Machine

/-- Settles O48. -/
theorem arbiterAlternatesGroups : Obligations.ArbiterAlternatesGroups := by
  unfold Obligations.ArbiterAlternatesGroups
  refine ⟨fun s => ⟨fun stopped => ?_, fun running free => ?_⟩, fun s => ⟨fun r => nextGrant_of_request, fun host quiet empty => ?_,
    fun host busy turn => ?_, fun host items turn => ?_⟩, fun s h chosen => ?_, fun s hs => ⟨fun free => ?_, fun w item plain => ?_, fun reply item => ?_⟩⟩
  · refine if_pos ?_
    rcases stopped with held | item
    · rw [held, Bool.true_or]
    · rw [Option.isSome_iff_ne_none.mpr item, Bool.or_true]
  · refine if_neg ?_
    rw [running, free]
    nofun
  · obtain ⟨sweep, settle⟩ := not_or.mp quiet
    refine nextGrant_quiet host ?_ (chooseHead_empty empty)
    rw [backgroundDue_eq, if_neg sweep, if_neg settle]
  · have due : s.backgroundDue = if s.lists.sweepQueue ≠ [] then .sweep else .settle := by
      rw [backgroundDue_eq]
      split
      · rfl
      · rename_i none_
        exact if_pos (busy.resolve_left none_)
    rw [nextGrant_background host ?_ (turn.imp_left chooseHead_empty), due]
    rw [due]
    split <;> nofun
  · obtain ⟨h, chosen⟩ := chooseHead_some items
    refine ⟨h, chosen, nextGrant_intake host chosen (turn.imp_left fun quiet => ?_)⟩
    obtain ⟨sweep, settle⟩ := not_or.mp quiet
    rw [backgroundDue_eq, if_neg sweep, if_neg settle]
  · rcases chooseHead_cases chosen with urgent | ⟨calm, item⟩
    · obtain ⟨meets, least⟩ := find_rotation urgent
      refine ⟨⟨(hasItem_iff _).mp (hasItem_of_urgent meets), fun _ => (isUrgent_iff _).mp meets⟩, fun k eligible => ?_⟩
      exact least k ((isUrgent_iff _).mpr (eligible.2 ⟨h, (isUrgent_iff _).mp meets⟩))
    · obtain ⟨meets, least⟩ := find_rotation item
      refine ⟨⟨(hasItem_iff _).mp meets, fun ⟨j, urgent⟩ => ?_⟩, fun k eligible => least k ((hasItem_iff _).mpr eligible.1)⟩
      exact absurd ((isUrgent_iff _).mpr urgent) (Bool.eq_false_iff.mp (calm j))
  · have plain (reply : Reply) : s.engine.inProgress ≠ some (.host reply) := by
      rw [free]
      nofun
    exact hs.ignores rfl ((workItemDone_plain plain).trans (itemEnded_idle free))
  · have done := workItemDone_plain (s := s) fun reply host => plain reply (Option.some.inj (item.symm.trans host))
    exact (hs.exec rfl done).trans (congrArg Host.Outcome.next (finish_of_settled (itemEnded_settled hs.settled)))
  · have ended := itemEnded_settled hs.settled
    have quiet : FrameBut [.pendingSet] (s.itemEnded.postReply reply) (s.itemEnded.postReply reply).finish :=
      finish_frame_quiet (linksSettled_congr ended.linksSettled rfl rfl) ended.exportAtRest
    have posted := (itemEnded_frame s).then (postReply_frame s.itemEnded reply) (c := [.workItem, .portState, .replyBuf, .pendingSet]) (by simp)
    refine ⟨_, hs.exec rfl (workItemDone_host item), postReply_posted _ _, ?_, postReply_sources (s := s) (t := s.itemEnded) rfl reply,
      posted.then quiet (by simp)⟩
    rw [finish_engine]
    rfl

end

section
/-! Grants of the intake and background groups (R63, R66, R69), and the END and HOLD frames and the link-lost marker at theirs (R81 to R83). -/

namespace Sys2Proof.Machine

section
variable {s t : State} {h : HeadNo}

/-! ### Work items -/

/-- A work item is in progress, and the rotation has moved on (R63, R66, R67). -/
def State.granted (s : State) (w : WorkItem) (g : Group) (k : HeadNo) : State :=
  { s with engine := { s.engine with inProgress := some w, lastGroup := g, lastHead := k } }

theorem granted_frame (s : State) (w : WorkItem) (g : Group) (k : HeadNo) : FrameBut [.workItem, .rotation] s (s.granted w g k) := by
  intro b hb
  cases b <;> simp_all [Block.same, State.granted]

/-- A grant of the engine, with what follows in the same event on the blocks `followed`. -/
theorem granted_works {w : WorkItem} {k : HeadNo} {changed followed all : List Block} (head : w ≠ .intake → k = s.engine.lastHead)
    (hf : FrameBut changed s t) (hp : Block.pendingSet ∉ changed)
    (after : FrameBut (.pendingSet :: followed) (t.granted w (if w = .intake then .intake else .background) k)
      (t.granted w (if w = .intake then .intake else .background) k).finish)
    (hall : ∀ b, b ∈ changed ++ followed → b ∈ all) :
    s.Works (t.granted w (if w = .intake then .intake else .background) k).finish w all where
  item := by rw [finish_engine]; rfl
  group := by rw [finish_engine]; rfl
  head other := by rw [finish_engine]; exact head other
  sources := finish_sources fun n _ _ => by rw [← hf.pendingSet hp]; rfl
  frame := by
    refine (hf.then (granted_frame t w _ k) (fun _ hb => hb)).then after fun b hb => ?_
    have := hall b
    simp only [List.mem_append, List.mem_cons, List.not_mem_nil, or_false] at hb this ⊢
    grind

/-- A grant of the intake group leaves the links and nothing else to the end of the event. -/
theorem intake_works {changed all : List Block} (hf : FrameBut changed s t) (hp : Block.pendingSet ∉ changed) (rest : t.ex.atRest)
    (hall : ∀ b, b ∈ changed ++ [.links] → b ∈ all) : s.Works (t.granted .intake .intake h).finish .intake all :=
  granted_works (w := .intake) (followed := [.links]) (fun other => absurd rfl other) hf hp
    ((finish_frame_links (s := t.granted .intake .intake h) rest).mono (by simp)) hall

/-! ### An item taken at an intake grant (R69, R152) -/

theorem catchUp_intake (due : s.due = .intake h) : s.catchUp = ((s.takeItem h).granted .intake .intake h).finish := by
  rw [catchUp_of_due due nofun]
  rfl

/-- A frame has left the FIFO and its credit is returned (R69, R152). -/
def Link.popped (l : Link) (rest : List UpFrame) : Link :=
  { l with fifo := rest, downCredit := if l.state = .up then some (l.downCredit.getD 0 + 1) else l.downCredit }

theorem popFrame_popped {l : Link} {f : UpFrame} {rest : List UpFrame} (fifo : l.fifo = f :: rest) : l.popFrame = l.popped rest := by
  unfold Link.popFrame Link.popped Link.returnCredit
  rw [fifo]
  by_cases up : l.state = .up
  · simp [up]
  · simp [up]

/-- The head's oldest frame has been taken from its FIFO. -/
def State.framePopped (s : State) (h : HeadNo) (rest : List UpFrame) : State := s.modLink h fun l => l.popped rest

theorem modLink_congr {f g : Link → Link} (same : f (s.link h) = g (s.link h)) : s.modLink h f = s.modLink h g := by
  rw [State.modLink, State.modLink, same]

theorem popFrame_framePopped {f : UpFrame} {rest : List UpFrame} (fifo : (s.link h).fifo = f :: rest) : s.modLink h Link.popFrame = s.framePopped h rest :=
  modLink_congr (popFrame_popped fifo)

theorem takeItem_end {slot : SlotNo} {rest : List UpFrame} (fifo : (s.link h).fifo = .endFrame slot :: rest) :
    s.takeItem h = (s.framePopped h rest).takeEnd h slot := by
  rw [State.takeItem, fifo, ← popFrame_framePopped fifo]

theorem takeItem_hold {slot : SlotNo} {on : Bool} {rest : List UpFrame} (fifo : (s.link h).fifo = .hold slot on :: rest) :
    s.takeItem h = (s.framePopped h rest).takeHold h slot on := by
  rw [State.takeItem, fifo, ← popFrame_framePopped fifo]

theorem takeItem_marker (fifo : (s.link h).fifo = []) (marker : (s.link h).marker = true) :
    s.takeItem h = (s.modLink h fun l => { l with marker := false }).linkLostCompletion h := by
  rw [State.takeItem, fifo]
  exact if_pos marker

theorem exec_end_of_due {slot : SlotNo} {rest : List UpFrame} (due : s.due = .intake h) (fifo : (s.link h).fifo = .endFrame slot :: rest) :
    exec .endTaken s = .next s.catchUp := by
  have row := exec_intake_of_due due
  rwa [fifo] at row

theorem exec_hold_of_due {slot : SlotNo} {on : Bool} {rest : List UpFrame} (due : s.due = .intake h) (fifo : (s.link h).fifo = .hold slot on :: rest) :
    exec .holdTaken s = .next s.catchUp := by
  have row := exec_intake_of_due due
  rwa [fifo] at row

theorem exec_marker_of_due (due : s.due = .intake h) (fifo : (s.link h).fifo = []) : exec .linkLostMarkerTaken s = .next s.catchUp := by
  have row := exec_intake_of_due due
  rwa [fifo] at row

/-! ### The link-lost marker (R32, R83) -/

/-- A site that the link-lost marker moves on (R32). -/
def State.lostSite (s : State) (i : SiteNo) : Bool := (s.ctx i).any fun c => c.flags.linkLost && (c.phase == .testing || c.phase == .draining)

theorem linkLostCompletion_eq (s : State) (h : HeadNo) :
    s.linkLostCompletion h = (sitesOf h).foldl (fun t i => if t.lostSite i = true then t.toSweeping i else t) s := by
  have step : (fun (t : State) i => match t.ctx i with
      | some c => if c.flags.linkLost ∧ (c.phase = .testing ∨ c.phase = .draining) then t.toSweeping i else t
      | none => t) = fun t i => if t.lostSite i = true then t.toSweeping i else t := by
    funext t i
    rw [State.lostSite]
    cases t.ctx i with
    | none => rfl
    | some c => simp
  exact congrArg (fun f => (sitesOf h).foldl f s) step

theorem toSweeping_lostSite {i j : SiteNo} (other : j ≠ i) : (s.toSweeping i).lostSite j = s.lostSite j := by
  rw [State.lostSite, State.ctx, toSweeping_site, if_neg other]
  rfl

/-- A site moved to SWEEPING with its drain deadline dropped (R32). -/
def Site.swept (x : Site) : Site := { x with ctx := x.ctx.map fun c => { c with phase := .sweeping }, drainDeadline := none }

theorem lostSites_swept (l : List SiteNo) (nodup : l.Nodup) (s : State) :
    (∀ i, (l.foldl (fun t i => if t.lostSite i = true then t.toSweeping i else t) s).site i =
      if i ∈ l ∧ s.lostSite i = true then (s.site i).swept else s.site i) ∧
    (l.foldl (fun t i => if t.lostSite i = true then t.toSweeping i else t) s).lists.sweepQueue = s.lists.sweepQueue ++ l.filter s.lostSite := by
  induction l generalizing s with
  | nil => exact ⟨fun i => rfl, (List.append_nil _).symm⟩
  | cons j l ih =>
    obtain ⟨fresh, rest⟩ := List.nodup_cons.mp nodup
    rw [List.foldl_cons]
    by_cases lost : s.lostSite j = true
    · rw [if_pos lost]
      obtain ⟨sites, queue⟩ := ih rest (s.toSweeping j)
      refine ⟨fun i => ?_, ?_⟩
      · rw [sites, toSweeping_site]
        by_cases same : i = j
        · subst same
          rw [if_neg fun both => fresh both.1, if_pos rfl, if_pos ⟨List.mem_cons_self, lost⟩]
          rfl
        · rw [toSweeping_lostSite same, if_neg same]
          simp only [List.mem_cons, same, false_or]
      · have later : l.filter (s.toSweeping j).lostSite = l.filter s.lostSite :=
          List.filter_congr fun i hi => toSweeping_lostSite fun same => fresh (same ▸ hi)
        have moved : (s.toSweeping j).lists.sweepQueue = s.lists.sweepQueue ++ [j] := rfl
        rw [queue, later, moved, List.filter_cons, if_pos lost, List.append_assoc, List.singleton_append]
    · rw [if_neg lost]
      obtain ⟨sites, queue⟩ := ih rest s
      refine ⟨fun i => ?_, by rw [queue, List.filter_cons, if_neg lost]⟩
      rw [sites]
      by_cases same : i = j
      · subst same
        rw [if_neg fun both => lost both.2, if_neg fun both => lost both.2]
      · simp only [List.mem_cons, same, false_or]

theorem sitesOf_nodup (h : HeadNo) : (sitesOf h).Nodup :=
  List.Pairwise.map _ (fun a b apart same => apart ((slotOf_siteOf h a).symm.trans ((congrArg slotOf same).trans (slotOf_siteOf h b))))
    (List.nodup_finRange 32)

theorem linkLostCompletion_frame (s : State) (h : HeadNo) : FrameBut [.sites, .sweepQueue] s (s.linkLostCompletion h) := by
  rw [linkLostCompletion_eq]
  exact frame_foldl _ (fun t i => frame_ite (toSweeping_frame t i) (FrameBut.refl t _)) _ s

theorem framePopped_frame (s : State) (h : HeadNo) (rest : List UpFrame) : FrameBut [.links] s (s.framePopped h rest) := modLink_frame s h _

theorem framePopped_link (rest : List UpFrame) (k : HeadNo) :
    (s.framePopped h rest).link k = if k = h then (s.link k).popped rest else s.link k := by
  rw [State.framePopped, modLink_link]
  split
  · rename_i same
    rw [same]
  · rfl

/-- A frame has been taken and one more cause is pending (R156). -/
theorem framePopped_addCause_link (rest : List UpFrame) (c : LinkCause) (k : HeadNo) : ((s.framePopped h rest).addCause h c).link k =
    if k = h then { (s.link k).popped rest with causes := (s.link k).causes.add c } else s.link k := by
  rw [State.addCause, modLink_link, framePopped_link, framePopped_link]
  split
  · rename_i same
    rw [same, if_pos rfl]
    rfl
  · rfl

/-! ### END and HOLD frames (R81, R82) -/

theorem takeEnd_draining {slot : SlotNo} (state : s.siteState (siteOf h slot) = .draining) : s.takeEnd h slot = s.toSweeping (siteOf h slot) := by
  rw [State.takeEnd, state]

theorem takeEnd_late {slot : SlotNo} (state : s.siteState (siteOf h slot) ∈ [.sweeping, .held]) : s.takeEnd h slot = s.addCause h .late := by
  unfold State.takeEnd
  split <;> simp_all

theorem takeEnd_stray {slot : SlotNo} (state : s.siteState (siteOf h slot) ∈ [.vacant, .armed, .testing]) : s.takeEnd h slot = s.addCause h .stray := by
  unfold State.takeEnd
  split <;> simp_all

end

/-! ### Intake grants that change links and sites -/

section
variable {s t : State} {h : HeadNo} {c : Instr} {changed all : List Block} {f : HeadNo → Link → Link}

/-- What an intake grant comes to when its effect is that of `t` and the links follow. -/
theorem intake_grant (due : s.due = .intake h) (row : exec c s = .next s.catchUp) (taken : s.takeItem h = t) (rest : s.ex.atRest)
    (hf : FrameBut changed s t) (outside : ∀ b ∈ changed, b ∈ ([.links, .sites, .sweepQueue] : List Block))
    (hall : ∀ b, b ∈ changed ++ [.links] → b ∈ all) (links : ∀ k, t.link k = f k (s.link k)) :
    ∃ u, exec c s = .next u ∧ s.Works u .intake all ∧ u.engine.lastHead = h ∧ s.LinksFollow u f ∧ (∀ i, u.site i = t.site i) ∧
      u.lists.sweepQueue = t.lists.sweepQueue ∧ ∀ k, u.gateSet k = t.gateSet k := by
  have apart (b : Block) (hb : b ∉ ([.links, .sites, .sweepQueue] : List Block)) : b ∉ changed := fun mem => hb (outside b mem)
  have ex : t.ex = s.ex := hf.ex (apart _ (by decide)) (apart _ (by decide)) (apart _ (by decide))
  refine ⟨(t.granted .intake .intake h).finish, ?_, intake_works hf (apart _ (by decide)) (by rw [ex]; exact rest) hall, ?_, ?_, fun i => ?_, ?_, fun k => ?_⟩
  · rw [row, catchUp_intake due, taken]
  · rw [finish_engine]
    rfl
  · exact finish_linksFollow s (t.granted .intake .intake h) f links
  · rw [finish_site]
    rfl
  · rw [finish_lists]
    rfl
  · rw [finish_gateSet]
    rfl

end

end Sys2Proof.Machine

open Sys2Proof Sys2Proof.Machine

/-- Settles O54. -/
theorem endHoldAndMarkerTaken : Obligations.EndHoldAndMarkerTaken := by
  unfold Obligations.EndHoldAndMarkerTaken
  refine ⟨fun s h slot rest hs due fifo => ⟨fun c hc phase => ?_, fun state => ?_, fun state => ?_⟩, fun s h slot on rest hs due fifo => ?_,
    fun s h hs due fifo marker => ?_⟩
  · have state : (s.framePopped h rest).siteState (siteOf h slot) = .draining := by
      refine (siteState_of_ctx (s := s.framePopped h rest) hc).trans ?_
      rw [phase]
      rfl
    obtain ⟨u, run, works, last, links, sites, queue, -⟩ := intake_grant (all := [.links, .sites, .sweepQueue])
      (f := fun k l => if k = h then l.popped rest else l) due (exec_end_of_due due fifo)
      ((takeItem_end fifo).trans (takeEnd_draining state)) hs.exportAtRest
      ((framePopped_frame s h rest).then (toSweeping_frame _ _) (fun _ hb => hb)) (by decide) (by decide) (framePopped_link rest)
    refine ⟨u, run, works, last, ?_, fun j other => ?_, queue, links⟩
    · have before : ((s.framePopped h rest).site (siteOf h slot)).ctx = some c := hc
      rw [sites, toSweeping_site, if_pos rfl, State.ctx, before]
      rfl
    · rw [sites, toSweeping_site, if_neg other]
      rfl
  · obtain ⟨u, run, works, last, links, -, -, -⟩ := intake_grant (all := [.links]) due (exec_end_of_due due fifo)
      ((takeItem_end fifo).trans (takeEnd_late (s := s.framePopped h rest) state)) hs.exportAtRest
      ((framePopped_frame s h rest).then (modLink_frame _ h _) (c := [.links]) (by simp)) (by decide) (by decide) (framePopped_addCause_link rest .late)
    exact ⟨u, run, works, last, links⟩
  · obtain ⟨u, run, works, last, links, -, -, gates⟩ := intake_grant (all := [.links]) due (exec_end_of_due due fifo)
      ((takeItem_end fifo).trans (takeEnd_stray (s := s.framePopped h rest) state)) hs.exportAtRest
      ((framePopped_frame s h rest).then (modLink_frame _ h _) (c := [.links]) (by simp)) (by decide) (by decide) (framePopped_addCause_link rest .stray)
    refine ⟨u, run, works, last, (gates h).trans ?_, links⟩
    refine gateSet_congr (s := s) (t := (s.framePopped h rest).addCause h .stray) rfl h ?_
    rw [framePopped_addCause_link, if_pos rfl]
    rfl
  · obtain ⟨u, run, works, last, links, sites, -, -⟩ := intake_grant (all := [.links, .sites]) (f := fun k l => if k = h then l.popped rest else l) due
      (exec_hold_of_due due fifo) (takeItem_hold fifo) hs.exportAtRest
      ((framePopped_frame s h rest).then (modSite_frame _ _ _) (fun _ hb => hb)) (by decide) (by decide) (framePopped_link rest)
    refine ⟨u, run, works, last, ?_, fun j other => ?_, links⟩
    · rw [sites, State.takeHold, modSite_site_self]
      rfl
    · rw [sites, State.takeHold, modSite_site_ne other]
      rfl
  · have taken := takeItem_marker fifo marker
    obtain ⟨sites, queue⟩ := lostSites_swept (sitesOf h) (sitesOf_nodup h) (s.modLink h fun l => { l with marker := false })
    rw [← linkLostCompletion_eq] at sites queue
    have links (k : HeadNo) : ((s.modLink h fun l => { l with marker := false }).linkLostCompletion h).link k =
        if k = h then { s.link k with marker := false } else s.link k := by
      have kept : ((s.modLink h fun l => { l with marker := false }).linkLostCompletion h).link k = (s.modLink h fun l => { l with marker := false }).link k := by
        simp [State.link]
      rw [kept, modLink_link]
      split
      · rename_i same
        rw [same]
      · rfl
    obtain ⟨u, run, works, last, follow, moved, queued, -⟩ := intake_grant (all := [.links, .sites, .sweepQueue])
      (f := fun k l => if k = h then { l with marker := false } else l) due (exec_marker_of_due due fifo) taken
      hs.exportAtRest ((modLink_frame s h _).then (linkLostCompletion_frame _ h) (fun _ hb => hb)) (by decide) (by decide) links
    refine ⟨u, run, works, last, ?_, fun i => ?_, ?_, follow⟩
    · rw [follow h, finished_marker]
      exact congrArg Link.marker (if_pos rfl)
    · rw [moved, sites]
      simp only [mem_sitesOf]
      rfl
    · rw [queued, queue]
      rfl

end

section
/-! Grants of host requests (R65), the low indication over takes and frees (R51, R52, R56), and the contexts that become current and the sites
that are freed (R6, R8, R16, R17, R19, R55). -/

namespace Sys2Proof.Machine

/-! ### Grants of host requests (R65) -/

section
variable {s t : State} {r : Request} {c : Instr} {reply : Reply} {changed followed all : List Block}

theorem State.HostDue.exec (hd : s.HostDue r) (row : Machine.exec c s = .next s.catchUp) (hs : serve r s.unqueued = (t, reply)) :
    Machine.exec c s = .next (t.working (.host reply)).finish := by
  rw [row, catchUp_of_due hd.due nofun]
  show Host.Outcome.next (s.grantHost r).finish = _
  rw [grantHost_eq, hs]

theorem unqueued_frame (s : State) : FrameBut [.pendingHost] s s.unqueued := by
  intro b hb
  cases b <;> simp_all [Block.same, State.unqueued]

theorem working_frame (s : State) (w : WorkItem) : FrameBut [.workItem] s (s.working w) := by
  intro b hb
  cases b <;> simp_all [Block.same, State.working]

/-- What a grant of a host request comes to: `changed` are the blocks its service changes, `followed` those that the end of the event reaches. -/
theorem grants (hf : FrameBut changed s.unqueued t) (hp : Block.pendingSet ∉ changed) (hq : Block.pendingHost ∉ changed)
    (after : FrameBut (.pendingSet :: followed) (t.working (.host reply)) (t.working (.host reply)).finish)
    (hall : ∀ b, b ∈ changed ++ followed → b ∈ all) : s.Grants (t.working (.host reply)).finish reply all where
  item := by rw [finish_engine]; rfl
  taken := by
    rw [finish_engine]
    exact hf .pendingHost hq
  sources := finish_sources fun n _ _ => by rw [show (t.working (.host reply)).att.pendingSet = s.att.pendingSet from hf.pendingSet hp]
  frame := by
    have served := (unqueued_frame s).then (hf.then (working_frame t (.host reply)) (fun _ hb => hb)) (fun _ hb => hb)
    refine served.then after fun b hb => ?_
    have := hall b
    simp only [List.mem_append, List.mem_cons, List.not_mem_nil, or_false] at hb this ⊢
    grind

theorem unqueued_linksSettled (hs : s.linksSettled) : s.unqueued.linksSettled := linksSettled_congr hs rfl rfl

/-- A grant after which the end of the event judges the level sources and does nothing else. -/
theorem grants_quietly (hf : FrameBut changed s.unqueued t) (hp : Block.pendingSet ∉ changed) (hq : Block.pendingHost ∉ changed)
    (settled : t.linksSettled) (rest : t.ex.atRest) : s.Grants (t.working (.host reply)).finish reply changed :=
  grants (followed := []) hf hp hq (finish_frame_quiet (s := t.working (.host reply)) (linksSettled_congr settled rfl rfl) rest) (by simp)

/-- A grant after which the end of the event reaches the links (R24, R155). -/
theorem grants_onLinks (hf : FrameBut changed s.unqueued t) (hp : Block.pendingSet ∉ changed) (hq : Block.pendingHost ∉ changed)
    (rest : t.ex.atRest) (hall : ∀ b, b ∈ changed ++ [.links] → b ∈ all) : s.Grants (t.working (.host reply)).finish reply all :=
  grants (followed := [.links]) hf hp hq ((finish_frame_links (s := t.working (.host reply)) rest).mono (by simp)) hall

/-- A grant after which the end of the event reaches the Export Engine (R164, R166). -/
theorem grants_onExport (hf : FrameBut changed s.unqueued t) (hp : Block.pendingSet ∉ changed) (hq : Block.pendingHost ∉ changed)
    (settled : t.linksSettled) (hall : ∀ b, b ∈ changed ++ [.export_, .clock] → b ∈ all) : s.Grants (t.working (.host reply)).finish reply all :=
  grants (followed := [.export_, .clock]) hf hp hq
    ((finish_frame_export (s := t.working (.host reply)) (linksSettled_congr settled rfl rfl)).mono (by simp)) hall

/-- A grant that answers and changes nothing else (R65). -/
theorem State.HostDue.reads (hd : s.HostDue r) (row : Machine.exec c s = .next s.catchUp) (hs : serve r s.unqueued = (s.unqueued, reply)) :
    ∃ u, Machine.exec c s = .next u ∧ s.Grants u reply [] :=
  ⟨_, hd.exec row hs, grants_quietly (FrameBut.refl _ _) (by simp) (by simp) (unqueued_linksSettled hd.settled.linksSettled) hd.settled.exportAtRest⟩

/-- A grant that refuses and changes nothing else (R65). -/
theorem State.HostDue.refuses {why : Refuse} {words : List ReplyWord} (hd : s.HostDue r) (row : Machine.exec c s = .next s.catchUp)
    (hs : serve r s.unqueued = (s.unqueued, { status := .refused why, words })) : s.GrantRefused c why words := hd.reads row hs

section
variable (w : WorkItem)

/-- The state after a grant, block by block. -/
theorem worked_site (i : SiteNo) : (t.working w).finish.site i = t.site i := finish_site _ i

theorem worked_sites : (t.working w).finish.sites = t.sites := finish_sites _

theorem worked_templates : (t.working w).finish.templates = t.templates := by simp [State.working]

theorem worked_template (n : TemplateNo) : (t.working w).finish.template n = t.template n := finish_template _ n

theorem worked_lists : (t.working w).finish.lists = t.lists := finish_lists _

theorem worked_store : (t.working w).finish.store = t.store := finish_store _

theorem worked_co : (t.working w).finish.co = t.co := finish_co _

theorem worked_settleList : (t.working w).finish.engine.settleList = t.engine.settleList := by
  rw [finish_engine]
  rfl

theorem worked_sweepPos : (t.working w).finish.engine.sweepPos = t.engine.sweepPos := by
  rw [finish_engine]
  rfl

theorem worked_now (rest : t.ex.atRest) : (t.working w).finish.now = t.now := finish_now_of_rest (t := t.working w) rest

theorem worked_linksFollow (f : HeadNo → Link → Link) (h : ∀ k, t.link k = f k (s.link k)) : s.LinksFollow (t.working w).finish f :=
  finish_linksFollow s (t.working w) f h

theorem worked_followed : t.ex.Followed (t.working w).finish := finish_followed (t.working w)

end

end

/-! ### The low indication over takes and frees (R56) -/

section
variable {s t u : State} {n : Nat}

/-- As the free count falls, the last judgement is the one that counts. -/
theorem lowJudged_falls {free less mark : Nat} {low : Bool} (falls : less ≤ free) (stands : lowJudged free mark low = low) :
    lowJudged less mark low = if less < mark then true else low := by
  unfold lowJudged clearLevel at *
  split at stands <;> split <;> grind

theorem lowJudged_again {top free less mark : Nat} {low : Bool} (below : free ≤ top) (falls : less ≤ free) (stands : lowJudged top mark low = low) :
    lowJudged less mark (lowJudged free mark low) = lowJudged less mark low := by
  rw [lowJudged_falls below stands]
  by_cases under : free < mark
  · rw [if_pos under, lowJudged, lowJudged, if_pos (Nat.lt_of_le_of_lt falls under), if_pos (Nat.lt_of_le_of_lt falls under)]
  · rw [if_neg under]

/-- As the free count rises, the judgement at the lowest count and the last one count. -/
theorem lowJudged_rises {least free more mark : Nat} {low : Bool} (least_le : least ≤ free) (rises : free ≤ more) :
    lowJudged more mark (lowJudged free mark (lowJudged least mark low)) = lowJudged more mark (lowJudged least mark low) := by
  unfold lowJudged
  grind

/-- From s to t some records were taken, `n` at most, and then some were freed; the low indication has followed. -/
structure State.LowTrack (s t : State) (n : Nat) : Prop where
  mark : t.store.lowWater = s.store.lowWater
  least : s.freeCount - n ≤ t.freeCount
  low : s.LowAfter t n

theorem State.LowStands.judged' (h : s.LowStands) : lowJudged s.freeCount s.store.lowWater s.store.low = s.store.low := h.judged.symm

theorem lowTrack_refl (s : State) : s.LowTrack s 0 := ⟨rfl, Nat.sub_le _ _, fun stands => by
  rw [Nat.sub_zero, stands.judged', stands.judged']⟩

/-- Nothing taken and nothing freed. -/
theorem State.LowTrack.kept (h : s.LowTrack t n) (length : u.store.lines.length = t.store.lines.length) (mark : u.store.lowWater = t.store.lowWater)
    (low : u.store.low = t.store.low) : s.LowTrack u n := by
  have free : u.freeCount = t.freeCount := freeCount_congr length
  exact ⟨mark.trans h.mark, free ▸ h.least, fun stands => by rw [low, h.low stands, free]⟩

/-- Records freed. -/
theorem State.LowTrack.freed (h : s.LowTrack t n) (p : LineRec → Bool) : s.LowTrack (t.setLines (t.store.lines.filter p)) n := by
  have rises : t.freeCount ≤ (t.setLines (t.store.lines.filter p)).freeCount :=
    Nat.sub_le_sub_left (List.length_filter_le p t.store.lines) _
  refine ⟨h.mark, Nat.le_trans h.least rises, fun stands => ?_⟩
  have judged : (t.setLines (t.store.lines.filter p)).store.low =
    lowJudged (t.setLines (t.store.lines.filter p)).freeCount t.store.lowWater t.store.low := rfl
  rw [judged, h.low stands, h.mark, lowJudged_rises h.least rises]

/-- One more record taken, none freed yet. -/
theorem takeLine_lowTrack (h : s.LowTrack t n) (free : t.freeCount = s.freeCount - n) (k : Key) (st : LineState) :
    s.LowTrack (t.takeLine k st) (n + 1) := by
  have falls : (t.takeLine k st).freeCount = s.freeCount - (n + 1) := by rw [takeLine_freeCount, free, Nat.sub_sub]
  refine ⟨h.mark, Nat.le_of_eq falls.symm, fun stands => ?_⟩
  have judged : (t.takeLine k st).store.low = lowJudged (t.takeLine k st).freeCount t.store.lowWater t.store.low := rfl
  rw [judged, h.low stands, h.mark, falls, free, lowJudged_idem, lowJudged_idem]
  exact lowJudged_again (Nat.sub_le _ _) (by omega) stands.judged'

end

end Sys2Proof.Machine

end

section
/-! Contexts that become current (R6, R7, R16, R17), and sites and templates that are freed (R6, R8, R55). -/

namespace Sys2Proof.Machine

section
variable {s t : State} {i : SiteNo} {x : Staged} {g : Geometry}

/-! ### The lines that a context carries in (R17) -/

/-- Per-domain records with the assigned counts of carried lines. -/
def carriedDomains (l : List CarryIn) (ds : List DomainRec) : List DomainRec :=
  l.foldl (fun ds e => ds.modify e.domain.val (DomainRec.oneAssigned e.axis)) ds

/-- The number of entries of a domain and axis. -/
def carryCount (l : List CarryIn) (d : DomainNo) (a : Axis) : Nat := (l.filter fun e => e.domain == d && e.axis == a).length

theorem carryCount_cons (e : CarryIn) (l : List CarryIn) (d : DomainNo) (a : Axis) :
    carryCount (e :: l) d a = (if e.domain = d ∧ e.axis = a then 1 else 0) + carryCount l d a := by
  unfold carryCount
  rw [List.filter_cons]
  by_cases named : e.domain = d ∧ e.axis = a
  · simp [named, Nat.add_comm]
  · have other : ¬ (e.domain == d && e.axis == a) = true := by simpa using named
    rw [if_neg other, if_neg named, Nat.zero_add]

theorem carriedDomains_length (l : List CarryIn) (ds : List DomainRec) : (carriedDomains l ds).length = ds.length := by
  induction l generalizing ds with
  | nil => rfl
  | cons e l ih => exact (ih _).trans (List.length_modify ..)

theorem carriedDomains_getElem? (l : List CarryIn) (ds : List DomainRec) (d : DomainNo) :
    (carriedDomains l ds)[d.val]? = ds[d.val]?.map fun r =>
      { r with assigned := ⟨r.assigned.row + carryCount l d .row, r.assigned.column + carryCount l d .column⟩ } := by
  induction l generalizing ds with
  | nil =>
    show ds[d.val]? = _
    cases ds[d.val]? <;> rfl
  | cons e l ih =>
    refine (ih (ds.modify e.domain.val (DomainRec.oneAssigned e.axis))).trans ?_
    rw [List.getElem?_modify, carryCount_cons, carryCount_cons]
    cases ds[d.val]? with
    | none => rfl
    | some r =>
      by_cases named : e.domain = d
      · cases axis : e.axis <;> simp [named, DomainRec.oneAssigned, PerAxis.inc, Nat.add_assoc, Nat.add_comm, Nat.add_left_comm]
      · have other : e.domain.val ≠ d.val := fun same => named (Fin.ext same)
        simp [named, other]

/-- The lines of site i that the entries name, as they are taken. -/
def carriedRecs (i : SiteNo) (l : List CarryIn) (rs : List LineRec) : Prop :=
  rs.map (·.key) = l.map (CarryIn.key i) ∧ ∀ r ∈ rs, r.state = .assigned .carried ∧ r.failCount = 0 ∧ r.cross = [] ∧ r.syndrome = 0

theorem carryIn_site (e : CarryIn) (j : SiteNo) : (s.carryIn i e).site j = if j = i
    then { s.site i with ctx := (s.ctx i).map fun c => c.editDomain e.domain (DomainRec.oneAssigned e.axis) } else s.site j :=
  modCtx_site (s.takeLine (e.key i) (.assigned .carried)) i j _

theorem carryIn_foldl_lines (l : List CarryIn) (s : State) :
    ∃ rs, (l.foldl (fun s e => s.carryIn i e) s).store.lines.Perm (rs ++ s.store.lines) ∧ carriedRecs i l rs := by
  induction l generalizing s with
  | nil => exact ⟨[], .refl _, rfl, nofun⟩
  | cons e l ih =>
    obtain ⟨rs, perm, keys, fields⟩ := ih (s.carryIn i e)
    have taken : (s.carryIn i e).store.lines = insertLine (s.taken (e.key i) (.assigned .carried)) s.store.lines := rfl
    refine ⟨s.taken (e.key i) (.assigned .carried) :: rs, ?_, ?_, fun r hr => ?_⟩
    · rw [taken] at perm
      exact perm.trans (((insertLine_perm _ _).append_left rs).trans List.perm_middle)
    · rw [List.map_cons, keys]
      rfl
    · rcases List.mem_cons.mp hr with rfl | later
      · exact ⟨rfl, rfl, rfl, rfl⟩
      · exact fields r later

theorem carryIn_foldl_site (l : List CarryIn) (s : State) {c : Context} (hc : s.ctx i = some c) (j : SiteNo) :
    (l.foldl (fun s e => s.carryIn i e) s).site j = if j = i
      then { s.site i with ctx := some { c with domains := carriedDomains l c.domains } } else s.site j := by
  induction l generalizing s c with
  | nil =>
    split
    · rename_i same
      subst same
      show s.site j = { s.site j with ctx := some c }
      rw [← hc]
      rfl
    · rfl
  | cons e l ih =>
    have next : (s.carryIn i e).ctx i = some (c.editDomain e.domain (DomainRec.oneAssigned e.axis)) := by
      rw [State.ctx, carryIn_site, if_pos rfl, hc]
      rfl
    refine (ih (s.carryIn i e) next).trans ?_
    rw [carryIn_site, carryIn_site, if_pos rfl]
    split <;> rfl

theorem carryIn_foldl_lowTrack {s t : State} (l : List CarryIn) {n : Nat} (h : s.LowTrack t n) (free : t.freeCount = s.freeCount - n) :
    s.LowTrack (l.foldl (fun s e => s.carryIn i e) t) (n + l.length) := by
  induction l generalizing t n with
  | nil => exact h
  | cons e l ih =>
    have taken : s.LowTrack (t.carryIn i e) (n + 1) := (takeLine_lowTrack h free (e.key i) (.assigned .carried)).kept rfl rfl rfl
    have fewer : (t.carryIn i e).freeCount = s.freeCount - (n + 1) := by rw [carryIn_freeCount, free, Nat.sub_sub]
    have rest := ih taken fewer
    rwa [Nat.add_assoc, Nat.add_comm 1, ← List.length_cons (a := e)] at rest

/-- The last carried line has had the low indication judged (R56). -/
theorem carryIn_foldl_judged (l : List CarryIn) (s : State) (h : l ≠ []) : ∃ low,
    (l.foldl (fun s e => s.carryIn i e) s).store.low = lowJudged (l.foldl (fun s e => s.carryIn i e) s).freeCount s.store.lowWater low := by
  induction l generalizing s with
  | nil => exact absurd rfl h
  | cons e l ih =>
    by_cases last : l = []
    · subst last
      exact ⟨s.store.low, rfl⟩
    · exact ih (s.carryIn i e) last

/-! ### A context that becomes current (R6, R16) -/

theorem makeCurrent_site (j : SiteNo) : (s.makeCurrent i x g).site j = if j = i
    then { s.site i with ctx := some { s.freshContext x g with domains := carriedDomains x.carryIn (freshDomains g) }, hostHold := false, drainDeadline := none }
    else s.site j := by
  have placed : (s.placeContext i x g).ctx i = some (s.freshContext x g) := by rw [State.ctx, placeContext_site, if_pos rfl]
  rw [makeCurrent_eq, carryIn_foldl_site x.carryIn _ placed, placeContext_site, placeContext_site, if_pos rfl]
  split <;> rfl

theorem makeCurrent_template (n : TemplateNo) :
    (s.makeCurrent i x g).template n = if n = x.template then (s.template x.template).use else s.template n := by
  have templates : (s.makeCurrent i x g).templates = (s.placeContext i x g).templates :=
    foldl_keeps State.templates (fun s e => s.carryIn i e) (fun _ _ => rfl) x.carryIn _
  have kept : (s.makeCurrent i x g).template n = (s.setTemplate x.template (s.template x.template).use).template n := congrArg (fun v => v[n.val]) templates
  rw [kept]
  by_cases same : n = x.template
  · rw [same, setTemplate_template_self, if_pos rfl]
  · rw [setTemplate_template_ne same, if_neg same]

theorem carryIn_frame (s : State) (i : SiteNo) (e : CarryIn) : FrameBut [.sites, .lines, .low, .clock] s (s.carryIn i e) :=
  (takeLine_frame s (e.key i) _).then (modDomain_frame _ i e.domain _) (by simp)

theorem makeCurrent_frame (s : State) (i : SiteNo) (x : Staged) (g : Geometry) :
    FrameBut [.templates, .sites, .lines, .low, .clock] s (s.makeCurrent i x g) := by
  have placed : FrameBut [.templates, .sites] s (s.placeContext i x g) := (setTemplate_frame s _ _).then (modSite_frame _ i _) (fun _ hb => hb)
  rw [makeCurrent_eq]
  exact placed.then (frame_foldl _ (fun s e => carryIn_frame s i e) x.carryIn _) (by simp)

theorem makeCurrent_low : if x.carryIn = [] then (s.makeCurrent i x g).store.low = s.store.low
    else ((s.makeCurrent i x g).freeCount < s.store.lowWater → (s.makeCurrent i x g).store.low = true) ∧
      (min (s.store.lowWater + 64) 12288 ≤ (s.makeCurrent i x g).freeCount → s.store.lowWater ≤ (s.makeCurrent i x g).freeCount →
        (s.makeCurrent i x g).store.low = false) := by
  rw [makeCurrent_eq]
  split
  · rename_i none_
    rw [none_]
    rfl
  · rename_i some_
    obtain ⟨low, judged⟩ := carryIn_foldl_judged (i := i) x.carryIn (s.placeContext i x g) some_
    rw [judged]
    refine ⟨fun under => if_pos under, fun clear above => ?_⟩
    exact (if_neg (Nat.not_lt_of_le above)).trans (if_pos clear)

theorem makeCurrent_made (s : State) (i : SiteNo) (x : Staged) (g : Geometry) : s.MadeCurrent (s.makeCurrent i x g) i x g where
  template := by
    rw [makeCurrent_template, if_pos rfl]
    rfl
  templates n other := by rw [makeCurrent_template, if_neg other]
  context := by
    have ctx : (s.makeCurrent i x g).ctx i = some { s.freshContext x g with domains := carriedDomains x.carryIn (freshDomains g) } := by
      rw [State.ctx, makeCurrent_site, if_pos rfl]
    refine ⟨_, ctx, rfl, rfl, rfl, rfl, rfl, rfl, rfl, rfl, rfl, ?_, fun d r hr => ?_⟩
    · exact (carriedDomains_length ..).trans (List.length_replicate ..)
    · rw [carriedDomains_getElem?, freshDomains, List.getElem?_replicate] at hr
      split at hr
      · obtain rfl := Option.some.inj hr
        simp [carryCount]
      · cases hr
  holds := by rw [makeCurrent_site, if_pos rfl]; exact ⟨rfl, rfl, rfl⟩
  sites j other := by rw [makeCurrent_site, if_neg other]
  lines := by
    obtain ⟨rs, perm, keys, fields⟩ := carryIn_foldl_lines (i := i) x.carryIn (s.placeContext i x g)
    exact ⟨rs, perm, keys, fields⟩
  lowAfter := by
    have placed : s.LowTrack (s.placeContext i x g) 0 := (lowTrack_refl s).kept rfl rfl rfl
    have tracked := carryIn_foldl_lowTrack (i := i) x.carryIn placed rfl
    rw [Nat.zero_add] at tracked
    exact tracked.low
  low := makeCurrent_low

theorem makeCurrent_staged : ((s.makeCurrent i x g).site i).staged = (s.site i).staged := by rw [makeCurrent_site, if_pos rfl]

/-- The gates of a site that becomes ARMED stay closed. -/
theorem makeCurrent_linksSettled (hs : s.linksSettled) (vacant : s.siteState i = .vacant) : (s.makeCurrent i x g).linksSettled := by
  refine linksSettled_of_gates hs (gates_of_site (i := i) (fun j other => ?_) ?_) ((makeCurrent_frame s i x g) .links (by decide))
  · rw [makeCurrent_site, if_neg other]
  · rw [gateOpen_of_not_testing, gateOpen_of_not_testing]
    · rw [vacant]
      decide
    · rw [makeCurrent_siteState, if_pos rfl]
      decide

theorem lowAfter_congr {s' u : State} {n : Nat} (h : s.LowAfter t n) (store : s'.store = s.store ∧ u.store = t.store) : s'.LowAfter u n := by
  intro stands
  have judged := h (lowStands_congr (by rw [store.1]) (by rw [store.1]) (by rw [store.1]) stands)
  rw [State.freeCount, State.freeCount] at judged ⊢
  rw [store.1, store.2, judged]

theorem madeCurrent_congr {s' u : State} (h : s.MadeCurrent t i x g) (templates : s'.templates = s.templates ∧ u.templates = t.templates)
    (sites : s'.sites = s.sites ∧ u.sites = t.sites) (store : s'.store = s.store ∧ u.store = t.store) : s'.MadeCurrent u i x g := by
  have lowAfter := lowAfter_congr h.lowAfter store
  cases s; cases s'; cases t; cases u
  obtain ⟨rfl, rfl⟩ := templates
  obtain ⟨rfl, rfl⟩ := sites
  obtain ⟨rfl, rfl⟩ := store
  exact ⟨h.template, h.templates, h.context, h.holds, h.sites, h.lines, lowAfter, h.low⟩

/-! ### The checks of a context against a geometry and the store (R18, R22) -/

theorem carryInside_iff {l : List CarryIn} : carryInside g l = true ↔ ¬ ∃ e ∈ l, g.domainCount ≤ e.domain.val ∨ g.lineCount e.axis ≤ e.addr.toNat := by
  simp [carryInside]

theorem carrySpared_iff {l : List CarryIn} :
    carrySpared g l = true ↔ ¬ ∃ e ∈ l, g.spares e.axis < (l.filter fun f => f.domain == e.domain && f.axis == e.axis).length := by
  simp [carrySpared]

/-! ### Sites and templates freed (R6, R8, R55) -/

theorem unuse_template (x : Template) : (1 < x.useCount → x.unuse = { x with useCount := x.useCount - 1 }) ∧
    (x.useCount ≤ 1 → x.unuse = match x.pendingCopy with
      | some g => { active := some g, pendingCopy := none, useCount := 0 }
      | none => { x with useCount := 0 }) := by
  unfold Template.unuse
  constructor
  · intro many
    exact if_neg (by omega)
  · intro last
    exact if_pos (by omega)

theorem unuseTemplate_freed {c : Context} (hc : s.ctx i = some c) : s.TemplateFreed (s.unuseTemplate i) c.template := by
  have unused : s.unuseTemplate i = s.setTemplate c.template (s.template c.template).unuse := by
    rw [State.unuseTemplate, hc]
  obtain ⟨many, last⟩ := unuse_template (s.template c.template)
  rw [unused]
  refine ⟨fun uses => ?_, fun uses => ?_, fun k other => setTemplate_template_ne other ..⟩
  · rw [setTemplate_template_self, many uses]
  · rw [setTemplate_template_self]
    exact last uses

theorem unuseTemplate_frame (s : State) (i : SiteNo) : FrameBut [.templates] s (s.unuseTemplate i) := by
  unfold State.unuseTemplate
  split
  · exact FrameBut.refl s _
  · exact setTemplate_frame s _ _

theorem without_eq (e : CoEntry) : e.without i =
    if e.members.filter (fun m => !(m == i)) = [] then none else some { e with members := e.members.filter fun m => !(m == i) } := by
  simp only [CoEntry.without, List.isEmpty_iff]

theorem freeSite_emptied (s : State) (i : SiteNo) : s.SiteEmptied (s.freeSite i) i where
  lines := rfl
  settle := rfl
  coincidence n := by
    have entry : (s.freeSite i).co.table[n.val] = s.co.table[n.val].bind (CoEntry.without i) := Vector.getElem_map ..
    rw [entry]
    cases s.co.table[n.val] with
    | none => rfl
    | some e => exact without_eq e

theorem freeSite_freed (s : State) (i : SiteNo) : s.SiteFreed (s.freeSite i) i := { freeSite_emptied s i with low := rfl }

theorem siteEmptied_congr {s' u : State} (h : s.SiteEmptied t i) (lines : s'.store.lines = s.store.lines ∧ u.store.lines = t.store.lines)
    (settle : s'.engine.settleList = s.engine.settleList ∧ u.engine.settleList = t.engine.settleList)
    (table : s'.co.table = s.co.table ∧ u.co.table = t.co.table) : s'.SiteEmptied u i where
  lines := by rw [lines.1, lines.2, h.lines]
  settle := by rw [settle.1, settle.2, h.settle]
  coincidence n := by
    simp only [table.1, table.2]
    exact h.coincidence n

theorem siteFreed_congr {s' u : State} (h : s.SiteFreed t i) (store : s'.store = s.store ∧ u.store = t.store)
    (settle : s'.engine.settleList = s.engine.settleList ∧ u.engine.settleList = t.engine.settleList)
    (table : s'.co.table = s.co.table ∧ u.co.table = t.co.table) : s'.SiteFreed u i where
  toSiteEmptied := siteEmptied_congr h.toSiteEmptied (by rw [store.1, store.2]; exact ⟨rfl, rfl⟩) settle table
  low := by
    rw [State.LowFollows, store.1, store.2]
    exact h.low

theorem templateFreed_congr {s' u : State} {n : TemplateNo} (h : s.TemplateFreed t n) (templates : s'.templates = s.templates ∧ u.templates = t.templates) :
    s'.TemplateFreed u n := by
  cases s; cases s'; cases t; cases u
  obtain ⟨rfl, rfl⟩ := templates
  exact ⟨h.counted, h.last, h.others⟩

end

end Sys2Proof.Machine

end

section
/-! The grant requests on sites: ARM, STAGE, DISARM and ABORT (R16 to R20, R35). -/

namespace Sys2Proof.Machine

section
variable {s t : State} {i : SiteNo} {x : Staged} {g : Geometry}

/-- A change of one site, not TESTING before or after, leaves every gate. -/
theorem linksSettled_of_closed (hs : s.linksSettled) (others : ∀ j, j ≠ i → t.site j = s.site j) (before : s.siteState i ≠ .testing)
    (after : t.siteState i ≠ .testing) (links : t.links = s.links) : t.linksSettled := by
  refine linksSettled_of_gates hs (gates_of_site others ?_) links
  rw [gateOpen_of_not_testing before, gateOpen_of_not_testing after]

/-! ### ARM and STAGE (R18, R20) -/

section
variable {words : List ReplyWord} (active : (s.template x.template).active = some g)
include active

theorem armVacant_outside (h : ∃ e ∈ x.carryIn, g.domainCount ≤ e.domain.val ∨ g.lineCount e.axis ≤ e.addr.toNat) :
    s.armVacant i x words = (s, { status := .refused .badCarryIn }) := by
  have outside : carryInside g x.carryIn = false := Bool.eq_false_iff.mpr fun inside => carryInside_iff.mp inside h
  simp only [State.armVacant, active, outside]
  rfl

theorem armVacant_crowded (inside : ¬ ∃ e ∈ x.carryIn, g.domainCount ≤ e.domain.val ∨ g.lineCount e.axis ≤ e.addr.toNat)
    (h : ∃ e ∈ x.carryIn, g.spares e.axis < (x.carryIn.filter fun f => f.domain == e.domain && f.axis == e.axis).length) :
    s.armVacant i x words = (s, { status := .refused .noSpare }) := by
  have crowded : carrySpared g x.carryIn = false := Bool.eq_false_iff.mpr fun spared => carrySpared_iff.mp spared h
  simp only [State.armVacant, active, carryInside_iff.mpr inside, crowded]
  rfl

theorem armVacant_full (inside : ¬ ∃ e ∈ x.carryIn, g.domainCount ≤ e.domain.val ∨ g.lineCount e.axis ≤ e.addr.toNat)
    (spared : ¬ ∃ e ∈ x.carryIn, g.spares e.axis < (x.carryIn.filter fun f => f.domain == e.domain && f.axis == e.axis).length)
    (h : s.freeCount < x.carryIn.length) : s.armVacant i x words = (s, { status := .refused .storeFull }) := by
  simp only [State.armVacant, active, carryInside_iff.mpr inside, carrySpared_iff.mpr spared, if_pos h]
  rfl

theorem armVacant_done (inside : ¬ ∃ e ∈ x.carryIn, g.domainCount ≤ e.domain.val ∨ g.lineCount e.axis ≤ e.addr.toNat)
    (spared : ¬ ∃ e ∈ x.carryIn, g.spares e.axis < (x.carryIn.filter fun f => f.domain == e.domain && f.axis == e.axis).length)
    (room : x.carryIn.length ≤ s.freeCount) : s.armVacant i x words =
      (s.makeCurrent i x g, { status := .done, words := words ++ [[.num ((s.template x.template).useCount + 1)]] }) := by
  have used : ((s.makeCurrent i x g).template x.template).useCount = (s.template x.template).useCount + 1 := by
    rw [makeCurrent_template, if_pos rfl]
    rfl
  simp only [State.armVacant, active, carryInside_iff.mpr inside, carrySpared_iff.mpr spared, if_neg (Nat.not_lt_of_le room), used]
  rfl

end

theorem serveArm_busy (fields : s.armFields = .ok (i, x)) (present : s.siteState i ≠ .vacant) :
    serveArm s = (s, { status := .refused .badState }) := by
  simp only [serveArm, fields, if_neg present]

theorem serveArm_vacant (fields : s.armFields = .ok (i, x)) (vacant : s.siteState i = .vacant) : serveArm s = s.armVacant i x [] := by
  simp only [serveArm, fields, if_pos vacant]

theorem serveStage_vacant (fields : s.armFields = .ok (i, x)) (vacant : s.siteState i = .vacant) :
    serveStage s = s.armVacant i x [[.result .promoted]] := by
  simp only [serveStage, fields, if_pos vacant]

/-- The grant that makes a context current (R16). -/
theorem grant_makesCurrent {r : Request} {c : Instr} {reply : Reply} (hd : s.HostDue r) (row : exec c s = .next s.catchUp)
    (served : serve r s.unqueued = (s.unqueued.makeCurrent i x g, reply)) (vacant : s.siteState i = .vacant) :
    ∃ u, exec c s = .next u ∧ s.Grants u reply [.templates, .sites, .lines, .low, .clock] ∧ s.MadeCurrent u i x g ∧
      (u.site i).staged = (s.site i).staged := by
  have settled := makeCurrent_linksSettled (s := s.unqueued) (i := i) (x := x) (g := g) (unqueued_linksSettled hd.settled.linksSettled) vacant
  have rest : (s.unqueued.makeCurrent i x g).ex.atRest := by
    rw [makeCurrent_ex]
    exact hd.settled.exportAtRest
  refine ⟨_, hd.exec row served, grants_quietly (makeCurrent_frame _ i x g) (by decide) (by decide) settled rest, ?_, ?_⟩
  · exact madeCurrent_congr (makeCurrent_made s.unqueued i x g) ⟨rfl, worked_templates _⟩ ⟨rfl, worked_sites _⟩ ⟨rfl, worked_store _⟩
  · rw [worked_site, makeCurrent_staged]
    rfl

theorem exec_stage_of_direct (hd : s.GoServes .stage) : exec .stage s = .next (s.directRow .stage) := by
  have served : s.goServes .stage = true := by simp [State.goServes, hd.port, hd.code, hd.direct]
  have row : exec .stage s = .next (if s.catchUp.goServes .stage then s.directRow .stage else s.hostRow .stage) := rfl
  rw [row, due_nothing_catchUp hd.ready.idle, if_pos served]

theorem exec_stage_of_due (hd : s.HostDue .stage) (running : s.port.state = .running) : exec .stage s = .next s.catchUp :=
  exec_grant_of_due hd.due (Or.inr ⟨rfl, running⟩)

/-! ### DISARM (R19) -/

theorem serveDisarm_none (h : 255 < s.param 1) : serveDisarm s = (s, { status := .refused .badSite }) := onSite_of_none h _

theorem serveDisarm_other (h : s.param 1 = i.val) (other : s.siteState i ≠ .armed) : serveDisarm s = (s, { status := .refused .badState }) :=
  (onSite_of_site h _).trans (if_neg other)

theorem serveDisarm_done (h : s.param 1 = i.val) (armed : s.siteState i = .armed) :
    serveDisarm s = (s.disarm i, { status := .done, words := [[.num (s.inUse i)], [.flag (s.site i).staged.isSome]] }) :=
  (onSite_of_site h _).trans (if_pos armed)

theorem unuseTemplate_site (j : SiteNo) : (s.unuseTemplate i).site j = s.site j := site_congr ((unuseTemplate_frame s i) .sites (by decide)) j

theorem disarm_site (j : SiteNo) : (s.disarm i).site j =
    if j = i then { s.site i with ctx := none, staged := none, drainDeadline := none } else s.site j := by
  have freed (k : SiteNo) : (s.freeSite i).site k = s.site k := rfl
  rw [State.disarm, State.dropContext, modSite_site, modSite_site, modSite_site, if_pos rfl, unuseTemplate_site, unuseTemplate_site, freed, freed]
  split <;> rfl

theorem disarm_frame (s : State) (i : SiteNo) : FrameBut [.templates, .sites, .lines, .low, .settleList, .coTable] s (s.disarm i) := by
  have unused := (freeSite_frame s i).then (unuseTemplate_frame _ i) (c := [.templates, .sites, .lines, .low, .settleList, .coTable]) (by simp)
  exact (unused.then (modSite_frame _ i _) (c := [.templates, .sites, .lines, .low, .settleList, .coTable]) (by simp)).then (modSite_frame _ i _) (by simp)

theorem disarm_freed (s : State) (i : SiteNo) : s.SiteFreed (s.disarm i) i := by
  have used := unuseTemplate_frame (s.freeSite i) i
  refine siteFreed_congr (freeSite_freed s i) ⟨rfl, unuseTemplate_store _ i⟩ ⟨rfl, used .settleList (by decide)⟩ ⟨rfl, used .coTable (by decide)⟩

theorem disarm_templateFreed {c : Context} (hc : s.ctx i = some c) : s.TemplateFreed (s.disarm i) c.template :=
  templateFreed_congr (unuseTemplate_freed (s := s.freeSite i) hc) ⟨rfl, rfl⟩

/-! ### ABORT (R35) -/

theorem serveAbort_none (h : 255 < s.param 1) : serveAbort s = (s, { status := .refused .badSite }) := onSite_of_none h _

theorem serveAbort_other (h : s.param 1 = i.val) (other : s.siteState i ∈ [.vacant, .armed, .held]) :
    serveAbort s = (s, { status := .refused .badState }) := by
  refine (onSite_of_site h _).trans ?_
  split <;> simp_all

/-- A site emptied by an ABORT, with its reason (R35, R38). -/
def State.aborted (s : State) (i : SiteNo) : State := (s.freeSite i).setReason i .aborted

theorem serveAbort_testing (h : s.param 1 = i.val) (state : s.siteState i = .testing) : serveAbort s = abortReply ((s.aborted i).enterDraining i) i := by
  refine (onSite_of_site h _).trans ?_
  simp only [state]
  rfl

theorem serveAbort_draining (h : s.param 1 = i.val) (state : s.siteState i = .draining) : serveAbort s = abortReply (s.aborted i) i := by
  refine (onSite_of_site h _).trans ?_
  simp only [state]
  rfl

theorem serveAbort_sweeping (h : s.param 1 = i.val) (state : s.siteState i = .sweeping) : serveAbort s = abortReply ((s.aborted i).toHeld i) i := by
  refine (onSite_of_site h _).trans ?_
  simp only [state]
  rfl

theorem aborted_site (j : SiteNo) : (s.aborted i).site j =
    if j = i then { s.site i with ctx := (s.ctx i).map fun c => { c with reason := some (c.reason.getD .aborted) } } else s.site j := by
  have first (c : Context) : (c.reason.orElse fun _ => some Reason.aborted) = some (c.reason.getD .aborted) := by cases c.reason <;> rfl
  refine (modCtx_site (s.freeSite i) i j _).trans ?_
  simp only [first]
  rfl

theorem aborted_frame (s : State) (i : SiteNo) : FrameBut [.sites, .lines, .low, .settleList, .coTable] s (s.aborted i) :=
  (freeSite_frame s i).then (setReason_frame _ i _) (by simp)

theorem aborted_freed (s : State) (i : SiteNo) : s.SiteFreed (s.aborted i) i := siteFreed_congr (freeSite_freed s i) ⟨rfl, rfl⟩ ⟨rfl, rfl⟩ ⟨rfl, rfl⟩

/-- The reply of an ABORT names the state and the reason that the site has then (R35). -/
theorem abortReply_eq {c : Context} {why : Reason} (hc : t.ctx i = some c) (reason : c.reason = some why) :
    abortReply t i = (t, { status := .done, words := [[.siteState c.phase.siteState], [.reason why]] }) := by
  have named : t.reasonOf i = some why := by rw [State.reasonOf, hc, Option.bind_some, reason]
  rw [abortReply, siteState_of_ctx hc, named]

theorem aborted_ctx {c : Context} (hc : s.ctx i = some c) : (s.aborted i).ctx i = some { c with reason := some (c.reason.getD .aborted) } := by
  rw [State.ctx, aborted_site, if_pos rfl, hc]
  rfl

end

end Sys2Proof.Machine

open Sys2Proof Sys2Proof.Machine

/-- Settles O31. -/
theorem armMakesContextCurrent : Obligations.ArmMakesContextCurrent := by
  unfold Obligations.ArmMakesContextCurrent
  refine ⟨fun g => ⟨rfl, rfl, rfl, rfl⟩, fun s i x hd fields => ?_⟩
  have row : exec .arm s = .next s.catchUp := exec_grant_of_due hd.due (Or.inl (by decide))
  have fields' : s.unqueued.armFields = .ok (i, x) := fields
  refine ⟨fun present => hd.refuses row (serveArm_busy fields' present), fun g vacant active => ?_⟩
  have vacated := serveArm_vacant fields' vacant
  refine ⟨fun outside => ?_, fun inside crowded => ?_, fun inside spared full => ?_, fun inside spared room => ?_⟩
  · exact hd.refuses row (vacated.trans (armVacant_outside active outside))
  · exact hd.refuses row (vacated.trans (armVacant_crowded active inside crowded))
  · exact hd.refuses row (vacated.trans (armVacant_full active inside spared full))
  · exact grant_makesCurrent hd row (vacated.trans (armVacant_done active inside spared room)) vacant

/-- Settles O32. -/
theorem stageByState : Obligations.StageByState := by
  unfold Obligations.StageByState
  refine ⟨fun s i x hd running fields => ?_, fun s i x hd fields present => ⟨fun full => ?_, fun free => ?_⟩⟩
  · have row := exec_stage_of_due hd running
    have fields' : s.unqueued.armFields = .ok (i, x) := fields
    refine ⟨fun present full => hd.refuses row (serveStage_full fields' present full), fun present free => ?_, fun g vacant active => ?_⟩
    · have served := serveStage_staged fields' present free
      have settled := staged_linksSettled (unqueued_linksSettled hd.settled.linksSettled) i (some x)
      refine ⟨_, hd.exec row served, grants_quietly (modSite_frame _ i _) (by decide) (by decide) settled hd.settled.exportAtRest, ?_, fun j other => ?_⟩
      · rw [worked_site, modSite_site_self]
        rfl
      · rw [worked_site, modSite_site_ne other]
        rfl
    · have vacated := serveStage_vacant fields' vacant
      refine ⟨fun outside => ?_, fun inside crowded => ?_, fun inside spared full => ?_, fun inside spared room => ?_⟩
      · exact hd.refuses row (vacated.trans (armVacant_outside active outside))
      · exact hd.refuses row (vacated.trans (armVacant_crowded active inside crowded))
      · exact hd.refuses row (vacated.trans (armVacant_full active inside spared full))
      · exact grant_makesCurrent hd row (vacated.trans (armVacant_done active inside spared room)) vacant
  · exact hd.refuses (exec_stage_of_direct hd) (serveStage_full (s := s.served) fields present full)
  · have served := serveStage_staged (s := s.served) fields present free
    refine ⟨_, hd.exec (exec_stage_of_direct hd) served, hd.quietly served (modSite_frame _ i _) (by decide) (staged_linksSettled (hd.linksSettled rfl rfl) i _) hd.atRest, ?_,
      fun j other => ?_⟩
    · rw [posted_site, modSite_site_self]
      rfl
    · rw [posted_site, modSite_site_ne other]
      rfl

/-- Settles O33. -/
theorem disarmReturnsToVacant : Obligations.DisarmReturnsToVacant := by
  unfold Obligations.DisarmReturnsToVacant
  intro s hd
  have row : exec .disarm s = .next s.catchUp := exec_grant_of_due hd.due (Or.inl (by decide))
  refine ⟨fun large => hd.refuses row (serveDisarm_none (s := s.unqueued) large), fun i known other => ?_, fun i c known hc phase => ?_⟩
  · exact hd.refuses row (serveDisarm_other (s := s.unqueued) known other)
  · have armed : s.siteState i = .armed := by rw [siteState_of_ctx hc, phase]; rfl
    have served := serveDisarm_done (s := s.unqueued) known armed
    have frame := disarm_frame s.unqueued i
    have settled : (s.unqueued.disarm i).linksSettled := by
      refine linksSettled_of_closed (i := i) (unqueued_linksSettled hd.settled.linksSettled) (fun j other => ?_) ?_ ?_ (frame .links (by decide))
      · rw [disarm_site, if_neg other]
      · rw [show s.unqueued.siteState i = _ from armed]
        decide
      · rw [State.siteState, disarm_site, if_pos rfl]
        exact (by decide : SiteState.vacant ≠ .testing)
    have rest : (s.unqueued.disarm i).ex.atRest := by
      rw [frame.ex (by decide) (by decide) (by decide)]
      exact hd.settled.exportAtRest
    refine ⟨_, hd.exec row served, grants_quietly frame (by decide) (by decide) settled rest, ?_, ?_, ?_, fun j other => ?_⟩
    · exact siteFreed_congr (disarm_freed s.unqueued i) ⟨rfl, worked_store _⟩ ⟨rfl, worked_settleList _⟩ ⟨rfl, by rw [worked_co]⟩
    · exact templateFreed_congr (disarm_templateFreed (s := s.unqueued) hc) ⟨rfl, worked_templates _⟩
    · rw [worked_site, disarm_site, if_pos rfl]
      rfl
    · rw [worked_site, disarm_site, if_neg other]
      rfl

/-- Settles O34. -/
theorem abortByState : Obligations.AbortByState := by
  unfold Obligations.AbortByState
  intro s hd
  have row : exec .abort s = .next s.catchUp := exec_grant_of_due hd.due (Or.inl (by decide))
  refine ⟨fun large => hd.refuses row (serveAbort_none (s := s.unqueued) large), fun i known other => ?_,
    fun i c known hc => ⟨fun phase => ?_, fun phase => ?_, fun phase => ?_⟩⟩
  · exact hd.refuses row (serveAbort_other (s := s.unqueued) known other)
  · have state : s.siteState i = .testing := by rw [siteState_of_ctx hc, phase]; rfl
    have frame : FrameBut [.sites, .lines, .low, .settleList, .coTable, .links, .clock] s.unqueued ((s.unqueued.aborted i).enterDraining i) :=
      (aborted_frame s.unqueued i).then (enterDraining_frame _ i) (by simp)
    have ctx : ((s.unqueued.aborted i).enterDraining i).ctx i = some { c with phase := .draining, reason := some (c.reason.getD .aborted) } := by
      rw [State.ctx, enterDraining_site, if_pos rfl, aborted_ctx (s := s.unqueued) hc]
      rfl
    have served := (serveAbort_testing (s := s.unqueued) known state).trans (abortReply_eq ctx rfl)
    have rest : ((s.unqueued.aborted i).enterDraining i).ex.atRest := hd.settled.exportAtRest
    refine ⟨_, hd.exec row served, grants_onLinks frame (by decide) (by decide) rest (by simp), ?_, ?_, ?_, fun j other => ?_,
      worked_linksFollow _ _ fun h => enterDraining_link i h⟩
    · exact siteFreed_congr (aborted_freed s.unqueued i) ⟨rfl, worked_store _⟩ ⟨rfl, worked_settleList _⟩ ⟨rfl, by rw [worked_co]; rfl⟩
    · rw [worked_now _ rest]
      exact Nat.le_add_right _ _
    · rw [worked_site, enterDraining_site, if_pos rfl, worked_now _ rest, Nat.mul_comm 10, aborted_ctx (s := s.unqueued) hc, aborted_site, if_pos rfl]
      rfl
    · rw [worked_site, enterDraining_site, if_neg other, aborted_site, if_neg other]
      rfl
  · have state : s.siteState i = .draining := by rw [siteState_of_ctx hc, phase]; rfl
    have frame := aborted_frame s.unqueued i
    have ctx := aborted_ctx (s := s.unqueued) hc
    have served := (serveAbort_draining (s := s.unqueued) known state).trans (abortReply_eq ctx rfl)
    rw [phase] at served
    have settled : (s.unqueued.aborted i).linksSettled := by
      refine linksSettled_of_closed (i := i) (unqueued_linksSettled hd.settled.linksSettled) (fun j other => ?_) ?_ ?_ rfl
      · rw [aborted_site, if_neg other]
      · rw [show s.unqueued.siteState i = _ from state]
        decide
      · rw [siteState_of_ctx ctx, phase]
        decide
    refine ⟨_, hd.exec row served, grants_quietly frame (by decide) (by decide) settled hd.settled.exportAtRest, ?_, ?_, fun j other => ?_⟩
    · exact siteFreed_congr (aborted_freed s.unqueued i) ⟨rfl, worked_store _⟩ ⟨rfl, worked_settleList _⟩ ⟨rfl, by rw [worked_co]⟩
    · rw [worked_site, aborted_site, if_pos rfl, show s.unqueued.ctx i = some c from hc]
      rfl
    · rw [worked_site, aborted_site, if_neg other]
      rfl
  · have state : s.siteState i = .sweeping := by rw [siteState_of_ctx hc, phase]; rfl
    have frame : FrameBut [.sites, .lines, .low, .settleList, .coTable, .sweepQueue, .sweepPos, .collectionQueue] s.unqueued ((s.unqueued.aborted i).toHeld i) :=
      (aborted_frame s.unqueued i).then (toHeld_frame _ i) (by simp)
    have ctx : ((s.unqueued.aborted i).toHeld i).ctx i = some { c with phase := .held, reason := some (c.reason.getD .aborted) } := by
      rw [State.ctx, toHeld_site, if_pos rfl, aborted_ctx (s := s.unqueued) hc]
      rfl
    have served := (serveAbort_sweeping (s := s.unqueued) known state).trans (abortReply_eq ctx rfl)
    have settled : ((s.unqueued.aborted i).toHeld i).linksSettled := by
      refine linksSettled_of_closed (i := i) (unqueued_linksSettled hd.settled.linksSettled) (fun j other => ?_) ?_ ?_ rfl
      · rw [toHeld_site, if_neg other, aborted_site, if_neg other]
      · rw [show s.unqueued.siteState i = _ from state]
        decide
      · rw [siteState_of_ctx ctx]
        exact (by decide : SiteState.held ≠ .testing)
    refine ⟨_, hd.exec row served, grants_onExport frame (by decide) (by decide) settled (by simp), ?_, ?_, fun j other => ?_, ?_, ?_, ?_⟩
    · exact siteFreed_congr (aborted_freed s.unqueued i) ⟨rfl, worked_store _⟩ ⟨rfl, worked_settleList _⟩ ⟨rfl, by rw [worked_co]; rfl⟩
    · rw [worked_site, toHeld_site, if_pos rfl, aborted_ctx (s := s.unqueued) hc, aborted_site, if_pos rfl]
      rfl
    · rw [worked_site, toHeld_site, if_neg other, aborted_site, if_neg other]
      rfl
    · rw [worked_lists]
      rfl
    · rw [worked_sweepPos]
      rfl
    · exact worked_followed (t := (s.unqueued.aborted i).toHeld i) _

end

section
/-! The words and the first checks of an ARM and a STAGE (R18, R20, R188). -/

namespace Sys2Proof.Machine

section
variable {s : State}

/-! ### Words (R188) -/

theorem bitsOf_eq (w : Word) (lo len : Nat) : bitsOf w lo len = (w.extractLsb' lo len).toNat := by
  rw [BitVec.extractLsb'_toNat, Nat.shiftRight_eq_div_pow]
  rfl

theorem armWords_eq : s.armWords =
    { site := ((s.reqWord 1).extractLsb' 0 16).toNat, template := ((s.reqWord 1).extractLsb' 16 4).toNat,
      policy := ((s.reqWord 1).extractLsb' 20 2).toNat,
      quota := if (s.reqWord 1).getLsbD 22 then some ((s.reqWord 3).extractLsb' 0 16).toNat else none,
      carryCount := ((s.reqWord 1).extractLsb' 24 4).toNat, tag := s.reqWord 2 } := by
  simp only [State.armWords, bitsOf_eq]

theorem axis?_eq_some {n : Nat} {a : Axis} : axis? n = some a ↔ n = match a with | .row => 1 | .column => 2 := by
  unfold axis?
  cases a <;> split <;> simp_all

theorem domainNo?_eq_some {n : Nat} {d : DomainNo} : domainNo? n = some d ↔ n = d.val := by
  unfold domainNo?
  constructor
  · intro h
    split at h
    · exact congrArg Fin.val (Option.some.inj h)
    · cases h
  · rintro rfl
    exact dif_pos d.isLt

theorem carryInOf_eq_some {w : Word} {e : CarryIn} : carryInOf w = some e ↔
    (w.extractLsb' 16 5).toNat = e.domain.val ∧ (w.extractLsb' 24 2).toNat = (match e.axis with | .row => 1 | .column => 2) ∧
      w.extractLsb' 0 16 = e.addr := by
  rw [← axis?_eq_some, ← domainNo?_eq_some, ← bitsOf_eq, ← bitsOf_eq]
  have addr : BitVec.ofNat 16 (bitsOf w 0 16) = w.extractLsb' 0 16 := by rw [bitsOf_eq, BitVec.ofNat_toNat, BitVec.setWidth_eq]
  unfold carryInOf
  rw [addr]
  obtain ⟨domain, axis, address⟩ := e
  cases domainNo? (bitsOf w 16 5) with
  | none => simp
  | some d =>
    cases axis? (bitsOf w 24 2) with
    | none => simp
    | some a => simp

theorem mapM_eq_some_iff {α β : Type} {f : α → Option β} {l : List α} {l' : List β} : l.mapM f = some l' ↔ l.map f = l'.map some := by
  induction l generalizing l' with
  | nil => cases l' <;> simp
  | cons a l ih =>
    simp only [List.mapM_cons, Option.pure_def, Option.bind_eq_bind, Option.bind_eq_some_iff, Option.some.injEq, ih, List.map_cons]
    cases l' with
    | nil => simp
    | cons b l' =>
      constructor
      · rintro ⟨_, first, _, rest, same⟩
        obtain ⟨rfl, rfl⟩ := List.cons.inj same
        rw [first, rest, List.map_cons]
      · intro same
        obtain ⟨first, rest⟩ := List.cons.inj same
        exact ⟨b, first, l', rest, rfl⟩

theorem carrySlots_getElem? {n k : Nat} (few : n ≤ 8) : (((List.finRange 16).drop 4).take n)[k]? = if h : k < n then some ⟨4 + k, by omega⟩ else none := by
  split
  · rename_i h
    rw [List.getElem?_take_of_lt h, List.getElem?_drop, List.getElem?_eq_getElem (by simp; omega), List.getElem_finRange]
    rfl
  · rename_i h
    exact List.getElem?_take_eq_none (Nat.le_of_not_lt h)

theorem carryInList_eq_some {n : Nat} {l : List CarryIn} (few : n ≤ 8) : s.carryInList n = some l ↔
    l.length = n ∧ ∀ k : Fin 8, k.val < n → carryInOf (s.reqWord ⟨4 + k.val, by omega⟩) = l[k.val]? := by
  rw [State.carryInList, mapM_eq_some_iff, List.ext_getElem?_iff]
  simp only [List.getElem?_map, carrySlots_getElem? few]
  constructor
  · intro same
    have length : l.length = n := by
      refine Nat.le_antisymm (Nat.le_of_not_lt fun more => ?_) (Nat.le_of_not_lt fun fewer => ?_)
      · have entry := same n
        rw [dif_neg (Nat.lt_irrefl n), List.getElem?_eq_getElem more] at entry
        cases entry
      · have entry := same l.length
        rw [dif_pos fewer, List.getElem?_eq_none (Nat.le_refl _)] at entry
        cases entry
    refine ⟨length, fun k hk => ?_⟩
    have entry := same k.val
    rw [dif_pos hk, Option.map_some, List.getElem?_eq_getElem (by omega), Option.map_some] at entry
    rw [List.getElem?_eq_getElem (by omega)]
    exact Option.some.inj entry
  · rintro ⟨length, same⟩ k
    split
    · rename_i hk
      have entry := same ⟨k, by omega⟩ hk
      rw [List.getElem?_eq_getElem (by simpa [length] using hk)] at entry ⊢
      exact congrArg some entry
    · rename_i hk
      rw [List.getElem?_eq_none (by omega)]
      rfl

/-! ### The first five checks (R18) -/

theorem siteNo?_isNone (n : Nat) : (siteNo? n).isNone = decide (255 < n) := by
  unfold siteNo?
  split <;> simp <;> omega

theorem templateNo?_isNone (n : Nat) : (templateNo? n).isNone = decide (7 < n) := by
  unfold templateNo?
  split <;> simp <;> omega

theorem policy?_isNone (n : Nat) : (policy? n).isNone = !(n == 1 || n == 2) := by
  unfold policy?
  split <;> simp_all

theorem quotaOk_not (q : Option Nat) : (!quotaOk q) = q.any fun q => decide (q < 8) || decide (12288 < q) := by
  cases q with
  | none => rfl
  | some q =>
    have low : (!decide (8 ≤ q)) = decide (q < 8) := by rw [← decide_not, decide_eq_decide, Nat.not_le]
    have high : (!decide (q ≤ 12288)) = decide (12288 < q) := by rw [← decide_not, decide_eq_decide, Nat.not_le]
    show (!(decide (8 ≤ q) && decide (q ≤ 12288))) = _
    rw [Bool.not_and, low, high]
    rfl

theorem siteNo?_eq_some {n : Nat} {i : SiteNo} (h : siteNo? n = some i) : n = i.val := by
  unfold siteNo? at h
  split at h
  · exact congrArg Fin.val (Option.some.inj h)
  · cases h

theorem templateNo?_eq_some {n : Nat} {k : TemplateNo} (h : templateNo? n = some k) : n = k.val := by
  unfold templateNo? at h
  split at h
  · exact congrArg Fin.val (Option.some.inj h)
  · cases h

theorem policy?_eq_some {n : Nat} {p : StopPolicy} : policy? n = some p → n = match p with | .stop => 1 | .continue_ => 2 := by
  intro h
  unfold policy? at h
  split at h
  · obtain rfl := Option.some.inj h
    rfl
  · obtain rfl := Option.some.inj h
    rfl
  · cases h

/-- The refusals of the first five checks in their order (R18). -/
def State.armChecks (s : State) : List (Refuse × Bool) :=
  let a := s.armWords
  [(.badSite, decide (255 < a.site)), (.badTemplate, decide (7 < a.template)),
   (.badField, !(a.policy == 1 || a.policy == 2) || a.quota.any (fun q => decide (q < 8) || decide (12288 < q)) || decide (8 < a.carryCount)
      || (s.carryInList a.carryCount).isNone),
   (.badCarryIn, (s.carryInList a.carryCount).any fun l => decide (¬ l.Nodup)),
   (.templateInvalid, (templateNo? a.template).any fun t => (s.template t).active.isNone)]

/-- The same checks on what the fields come to. -/
theorem armChecks_eq : s.armChecks =
    [(.badSite, (siteNo? s.armWords.site).isNone), (.badTemplate, (templateNo? s.armWords.template).isNone),
     (.badField, (policy? s.armWords.policy).isNone || !(quotaOk s.armWords.quota && decide (s.armWords.carryCount ≤ 8))
        || (s.carryInList s.armWords.carryCount).isNone),
     (.badCarryIn, (s.carryInList s.armWords.carryCount).any carryRepeats),
     (.templateInvalid, (templateNo? s.armWords.template).any fun t => (s.template t).active.isNone)] := by
  have count : (!decide (s.armWords.carryCount ≤ 8)) = decide (8 < s.armWords.carryCount) := by rw [← decide_not, decide_eq_decide, Nat.not_le]
  have repeats : carryRepeats = fun l => decide (¬ l.Nodup) := funext fun l => by rw [Bool.eq_iff_iff, carryRepeats_iff, decide_eq_true_iff]
  rw [siteNo?_isNone, templateNo?_isNone, policy?_isNone, Bool.not_and, quotaOk_not, count, repeats]
  simp only [State.armChecks, Bool.or_assoc]

theorem armFields_error {why : Refuse} : s.armFields = .error why ↔ (s.armChecks.find? (·.2)).map Prod.fst = some why := by
  rw [armChecks_eq]
  unfold State.armFields
  simp only
  cases siteNo? s.armWords.site with
  | none => simp
  | some i =>
    cases templateNo? s.armWords.template with
    | none => simp
    | some t =>
      cases policy? s.armWords.policy with
      | none => simp
      | some p =>
        cases quotaOk s.armWords.quota && decide (s.armWords.carryCount ≤ 8) with
        | false => simp
        | true =>
          cases s.carryInList s.armWords.carryCount with
          | none => simp
          | some l =>
            cases repeats : carryRepeats l with
            | true => simp [repeats]
            | false => cases valid : (s.template t).active <;> simp [repeats, valid]

end

end Sys2Proof.Machine

open Sys2Proof Sys2Proof.Machine

/-- Settles O30. -/
theorem armWordsAndFirstChecks : Obligations.ArmWordsAndFirstChecks := by
  unfold Obligations.ArmWordsAndFirstChecks
  refine ⟨fun s => armWords_eq, fun w e => carryInOf_eq_some, fun s n l few => carryInList_eq_some few, fun s => ⟨fun why => armFields_error, fun i x fields => ?_⟩,
    fun s why refused => ⟨fun hd => ?_, fun hd running => ?_, fun hd => ?_⟩⟩
  · obtain ⟨site, template, policy, -, -, carryIn, -, -, tag, quota⟩ := armFields_ok fields
    exact ⟨siteNo?_eq_some site, templateNo?_eq_some template, policy?_eq_some policy, quota.symm, carryIn, tag⟩
  · exact hd.refuses (exec_grant_of_due hd.due (Or.inl (by decide))) (serveArm_error (s := s.unqueued) refused)
  · exact hd.refuses (exec_stage_of_due hd running) (serveStage_error (s := s.unqueued) refused)
  · exact hd.refuses (exec_stage_of_direct hd) (serveStage_error (s := s.served) refused)

end

section
/-! Losses of a site's lines: what they leave, block by block (R28, R34, R36, R38, R40, R55, R58, R59). -/

namespace Sys2Proof.Machine

section
variable {s t u : State} {i : SiteNo}

/-! ### Where a site that has lost its lines goes (R34) -/

/-- The drain deadline of a site that has moved on from losing its lines, the clock standing at `now` (R28, R34). -/
def State.deadlineAfterLoss (s : State) (i : SiteNo) (now : Nat) : Option Nat := match s.siteState i with
  | .testing => some (now + 10 * s.lists.drainTimeout)
  | .armed => none
  | _ => (s.site i).drainDeadline

theorem moveLost_armed (h : s.siteState i = .armed) : s.moveLost i = s.toSweeping i := by rw [State.moveLost, h]

theorem moveLost_testing (h : s.siteState i = .testing) : s.moveLost i = s.enterDraining i := by rw [State.moveLost, h]

theorem moveLost_sweeping (h : s.siteState i = .sweeping) : s.moveLost i = s.toHeld i := by rw [State.moveLost, h]

theorem moveLost_rest (h : s.siteState i ∈ [.vacant, .draining, .held]) : s.moveLost i = s := by
  unfold State.moveLost
  split <;> simp_all

/-- The cases of a move, by the state of the site. -/
theorem siteState_cases (s : State) (i : SiteNo) :
    s.siteState i = .armed ∨ s.siteState i = .testing ∨ s.siteState i = .sweeping ∨ s.siteState i ∈ ([.vacant, .draining, .held] : List SiteState) := by
  cases s.siteState i <;> simp

/-- A site without a change of state keeps its phase after a loss. -/
theorem phaseAfterLoss_rest (h : s.siteState i ∈ [.vacant, .draining, .held]) :
    (s.ctx i).map (fun c => { c with phase := phaseAfterLoss c.phase }) = s.ctx i := by
  rw [siteState_eq] at h
  cases hc : s.ctx i with
  | none => rfl
  | some c =>
    rw [hc] at h
    cases phase : c.phase <;> simp [phase] at h <;> simp [phaseAfterLoss, phase] <;> rw [← phase]

/-- A context whose site is in a state of its own has that phase. -/
theorem map_phase {p : Phase} (h : s.siteState i = p.siteState) (f : Phase → Phase) :
    (s.ctx i).map (fun c => { c with phase := f c.phase }) = (s.ctx i).map fun c => { c with phase := f p } := by
  rw [siteState_eq] at h
  cases hc : s.ctx i with
  | none => rfl
  | some c =>
    rw [hc] at h
    cases p <;> cases phase : c.phase <;> simp [phase, Phase.siteState] at h <;> simp [phase]

theorem moveLost_site (j : SiteNo) : (s.moveLost i).site j = if j = i
    then { s.site i with ctx := (s.ctx i).map fun c => { c with phase := phaseAfterLoss c.phase }
                         drainDeadline := s.deadlineAfterLoss i (s.moveLost i).now } else s.site j := by
  rcases siteState_cases s i with state | state | state | state
  · rw [moveLost_armed state, toSweeping_site, map_phase (p := .armed) state, State.deadlineAfterLoss, state]
    rfl
  · rw [moveLost_testing state, enterDraining_site, map_phase (p := .testing) state, State.deadlineAfterLoss, state, Nat.mul_comm 10]
    rfl
  · rw [moveLost_sweeping state, toHeld_site, map_phase (p := .sweeping) state, State.deadlineAfterLoss, state]
    rfl
  · have deadline : s.deadlineAfterLoss i s.now = (s.site i).drainDeadline := by
      unfold State.deadlineAfterLoss
      split <;> simp_all
    rw [moveLost_rest state, phaseAfterLoss_rest state, deadline]
    split
    · rename_i same
      rw [same]
      rfl
    · rfl

theorem moveLost_sweepQueue : (s.moveLost i).lists.sweepQueue = match s.siteState i with
    | .armed => s.lists.sweepQueue ++ [i]
    | .sweeping => s.lists.sweepQueue.filter fun j => !(j == i)
    | _ => s.lists.sweepQueue := by
  unfold State.moveLost
  cases s.siteState i <;> rfl

theorem moveLost_collectionQueue :
    (s.moveLost i).ex.collectionQueue = if s.siteState i = .sweeping then s.ex.collectionQueue ++ [i] else s.ex.collectionQueue := by
  unfold State.moveLost
  cases s.siteState i <;> rfl

theorem moveLost_sweepPos : s.SweepPosLeft (s.moveLost i) i := by
  unfold State.SweepPosLeft State.moveLost
  cases s.siteState i <;> rfl

theorem moveLost_link (h : HeadNo) : (s.moveLost i).link h = s.drainAsked i h (s.link h) := by
  have asked (other : s.siteState i ≠ .testing) : s.drainAsked i h (s.link h) = s.link h := if_neg fun both => other both.2.1
  rcases siteState_cases s i with state | state | state | state
  · rw [moveLost_armed state, asked (by rw [state]; decide)]
    rfl
  · rw [moveLost_testing state, enterDraining_link, State.drainAsked]
    simp only [state, true_and]
  · rw [moveLost_sweeping state, asked (by rw [state]; decide)]
    rfl
  · rw [moveLost_rest state, asked fun testing => by simp [testing] at state]

/-! ### The loss of a site's lines (R34, R38, R40, R55) -/

/-- What work on site i leaves untouched of what a loss of its lines reads, the context having been edited (R58). -/
structure State.Edited (s t : State) (i : SiteNo) (edit : Context → Context) : Prop where
  site : t.site i = { s.site i with ctx := (s.ctx i).map edit }
  others : ∀ j, j ≠ i → t.site j = s.site j
  lines : (t.store.lines.filter fun r => !(r.key.site == i)) = s.store.lines.filter fun r => !(r.key.site == i)
  settle : (t.engine.settleList.filter fun e => !(e.site == i)) = s.engine.settleList.filter fun e => !(e.site == i)
  table : t.co.table = s.co.table
  lists : t.lists = s.lists
  collectionQueue : t.ex.collectionQueue = s.ex.collectionQueue
  keeps : ∀ c, (edit c).phase = c.phase ∧ (edit c).reason = c.reason ∧ (edit c).tag = c.tag

theorem edited_refl (s : State) (i : SiteNo) : s.Edited s i id where
  site := by simp [State.ctx]
  others _ _ := rfl
  lines := rfl
  settle := rfl
  table := rfl
  lists := rfl
  collectionQueue := rfl
  keeps _ := ⟨rfl, rfl, rfl⟩

theorem State.Edited.ctx {edit : Context → Context} (h : s.Edited t i edit) : t.ctx i = (s.ctx i).map edit := by rw [State.ctx, h.site]

theorem State.Edited.siteState {edit : Context → Context} (h : s.Edited t i edit) (j : SiteNo) : t.siteState j = s.siteState j := by
  by_cases same : j = i
  · subst same
    refine site_state_congr ((congrArg (Option.map Context.phase) h.ctx).trans ?_)
    rw [Option.map_map]
    exact congrArg (fun f => Option.map f (s.ctx j)) (funext fun c => (h.keeps c).1)
  · rw [State.siteState, h.others j same]
    rfl

/-- The site before the move of a loss: freed, with its reason and its notice. -/
def State.stripped (s : State) (i : SiteNo) (why : Reason) (note : NoticeReason) : State := ((s.freeSite i).setReason i why).postNotice i note

theorem loseLines_eq (why : Reason) (note : NoticeReason) : s.loseLines i why note = (s.stripped i why note).moveLost i := rfl

section
variable (why : Reason) (note : NoticeReason)

theorem stripped_site (j : SiteNo) : (s.stripped i why note).site j = if j = i
    then { s.site i with ctx := (s.ctx i).map fun c => { c with reason := some (c.reason.getD why) } } else s.site j := by
  have first (c : Context) : (c.reason.orElse fun _ => some why) = some (c.reason.getD why) := by cases c.reason <;> rfl
  refine (modCtx_site (s.freeSite i) i j _).trans ?_
  simp only [first]
  rfl

theorem stripped_siteState (j : SiteNo) : (s.stripped i why note).siteState j = s.siteState j :=
  modCtx_siteState (s.freeSite i) i (fun c => { c with reason := c.reason.orElse fun _ => some why }) (fun _ => rfl) j

theorem stripped_notices : (s.stripped i why note).lists.stopNotices = noticePosted i note (((s.ctx i).map (·.tag)).getD 0) s.lists.stopNotices := by
  have tag : (((s.freeSite i).setReason i why).ctx i).map (·.tag) = (s.ctx i).map (·.tag) := by
    rw [State.ctx, State.setReason, modCtx_site, if_pos rfl, Option.map_map]
    rfl
  show noticePosted i note (((((s.freeSite i).setReason i why).ctx i).map (·.tag)).getD 0) s.lists.stopNotices = _
  rw [tag]

theorem stripped_frame (s : State) (i : SiteNo) (why : Reason) (note : NoticeReason) :
    FrameBut [.sites, .lines, .low, .settleList, .coTable, .stopNotices] s (s.stripped i why note) :=
  ((freeSite_frame s i).then (setReason_frame _ i why) (c := [.sites, .lines, .low, .settleList, .coTable]) (by simp)).then
    (postNotice_frame _ i note) (by simp)

theorem loseLines_frame (s : State) (i : SiteNo) (why : Reason) (note : NoticeReason) :
    FrameBut [.sites, .sweepQueue, .stopNotices, .lines, .low, .settleList, .sweepPos, .coTable, .links, .collectionQueue, .clock] s
      (s.loseLines i why note) :=
  (stripped_frame s i why note).then (moveLost_frame _ i) (by simp)

theorem loseLines_emptied : (s.loseLines i why note).store = (s.freeSite i).store ∧
    (s.loseLines i why note).engine.settleList = (s.freeSite i).engine.settleList ∧ (s.loseLines i why note).co = (s.freeSite i).co := by
  have moved := moveLost_frame (s.stripped i why note) i
  have kept : ((s.stripped i why note).moveLost i).store = (s.stripped i why note).store ∧
      ((s.stripped i why note).moveLost i).co = (s.stripped i why note).co := by
    unfold State.moveLost
    cases (s.stripped i why note).siteState i <;> exact ⟨rfl, rfl⟩
  exact ⟨kept.1, moved .settleList (by decide), kept.2⟩

theorem loseLines_link (h : HeadNo) : (s.loseLines i why note).link h = s.drainAsked i h (s.link h) := by
  rw [loseLines_eq, moveLost_link, State.drainAsked, State.drainAsked, stripped_siteState]
  rfl

theorem loseLines_sweepPos : s.SweepPosLeft (s.loseLines i why note) i := by
  have moved := moveLost_sweepPos (s := s.stripped i why note) (i := i)
  rw [State.SweepPosLeft, stripped_siteState] at moved
  exact moved

/-- The loss of a site's lines after work on the site (R34, R58). -/
theorem loseLines_lost {edit : Context → Context} (h : s.Edited t i edit) : s.LinesLost (t.loseLines i why note) i why note edit := by
  obtain ⟨store, settle, co⟩ := loseLines_emptied (s := t) (i := i) why note
  have emptied := freeSite_emptied t i
  have state : (t.stripped i why note).siteState i = s.siteState i := (stripped_siteState why note i).trans (h.siteState i)
  refine { lines := ?_, settle := ?_, coincidence := fun n => ?_, site := ?_, others := fun j other => ?_, notice := ?_, sweepQueue := ?_,
           collectionQueue := ?_ }
  · rw [store, emptied.lines, h.lines]
  · rw [settle, emptied.settle, h.settle]
  · have table := emptied.coincidence n
    simp only [co, table, h.table]
  · have deadline (now : Nat) : (t.stripped i why note).deadlineAfterLoss i now = match s.siteState i with
        | .testing => some (now + 10 * s.lists.drainTimeout)
        | .armed => none
        | _ => (s.site i).drainDeadline := by
      have timeout : (t.stripped i why note).lists.drainTimeout = s.lists.drainTimeout :=
        (show t.lists.drainTimeout = _ from congrArg SiteLists.drainTimeout h.lists)
      have own : ((t.stripped i why note).site i).drainDeadline = (s.site i).drainDeadline := by rw [stripped_site, if_pos rfl, h.site]
      rw [State.deadlineAfterLoss, state, timeout, own] <;> rfl
    have ctx : (t.stripped i why note).ctx i = (s.ctx i).map fun c => { edit c with reason := some (c.reason.getD why) } := by
      rw [State.ctx, stripped_site, if_pos rfl, h.ctx, Option.map_map]
      exact congrArg (fun f => Option.map f (s.ctx i)) (funext fun c => by rw [Function.comp_apply, (h.keeps c).2.1])
    rw [loseLines_eq, moveLost_site, if_pos rfl, deadline, ctx, Option.map_map, stripped_site, if_pos rfl, h.site]
    have phases : (fun c : Context => { c with phase := phaseAfterLoss c.phase }) ∘ (fun c : Context => { edit c with reason := some (c.reason.getD why) }) =
        fun c => { edit c with phase := phaseAfterLoss c.phase, reason := some (c.reason.getD why) } :=
      funext fun c => by rw [Function.comp_apply, (h.keeps c).1]
    rw [phases] <;> rfl
  · rw [loseLines_eq, moveLost_site, if_neg other, stripped_site, if_neg other, h.others j other]
  · have tag : (t.ctx i).map (·.tag) = (s.ctx i).map (·.tag) := by
      rw [h.ctx, Option.map_map]
      exact congrArg (fun f => Option.map f (s.ctx i)) (funext fun c => (h.keeps c).2.2)
    have moved : ((t.stripped i why note).moveLost i).lists.stopNotices = (t.stripped i why note).lists.stopNotices :=
      moveLost_frame _ i .stopNotices (by decide)
    rw [loseLines_eq, moved, stripped_notices, tag, h.lists]
  · have queue : (t.stripped i why note).lists.sweepQueue = s.lists.sweepQueue :=
      (show t.lists.sweepQueue = _ from congrArg SiteLists.sweepQueue h.lists)
    rw [loseLines_eq, moveLost_sweepQueue, state, queue] <;> rfl
  · have queue : (t.stripped i why note).ex.collectionQueue = s.ex.collectionQueue := h.collectionQueue
    rw [loseLines_eq, moveLost_collectionQueue, state, queue]

end

/-- The blocks that a loss of lines is stated of, beside the clock. -/
def lossBlocks : List Block := [.sites, .lines, .settleList, .coTable, .stopNotices, .sweepQueue, .drainTimeout, .collectionQueue]

/-- What changes none of these blocks, before the loss or after it, leaves a loss a loss. -/
theorem State.LinesLost.between {s' : State} {a b : List Block} {why : Reason} {note : NoticeReason} {edit : Context → Context}
    (h : s.LinesLost t i why note edit) (hs : FrameBut a s s') (ht : FrameBut b t u) (ha : ∀ x ∈ lossBlocks, x ∉ a)
    (hb : ∀ x ∈ lossBlocks, x ∉ b) (now : s.siteState i = .testing → u.now = t.now) : s'.LinesLost u i why note edit := by
  have kept (x : Block) (hx : x ∈ lossBlocks) : x.same s s' ∧ x.same t u := ⟨hs x (ha x hx), ht x (hb x hx)⟩
  obtain ⟨sites, sites'⟩ := kept .sites (by decide)
  obtain ⟨lines, lines'⟩ := kept .lines (by decide)
  obtain ⟨settle, settle'⟩ := kept .settleList (by decide)
  obtain ⟨table, table'⟩ := kept .coTable (by decide)
  obtain ⟨notices, notices'⟩ := kept .stopNotices (by decide)
  obtain ⟨queue, queue'⟩ := kept .sweepQueue (by decide)
  obtain ⟨timeout, -⟩ := kept .drainTimeout (by decide)
  obtain ⟨collection, collection'⟩ := kept .collectionQueue (by decide)
  have site (j : SiteNo) : s'.site j = s.site j := site_congr sites j
  have state : s'.siteState i = s.siteState i := by rw [State.siteState, site]; rfl
  have ctx : s'.ctx i = s.ctx i := by rw [State.ctx, site]; rfl
  refine { toSiteEmptied := siteEmptied_congr h.toSiteEmptied ⟨lines, lines'⟩ ⟨settle, settle'⟩ ⟨table, table'⟩, site := ?_, others := fun j other => ?_,
           notice := ?_, sweepQueue := ?_, collectionQueue := ?_ }
  · have deadline : s.deadlineAfterLoss i u.now = s.deadlineAfterLoss i t.now := by
      unfold State.deadlineAfterLoss
      split
      case h_1 testing => rw [now testing]
      all_goals rfl
    rw [site_congr sites' i, h.site, ctx, state, site, show s'.lists.drainTimeout = _ from timeout]
    exact congrArg (fun x => ({ s.site i with ctx := _, drainDeadline := x } : Site)) deadline.symm
  · rw [site_congr sites' j, h.others j other, site]
  · rw [ctx, show s'.lists.stopNotices = _ from notices]
    exact Eq.trans notices' h.notice
  · rw [state, show s'.lists.sweepQueue = _ from queue]
    exact Eq.trans queue' h.sweepQueue
  · rw [state, show s'.ex.collectionQueue = _ from collection]
    exact Eq.trans collection' h.collectionQueue

/-- The same of an integrity failure. -/
theorem State.IntegrityLost.between {s' : State} {a b : List Block} {n : Nat} {act : Activity} {edit : Context → Context}
    (h : s.IntegrityLost t i n act edit) (hs : FrameBut a s s') (ht : FrameBut b t u) (ha : ∀ x ∈ .capture :: .pendingSet :: lossBlocks, x ∉ a)
    (hb : ∀ x ∈ .capture :: lossBlocks, x ∉ b) (raised : u.att.pendingSet.getLsbD 0 = t.att.pendingSet.getLsbD 0)
    (now : s.siteState i = .testing → u.now = t.now) : s'.IntegrityLost u i n act edit := by
  have capture : s'.store.capture = s.store.capture := hs .capture (ha _ (by simp))
  have pending : s'.att.pendingSet = s.att.pendingSet := hs .pendingSet (ha _ (by simp))
  refine { toLinesLost := h.toLinesLost.between hs ht (fun x hx => ha x (by simp [hx])) (fun x hx => hb x (by simp [hx])) now,
           capture := ?_, raised := ?_ }
  · rw [capture]
    exact Eq.trans (ht .capture (hb _ (by simp))) h.capture
  · rw [raised, h.raised, pending, capture]

/-! ### Integrity failures (R58, R59) -/

theorem captureError_capture (n : Nat) (act : Activity) : (s.captureError i n act).store.capture = some (match s.store.capture with
    | none => { site := i, index := n, activity := act, overflow := false }
    | some k => { k with overflow := true }) := by
  unfold State.captureError
  cases s.store.capture <;> rfl

theorem captureError_raised (n : Nat) (act : Activity) (m : Fin 16) : (s.captureError i n act).att.pendingSet.getLsbD m.val =
    (s.att.pendingSet.getLsbD m.val || (m == 0 && s.store.capture.isNone)) := by
  unfold State.captureError
  cases s.store.capture with
  | none =>
    refine (raise_getLsbD _ 0 m).trans ?_
    rw [Option.isNone_none, Bool.and_true]
  | some k => rw [Option.isNone_some, Bool.and_false, Bool.or_false]

theorem integrityFailure_eq (r : LineRec) (act : Activity) :
    s.integrityFailure i r act = (s.loseLines i .integrity .integrity).captureError i r.index act := rfl

theorem integrityFailure_frame (s : State) (i : SiteNo) (r : LineRec) (act : Activity) :
    FrameBut [.sites, .sweepQueue, .stopNotices, .lines, .low, .capture, .settleList, .sweepPos, .coTable, .links, .collectionQueue, .clock, .pendingSet] s
      (s.integrityFailure i r act) :=
  (loseLines_frame s i _ _).then (captureError_frame _ i _ act) (by simp)

theorem integrityFailure_lost {edit : Context → Context} (h : s.Edited t i edit) (capture : t.store.capture = s.store.capture)
    (pending : t.att.pendingSet = s.att.pendingSet) (r : LineRec) (act : Activity) : s.IntegrityLost (t.integrityFailure i r act) i r.index act edit := by
  have lost := loseLines_frame t i .integrity .integrity
  have captured := captureError_frame (t.loseLines i .integrity .integrity) i r.index act
  have same : (t.loseLines i .integrity .integrity).store.capture = s.store.capture := Eq.trans (lost .capture (by decide)) capture
  have raised := captureError_raised (s := t.loseLines i .integrity .integrity) (i := i) r.index act 0
  refine { toLinesLost := (loseLines_lost .integrity .integrity h).between (a := []) (.refl s []) captured (by decide) (by decide)
                            fun _ => (captured .clock (by decide)).1,
           capture := ?_, raised := ?_ }
  · rw [integrityFailure_eq, captureError_capture, same] <;> rfl
  · rw [same, show (t.loseLines i .integrity .integrity).att.pendingSet = s.att.pendingSet from Eq.trans (lost .pendingSet (by decide)) pending,
      show ((0 : Fin 16) == 0) = true from rfl, Bool.true_and] at raised
    exact raised

end

end Sys2Proof.Machine

end

section
/-! Grants that lose a site its lines (R58, R63, R65, R139). -/

namespace Sys2Proof.Machine

section
variable {s t m v : State} {i : SiteNo}

/-! ### A grant that ends in an integrity failure (R58, R63) -/

theorem exporter_queued {changed : List Block} (hf : FrameBut changed s t) (rest : Block.export_ ∉ changed) (timeout : Block.busTimeout ∉ changed) :
    t.ex = { s.ex with collectionQueue := t.ex.collectionQueue } := by
  have others := hf .export_ rest
  have bus : t.ex.busTimeout = s.ex.busTimeout := hf .busTimeout timeout
  rw [Block.same] at others
  cases hs : s.ex
  cases ht : t.ex
  simp_all

/-- The blocks that a grant with a loss of lines may change before the loss, and after it. -/
abbrev grantLossBlocks : List Block :=
  [.sites, .sweepQueue, .stopNotices, .lines, .low, .capture, .settleList, .sweepPos, .coTable, .links, .export_, .collectionQueue, .clock, .workItem,
   .pendingSet]

theorem finish_event (n : Fin 16) (event : isEventSource n.val = true) : t.finish.att.pendingSet.getLsbD n.val = t.att.pendingSet.getLsbD n.val :=
  (finish_sources (s := t) (t := t) (raised := []) fun _ _ _ => rfl).events n event (by simp)

/-- An integrity failure raises no event but that of its capture (R59). -/
theorem integrityFailure_event (r : LineRec) (act : Activity) {n : Fin 16} (other : n.val ∉ [0]) :
    (s.integrityFailure i r act).att.pendingSet.getLsbD n.val = s.att.pendingSet.getLsbD n.val := by
  have raised := captureError_raised (s := s.loseLines i .integrity .integrity) (i := i) r.index act n
  have none : (n == 0) = false := beq_eq_false_iff_ne.mpr fun zero => other (by rw [zero]; decide)
  rw [none, Bool.false_and, Bool.or_false] at raised
  rw [integrityFailure_eq, raised, (loseLines_frame s i _ _).pendingSet (by decide)]

/-- A grant that ends in an integrity failure: `before` are the blocks that its work changed before, `after` those that the grant changes besides. -/
theorem integrity_grantLoses {edit : Context → Context} {before after also : List Block} {w : WorkItem} {r : LineRec} {act : Activity}
    (ed : s.Edited m i edit) (rest : s.ex.atRest) (hm : FrameBut before s m) (hv : FrameBut after (m.integrityFailure i r act) v)
    (inside : ∀ b ∈ before, b ∉ ([.export_, .collectionQueue, .busTimeout, .links, .capture, .pendingSet] : List Block) ∧ b ∈ grantLossBlocks ++ also)
    (outside : ∀ b ∈ after, b ∉ ([.export_, .collectionQueue, .busTimeout, .links, .capture, .pendingSet, .clock] ++ lossBlocks : List Block) ∧
      b ∈ grantLossBlocks ++ also)
    (item : v.engine.inProgress = some w) : s.GrantLoses v.finish i r.index act edit w also := by
  have first (b : Block) (hb : b ∈ ([.export_, .collectionQueue, .busTimeout, .links, .capture, .pendingSet] : List Block)) : b ∉ before :=
    fun mem => (inside b mem).1 hb
  have last (b : Block) (hb : b ∈ ([.export_, .collectionQueue, .busTimeout, .links, .capture, .pendingSet, .clock] ++ lossBlocks : List Block)) :
      b ∉ after := fun mem => (outside b mem).1 hb
  have capture : m.store.capture = s.store.capture := hm .capture (first _ (by decide))
  have pending : m.att.pendingSet = s.att.pendingSet := hm .pendingSet (first _ (by decide))
  have lost := integrityFailure_lost ed capture pending r act
  have failed := integrityFailure_frame m i r act
  have finished := finish_frame v
  have all : FrameBut (before ++ _ ++ after) s v := (hm.trans failed).trans hv
  have queue : v.ex.collectionQueue = (m.integrityFailure i r act).ex.collectionQueue := hv .collectionQueue (last _ (by decide))
  have ex : v.ex = { s.ex with collectionQueue := v.ex.collectionQueue } :=
    exporter_queued all (by simp [first, last]) (by simp [first, last])
  refine { lost := ?_, item := ?_, sources := ?_, links := ?_, export_ := ?_, frame := ?_ }
  · refine lost.between (.refl s []) (hv.trans finished) (by simp) (fun b hb => ?_) ?_ fun testing => ?_
    · have apart : b ∉ after := last b (by simp [lossBlocks] at hb ⊢; grind)
      simp only [List.mem_append, apart, false_or]
      exact fun mem => (by decide : ∀ b ∈ ([.links, .export_, .clock, .pendingSet] : List Block), b ∉ .capture :: lossBlocks) b mem hb
    · rw [show v.finish.att.pendingSet.getLsbD 0 = v.att.pendingSet.getLsbD 0 from finish_event 0 (by decide), hv.pendingSet (last _ (by decide))]
    · have same : v.ex = s.ex := by rw [ex, queue, lost.collectionQueue, if_neg (by rw [testing]; decide)]
      rw [finish_now_of_rest (by rw [same]; exact rest)]
      exact (hv .clock (last _ (by decide))).1
  · rw [finish_engine]
    exact item
  · refine finish_sources fun n _ other => ?_
    rw [hv.pendingSet (last _ (by decide)), integrityFailure_event r act other, pending]
  · refine finish_linksFollow s v _ fun h => ?_
    have links : m.link h = s.link h := congrArg (·[h]) (hm .links (first _ (by decide)))
    have linked : v.link h = (m.integrityFailure i r act).link h := congrArg (·[h]) (hv .links (last _ (by decide)))
    have captured : (m.integrityFailure i r act).link h = (m.loseLines i .integrity .integrity).link h :=
      congrArg (·[h]) (captureError_frame _ i r.index act .links (by decide))
    rw [linked, captured, loseLines_link, links, State.drainAsked, State.drainAsked, ed.siteState]
  · have collected : v.finish.ex.collectionQueue = v.ex.collectionQueue := finished .collectionQueue (by decide)
    rw [collected, ← ex]
    exact finish_followed v
  · refine (all.trans finished).mono fun b hb => ?_
    simp only [List.mem_append] at hb
    rcases hb with ((hb | hb) | hb) | hb
    · exact (inside b hb).2
    · exact List.mem_append_left _ (by revert b; decide)
    · exact (outside b hb).2
    · exact List.mem_append_left _ (by revert b; decide)

/-! ### The grant of a host request that meets a damaged record (R139) -/

theorem State.Edited.ofUnqueued {edit : Context → Context} (h : s.unqueued.Edited m i edit) : s.Edited m i edit :=
  ⟨h.site, h.others, h.lines, h.settle, h.table, h.lists, h.collectionQueue, h.keeps⟩

/-- The request is refused with INTEGRITY, and the site has lost its lines. -/
theorem State.HostDue.loses {r : Request} {c : Instr} {edit : Context → Context} {rec : LineRec} {changed : List Block} {more : State → Prop}
    (hd : s.HostDue r) (row : Machine.exec c s = .next s.catchUp) (served : serve r s.unqueued = m.lookupFailed i rec)
    (ed : s.unqueued.Edited m i edit) (hm : FrameBut changed s.unqueued m) (inside : ∀ b ∈ changed, b ∈ ([.sites, .lines, .low] : List Block))
    (also : more ((m.integrityFailure i rec .lookup).working (.host { status := .refused .integrity })).finish) :
    s.LookupLoses c i rec.index edit more := by
  have apart (b : Block) (hb : b ∉ ([.sites, .lines, .low] : List Block)) : b ∉ changed := fun mem => hb (inside b mem)
  refine ⟨_, hd.exec row served, ?_, ?_, ?_, also⟩
  · refine integrity_grantLoses ed.ofUnqueued hd.settled.exportAtRest ((unqueued_frame s).trans hm) (working_frame _ _) (fun b hb => ?_) (by decide) rfl
    rcases List.mem_append.mp hb with hb | hb
    · simp at hb
      simp [hb]
    · have := inside b hb
      simp at this
      rcases this with same | same | same <;> simp [same]
  · rw [finish_engine]
    have kept := integrityFailure_frame m i rec .lookup .pendingHost (by decide)
    exact Eq.trans kept (hm .pendingHost (apart _ (by decide)))
  · have left := loseLines_sweepPos (s := m) (i := i) .integrity .integrity
    have captured : (m.integrityFailure i rec .lookup).engine.sweepPos = (m.loseLines i .integrity .integrity).engine.sweepPos :=
      captureError_frame _ i rec.index .lookup .sweepPos (by decide)
    have before : m.engine.sweepPos = s.engine.sweepPos := hm .sweepPos (apart _ (by decide))
    rw [State.SweepPosLeft, worked_sweepPos, captured, left, before, ed.siteState]
    rfl

/-- Where nothing was changed before the failure, the low indication follows the one free. -/
theorem integrityFailure_lowFollows (s : State) (i : SiteNo) (r : LineRec) (act : Activity) : s.LowFollows (s.integrityFailure i r act) := by
  have failed := captureError_frame (s.loseLines i .integrity .integrity) i r.index act
  have store := (loseLines_emptied (s := s) (i := i) .integrity .integrity).1
  have low : (s.integrityFailure i r act).store.low = (s.freeSite i).store.low := (show _ = _ from failed .low (by decide)).trans (by rw [store])
  have lines : (s.integrityFailure i r act).store.lines = (s.freeSite i).store.lines :=
    (show _ = _ from failed .lines (by decide)).trans (by rw [store])
  rw [State.LowFollows, low, lines]
  exact (freeSite_freed s i).low

theorem lowFollows_integrity (r : LineRec) (act : Activity) (w : WorkItem) : s.LowFollows ((s.integrityFailure i r act).working w).finish := by
  rw [State.LowFollows, worked_store]
  exact integrityFailure_lowFollows s i r act

theorem State.HostDue.losesAtOnce {r : Request} {c : Instr} {rec : LineRec} (hd : s.HostDue r) (row : Machine.exec c s = .next s.catchUp)
    (served : serve r s.unqueued = s.unqueued.lookupFailed i rec) : s.LookupLoses c i rec.index id s.LowFollows :=
  hd.loses row served (edited_refl _ _) (.refl _ []) (by simp) (lowFollows_integrity (s := s.unqueued) rec .lookup _)

end

end Sys2Proof.Machine

end

section
/-! The checks of the host record requests, and the two that read (R130, R132, R133, R139). -/

namespace Sys2Proof.Machine

section
variable {s t : State} {i : SiteNo} {d : DomainNo} {edit lost named : Bool} {x : Context}

/-! ### Axes and cursors (R46, R188) -/

theorem axis?_eq_none {n : Nat} : axis? n = none ↔ n ∉ [1, 2] := by
  constructor
  · intro none mem
    simp at mem
    rcases mem with rfl | rfl <;> simp [axis?] at none
  · intro other
    cases h : axis? n with
    | none => rfl
    | some a =>
      refine absurd ?_ other
      rw [axis?_eq_some.mp h]
      cases a <;> decide

theorem cursor?_start (addr : Nat) : cursor? 0 addr = some none := rfl

theorem cursor?_of_axis {n addr : Nat} {a : Axis} (axis : axis? n = some a) (inside : addr < 65536) :
    cursor? n addr = some (some (a, BitVec.ofNat 16 addr)) := by
  have code : n ≠ 0 := fun zero => by simp [zero, axis?] at axis
  rw [cursor?, if_neg code, if_pos inside, axis, Option.map_some]

theorem cursor?_eq_none {n addr : Nat} : cursor? n addr = none ↔ n ∉ [0, 1, 2] ∨ (n ≠ 0 ∧ 65535 < addr) := by
  unfold cursor?
  by_cases start : n = 0
  · simp [start]
  · by_cases inside : addr < 65536
    · have beyond : ¬ 65535 < addr := by omega
      simp only [start, inside, beyond, if_true, if_false, Option.map_eq_none_iff, axis?_eq_none]
      simp [start]
    · have beyond : 65535 < addr := by omega
      simp [start, inside, beyond]

/-! ### The checks in their order (R130) -/

/-- The checks of a record request whose third field is of another kind than an axis: `sel` is what it comes to. -/
def State.onParsed {α : Type} (s : State) (edit lost : Bool) (sel : Option α) (line : α → Option (Axis × Nat)) (f : SiteNo → DomainNo → α → State × Reply) :
    State × Reply :=
  match siteNo? (s.param 1) with
  | none => (s, { status := .refused .badSite })
  | some i =>
    match domainNo? (s.param 2), sel with
    | some d, some y =>
      match s.recordRefusal edit lost (line y) i d with
      | some why => (s, { status := .refused why })
      | none => f i d y
    | _, _ => (s, { status := .refused .badField })

theorem onRecord_eq (f : SiteNo → DomainNo → Axis → State × Reply) : s.onRecord edit lost named f =
    s.onParsed edit lost (axis? (s.param 3)) (fun a => if named then some (a, s.param 4) else none) f := by
  unfold State.onRecord State.onParsed
  cases siteNo? (s.param 1) with
  | none => rfl
  | some i => cases domainNo? (s.param 2) <;> cases axis? (s.param 3) <;> rfl

theorem serveListLines_eq : serveListLines s =
    s.onParsed false false (cursor? (s.param 3) (s.param 4)) (fun _ => none) fun i d cur => s.listPage i d (cur.map fun c => ⟨i, d, c.1, c.2⟩) := by
  unfold serveListLines State.onParsed
  cases siteNo? (s.param 1) with
  | none => rfl
  | some i => cases domainNo? (s.param 2) <;> cases cursor? (s.param 3) (s.param 4) <;> rfl

section
variable {α : Type} {sel : Option α} {line : α → Option (Axis × Nat)} {f : SiteNo → DomainNo → α → State × Reply} {y : α} {why : Refuse}

theorem domainNo?_none {n : Nat} (h : 15 < n) : domainNo? n = none := dif_neg (by omega)

theorem onParsed_badSite (site : 255 < s.param 1) : s.onParsed edit lost sel line f = (s, { status := .refused .badSite }) := by
  rw [State.onParsed, siteNo?_none site]

theorem onParsed_badField (site : s.param 1 = i.val) (bad : 15 < s.param 2 ∨ sel = none) :
    s.onParsed edit lost sel line f = (s, { status := .refused .badField }) := by
  rw [State.onParsed, site, siteNo?_val]
  rcases bad with bad | bad
  · simp only [domainNo?_none bad]
  · subst bad
    cases domainNo? (s.param 2) <;> rfl

theorem onParsed_eq (site : s.param 1 = i.val) (domain : s.param 2 = d.val) (field : sel = some y) : s.onParsed edit lost sel line f =
    match s.recordRefusal edit lost (line y) i d with
      | some why => (s, { status := .refused why })
      | none => f i d y := by
  rw [State.onParsed, site, siteNo?_val]
  simp only [domainNo?_eq_some.mpr domain, field] <;> rfl

theorem onParsed_refused (site : s.param 1 = i.val) (domain : s.param 2 = d.val) (field : sel = some y)
    (refusal : s.recordRefusal edit lost (line y) i d = some why) : s.onParsed edit lost sel line f = (s, { status := .refused why }) := by
  rw [onParsed_eq site domain field, refusal] <;> rfl

theorem onParsed_passed (site : s.param 1 = i.val) (domain : s.param 2 = d.val) (field : sel = some y)
    (passed : s.recordRefusal edit lost (line y) i d = none) : s.onParsed edit lost sel line f = f i d y := by
  rw [onParsed_eq site domain field, passed] <;> rfl

end

section
variable {named? : Option (Axis × Nat)}

theorem recordRefusal_vacant (vacant : s.siteState i = .vacant) : s.recordRefusal true lost named? i d = some .badState := by
  rw [State.recordRefusal, siteState_vacant.mp vacant] <;> rfl

theorem recordRefusal_closing (closing : s.siteState i ∈ [.sweeping, .held]) : s.recordRefusal true lost named? i d = some .siteClosing := by
  rw [siteState_eq] at closing
  cases ctx : s.ctx i with
  | none => simp [ctx] at closing
  | some x => cases phase : x.phase <;> simp [ctx, phase] at closing <;> simp [State.recordRefusal, ctx, phase]

/-- The checks of an edit that passes those of the site's state (R130, checks 3 to 5). -/
def State.editOpen (s : State) (i : SiteNo) (x : Context) : Prop := s.siteState i ∈ [.armed, .testing, .draining] ∧ x.reason = none

theorem phase_open (ctx : s.ctx i = some x) (state : s.siteState i ∈ [.armed, .testing, .draining]) : x.phase ≠ .sweeping ∧ x.phase ≠ .held := by
  rw [siteState_eq, ctx] at state
  cases phase : x.phase <;> simp [phase] at state ⊢

theorem recordRefusal_linesLost (ctx : s.ctx i = some x) (state : s.siteState i ∈ [.armed, .testing, .draining]) (lines : x.reason ≠ none) :
    s.recordRefusal true lost named? i d = some .linesLost := by
  obtain ⟨sweeping, held⟩ := phase_open ctx state
  simp [State.recordRefusal, ctx, sweeping, held, Option.isSome_iff_ne_none.mpr lines]

/-- The checks behind those of the state of the site (R130, checks 6 to 8). -/
theorem recordRefusal_open (ctx : s.ctx i = some x) (passes : edit = true → s.editOpen i x) : s.recordRefusal edit lost named? i d =
    if x.geometry.domainCount ≤ d.val then some .outOfRange
    else if named?.any fun y => decide (x.geometry.lineCount y.1 ≤ y.2) then some .outOfRange
    else if lost && (s.domain? i d).map (·.state) == some .unrepairable then some .domainLost
    else none := by
  rw [State.recordRefusal, ctx]
  cases edit with
  | false => cases named? <;> rfl
  | true =>
    obtain ⟨state, lines⟩ := passes rfl
    obtain ⟨sweeping, held⟩ := phase_open ctx state
    cases named? <;> simp [sweeping, held, lines]

/-- A request that reads passes on a VACANT site. -/
theorem recordRefusal_reading (inside : ∀ x, s.ctx i = some x → d.val < x.geometry.domainCount ∧ ∀ y, named? = some y → y.2 < x.geometry.lineCount y.1) :
    s.recordRefusal false false named? i d = none := by
  cases ctx : s.ctx i with
  | none => rw [State.recordRefusal, ctx] <;> rfl
  | some x =>
    obtain ⟨domain, line⟩ := inside x ctx
    rw [recordRefusal_open (edit := false) ctx nofun, if_neg (by omega), Bool.false_and]
    cases named? with
    | none => rfl
    | some y => simp [line y rfl]

end

/-- The refusals of a record request in the order of their checks, whatever its third field is (R130). -/
theorem recordRequest_refused {α : Type} {sel : Option α} {line : α → Option (Axis × Nat)} {f : SiteNo → DomainNo → α → State × Reply} {r : Request}
    {c : Instr} {badAxis : Prop} (hd : s.HostDue r) (row : exec c s = .next s.catchUp) (served : serve r s.unqueued = s.unqueued.onParsed edit lost sel line f)
    (bad : badAxis ↔ sel = none) (lines : ∀ y, sel = some y → line y = if named then (axis? (s.param 3)).map (·, s.param 4) else none) :
    (255 < s.param 1 → s.GrantRefused c .badSite) ∧
    ∀ i : SiteNo, s.param 1 = i.val →
      (15 < s.param 2 ∨ badAxis → s.GrantRefused c .badField) ∧
      ∀ d : DomainNo, s.param 2 = d.val → ¬ badAxis →
        (edit = true → s.siteState i = .vacant → s.GrantRefused c .badState) ∧
        (edit = true → s.siteState i ∈ [.sweeping, .held] → s.GrantRefused c .siteClosing) ∧
        ∀ x : Context, s.ctx i = some x →
          (edit = true → s.siteState i ∈ [.armed, .testing, .draining] → x.reason ≠ none → s.GrantRefused c .linesLost) ∧
          ((edit = true → s.siteState i ∈ [.armed, .testing, .draining] ∧ x.reason = none) →
            (x.geometry.domainCount ≤ d.val → s.GrantRefused c .outOfRange) ∧
            (d.val < x.geometry.domainCount →
              let beyond := named = true ∧ ∃ a, axis? (s.param 3) = some a ∧ x.geometry.lineCount a ≤ s.param 4
              (beyond → s.GrantRefused c .outOfRange) ∧
              (¬ beyond → lost = true → (s.domain? i d).map (·.state) = some .unrepairable → s.GrantRefused c .domainLost))) := by
  refine ⟨fun site => hd.refuses row (served.trans (onParsed_badSite (s := s.unqueued) site)),
    fun i site => ⟨fun field => hd.refuses row (served.trans (onParsed_badField (s := s.unqueued) site (field.imp_right bad.mp))),
    fun d domain good => ?_⟩⟩
  obtain ⟨y, field⟩ := Option.ne_none_iff_exists'.mp fun none => good (bad.mpr none)
  have refuses {why : Refuse} (refusal : s.unqueued.recordRefusal edit lost (line y) i d = some why) : s.GrantRefused c why :=
    hd.refuses row (served.trans (onParsed_refused (s := s.unqueued) site domain field refusal))
  refine ⟨?_, ?_, fun x ctx => ⟨?_, fun passes => ?_⟩⟩
  · rintro rfl vacant
    exact refuses (recordRefusal_vacant (s := s.unqueued) vacant)
  · rintro rfl closing
    exact refuses (recordRefusal_closing (s := s.unqueued) closing)
  · rintro rfl state reason
    exact refuses (recordRefusal_linesLost (s := s.unqueued) ctx state reason)
  have behind := recordRefusal_open (s := s.unqueued) (lost := lost) (named? := line y) (d := d) ctx passes
  refine ⟨fun outside => refuses (behind.trans (if_pos outside)), fun inside => ?_⟩
  rw [if_neg (by omega)] at behind
  have beyond_iff : ((line y).any fun y => decide (x.geometry.lineCount y.1 ≤ y.2)) = true ↔
      named = true ∧ ∃ a, axis? (s.param 3) = some a ∧ x.geometry.lineCount a ≤ s.param 4 := by
    rw [lines y field]
    cases named <;> cases axis? (s.param 3) <;> simp
  refine ⟨fun beyond => refuses (behind.trans (if_pos (beyond_iff.mpr beyond))), fun within domainLost state => refuses (behind.trans ?_)⟩
  have gone : (s.unqueued.domain? i d).map (·.state) = some .unrepairable := state
  rw [if_neg fun beyond => within (beyond_iff.mp beyond), domainLost, gone] <;> rfl

end

end Sys2Proof.Machine

open Sys2Proof Sys2Proof.Machine

/-- Settles O35, by the checks that the five requests share. -/
theorem recordRequestsRefused : Obligations.RecordRequestsRefused := by
  unfold Obligations.RecordRequestsRefused
  refine ⟨⟨rfl, rfl, fun n => axis?_eq_none.mpr, cursor?_start, fun n a addr => cursor?_of_axis⟩, fun s r c edit named lost request hd => ?_⟩
  have axes (r : Request) (other : r ≠ .listLines) :
      (if r = .listLines then s.param 3 ∉ [0, 1, 2] ∨ (s.param 3 ≠ 0 ∧ 65535 < s.param 4) else s.param 3 ∉ [1, 2]) ↔ axis? (s.param 3) = none := by
    rw [if_neg other, axis?_eq_none]
  have line {named : Bool} (a : Axis) (axis : axis? (s.param 3) = some a) :
      (if named then some (a, s.param 4) else none) = if named then (axis? (s.param 3)).map (·, s.param 4) else none := by rw [axis, Option.map_some]
  simp only [List.mem_cons, Prod.mk.injEq, List.not_mem_nil, or_false] at request
  rcases request with ⟨rfl, rfl, rfl, rfl, rfl⟩ | ⟨rfl, rfl, rfl, rfl, rfl⟩ | ⟨rfl, rfl, rfl, rfl, rfl⟩ | ⟨rfl, rfl, rfl, rfl, rfl⟩ | ⟨rfl, rfl, rfl, rfl, rfl⟩
  case inl => exact recordRequest_refused hd (exec_grant_of_due hd.due (Or.inl (by decide))) (onRecord_eq (s := s.unqueued) _) (axes _ nofun) line
  case inr.inl =>
    exact recordRequest_refused hd (exec_grant_of_due hd.due (Or.inl (by decide))) (serveListLines_eq (s := s.unqueued)) (by rw [if_pos rfl]; exact cursor?_eq_none.symm)
      fun _ _ => rfl
  all_goals exact recordRequest_refused hd (exec_grant_of_due hd.due (Or.inl (by decide))) (onRecord_eq (s := s.unqueued) _) (axes _ nofun) line

end

section
/-! LOOKUP-LINE and LIST-LINES (R132, R133, R139). -/

namespace Sys2Proof.Machine

section
variable {s : State} {i : SiteNo} {d : DomainNo} {a : Axis} {r : LineRec}

/-! ### LOOKUP-LINE (R132) -/

theorem originField_eq (x : LineState) : x.originField = match x with | .assigned o => .origin o | .candidate => .zero := by cases x <;> rfl

theorem serveLookupLine_eq (site : s.param 1 = i.val) (domain : s.param 2 = d.val) (axis : axis? (s.param 3) = some a)
    (inside : ∀ x, s.ctx i = some x → d.val < x.geometry.domainCount ∧ s.param 4 < x.geometry.lineCount a) : serveLookupLine s =
    match s.lineAt i d a (s.param 4) with
    | none => (s, { status := .done, words := s.lookupWords i d none })
    | some r => if r.syndrome = 0 then (s, { status := .done, words := s.lookupWords i d (some r) }) else s.lookupFailed i r := by
  have passed : s.recordRefusal false false (if true then some (a, s.param 4) else none) i d = none :=
    recordRefusal_reading fun x ctx => ⟨(inside x ctx).1, fun y named => by
      cases named
      exact (inside x ctx).2⟩
  exact (onRecord_eq (s := s) _).trans (onParsed_passed site domain axis passed)

/-- What LOOKUP-LINE answers where it reads no damaged record. -/
theorem State.HostDue.looksUp (hd : s.HostDue .lookupLine) (site : s.param 1 = i.val) (domain : s.param 2 = d.val) (axis : axis? (s.param 3) = some a)
    (inside : ∀ x, s.ctx i = some x → d.val < x.geometry.domainCount ∧ s.param 4 < x.geometry.lineCount a)
    (sound : ∀ r, s.lineAt i d a (s.param 4) = some r → r.syndrome = 0) :
    ∃ u, Machine.exec .lookupLine s = .next u ∧ s.Grants u { status := .done, words := s.lookupWords i d (s.lineAt i d a (s.param 4)) } [] := by
  refine hd.reads (exec_grant_of_due hd.due (Or.inl (by decide))) ((serveLookupLine_eq (s := s.unqueued) site domain axis inside).trans ?_)
  have found : s.unqueued.lineAt i d a (s.unqueued.param 4) = s.lineAt i d a (s.param 4) := rfl
  rw [found]
  cases line : s.lineAt i d a (s.param 4) with
  | none => rfl
  | some r => exact if_pos (sound r line)

/-! ### LIST-LINES (R133) -/

theorem aboveCursor_eq (from_ : Option Key) (k : Key) : aboveCursor from_ k = from_.all fun c => decide (c.rank < k.rank) := by
  cases from_ with
  | none => rfl
  | some c => rw [aboveCursor, Option.all_some]

theorem linesAbove_eq (from_ : Option Key) : s.linesAbove i d from_ =
    s.store.lines.filter fun r => r.key.site == i && r.key.domain == d && from_.all fun k => decide (k.rank < r.key.rank) := by
  rw [State.linesAbove, State.domainLines, List.filter_filter]
  refine List.filter_congr fun r _ => ?_
  rw [aboveCursor_eq, Bool.and_comm]

theorem find_damaged {pre post : List LineRec} (sound : ∀ y ∈ pre, y.syndrome = 0) (damaged : r.syndrome ≠ 0) :
    (pre ++ r :: post).find? (fun r => r.syndrome != 0) = some r := by
  have none : pre.find? (fun r => r.syndrome != 0) = none := by simpa using sound
  rw [List.find?_append, none, Option.none_or, List.find?_cons_of_pos (by simpa using damaged)]

theorem find_sound {l : List LineRec} (sound : ∀ y ∈ l, y.syndrome = 0) : l.find? (fun r => r.syndrome != 0) = none := by simpa using sound

theorem listedWords_eq : listedWords = fun r => [[.axis r.key.axis, .num r.key.addr.toNat, .lineState r.state,
    (match r.state with | .assigned o => .origin o | .candidate => .zero), .num r.cross.length], [.num r.failCount.toNat]] := by
  funext r
  rw [listedWords, originField_eq] <;> rfl

theorem listedWords_length (l : List LineRec) : (l.flatMap listedWords).length = 2 * l.length := by
  induction l with
  | nil => rfl
  | cons r l ih =>
    rw [List.flatMap_cons, List.length_append, ih]
    simp [listedWords]
    omega

theorem serveListLines_passed {cursor : Option (Axis × LineAddr)} (site : s.param 1 = i.val) (domain : s.param 2 = d.val)
    (field : cursor? (s.param 3) (s.param 4) = some cursor) (inside : ∀ x, s.ctx i = some x → d.val < x.geometry.domainCount) :
    serveListLines s = s.listPage i d (cursor.map fun c => ⟨i, d, c.1, c.2⟩) :=
  serveListLines_eq.trans (onParsed_passed site domain field (recordRefusal_reading fun x ctx => ⟨inside x ctx, nofun⟩))

/-- A page whose lines all pass their checks. -/
theorem listPage_sound {from_ : Option Key} (sound : ∀ r ∈ (s.linesAbove i d from_).take 6, r.syndrome = 0) :
    s.listPage i d from_ =
      let page := (s.linesAbove i d from_).take 6
      let next := (page.getLast?.map (·.key)).orElse fun _ => from_
      (s, { status := .done,
            words := [.num page.length, .flag (s.linesAbove i d next).isEmpty, .siteState (s.siteState i), s.domainField i d]
                     :: cursorWord next :: page.flatMap listedWords ++ List.replicate (12 - 2 * page.length) []
                     ++ [[.num (s.available i d .row), .num (s.available i d .column)]] }) := by
  rw [State.listPage, find_sound sound]
  have next : (match ((s.linesAbove i d from_).take 6).getLast? with | some r => some r.key | none => from_) =
      (((s.linesAbove i d from_).take 6).getLast?.map (·.key)).orElse fun _ => from_ := by
    cases ((s.linesAbove i d from_).take 6).getLast? <;> rfl
  simp only [listedWords_length, ← next] <;> rfl

theorem listPage_damaged {from_ : Option Key} {pre post : List LineRec} (page : (s.linesAbove i d from_).take 6 = pre ++ r :: post)
    (sound : ∀ y ∈ pre, y.syndrome = 0) (damaged : r.syndrome ≠ 0) : s.listPage i d from_ = s.lookupFailed i r := by
  rw [State.listPage, page, find_damaged sound damaged]

end

end Sys2Proof.Machine

open Sys2Proof Sys2Proof.Machine

/-- Settles O36. -/
theorem readingRequestsReadLines : Obligations.ReadingRequestsReadLines := by
  unfold Obligations.ReadingRequestsReadLines
  refine ⟨fun s i d a hd site domain axis inside => ⟨fun none => ?_, fun r found sound => ?_, fun r found damaged => ?_⟩,
    fun s i d cursor hd site domain field inside => ⟨fun sound => ?_, fun pre r post page sound damaged => ?_⟩⟩
  · have line : s.lineAt i d a (s.param 4) = Option.none := none
    have row := hd.looksUp site domain axis inside fun r found => by rw [line] at found; cases found
    rw [line] at row
    exact row
  · have line : s.lineAt i d a (s.param 4) = some r := found
    have row := hd.looksUp site domain axis inside fun q found => by
      rw [line] at found
      cases found
      exact sound
    rw [line, State.lookupWords, originField_eq] at row
    exact row
  · have line : s.lineAt i d a (s.param 4) = some r := found
    refine hd.losesAtOnce (exec_grant_of_due hd.due (Or.inl (by decide))) ((serveLookupLine_eq (s := s.unqueued) site domain axis inside).trans ?_)
    rw [show s.unqueued.lineAt i d a (s.unqueued.param 4) = some r from line]
    exact if_neg damaged
  · have above := linesAbove_eq (s := s.unqueued) (i := i) (d := d)
    refine hd.reads (exec_grant_of_due hd.due (Or.inl (by decide))) ((serveListLines_passed (s := s.unqueued) site domain field inside).trans ?_)
    rw [listPage_sound (s := s.unqueued) (by rw [above]; exact sound)]
    simp only [above, listedWords_eq] <;> rfl
  · have above := linesAbove_eq (s := s.unqueued) (i := i) (d := d)
    exact hd.losesAtOnce (exec_grant_of_due hd.due (Or.inl (by decide)))
      ((serveListLines_passed (s := s.unqueued) site domain field inside).trans (listPage_damaged (by rw [above]; exact page) sound damaged))

end

section
/-! Cross lists taken apart and lines assigned (R86, R87, R137), with what work on one site leaves alone of the others. -/

namespace Sys2Proof.Machine

section
variable {s t u : State} {i : SiteNo} {d : DomainNo} {k q : Key} {x : LineAddr} {act : Activity}

/-! ### The records of the other sites -/

/-- The records of every site but i are as they were. -/
def State.SameElsewhere (s t : State) (i : SiteNo) : Prop :=
  (t.store.lines.filter fun r => !(r.key.site == i)) = s.store.lines.filter fun r => !(r.key.site == i)

theorem sameElsewhere_of_lines (h : t.store.lines = s.store.lines) : s.SameElsewhere t i := by rw [State.SameElsewhere, h]

theorem State.SameElsewhere.trans (a : s.SameElsewhere t i) (b : t.SameElsewhere u i) : s.SameElsewhere u i := Eq.trans b a

theorem State.SameElsewhere.mem (h : s.SameElsewhere t i) {r : LineRec} (other : r.key.site ≠ i) : r ∈ t.store.lines ↔ r ∈ s.store.lines := by
  have kept (l : List LineRec) : r ∈ l ↔ r ∈ l.filter fun r => !(r.key.site == i) := by simp [other]
  rw [kept t.store.lines, h, ← kept]

theorem writeLine_sameElsewhere (f : LineRec → LineRec) : s.SameElsewhere (s.writeLine k f) k.site := by
  show ((s.store.lines.map _).filter _) = _
  rw [List.filter_map]
  refine Eq.trans ?_ (List.map_id _)
  have keys : ((fun r : LineRec => !(r.key.site == k.site)) ∘ fun r => if r.key = k then { f r with index := r.index, key := r.key, syndrome := 0 } else r) =
      fun r => !(r.key.site == k.site) := by
    funext r
    rw [Function.comp_apply]
    split <;> rfl
  rw [keys]
  refine List.map_congr_left fun r hr => if_neg fun same => ?_
  simp [same] at hr

theorem filter_sameElsewhere (p : LineRec → Bool) (hp : ∀ r, r.key.site ≠ i → p r = true) :
    s.SameElsewhere (s.setLines (s.store.lines.filter p)) i := by
  show (s.store.lines.filter p).filter _ = _
  rw [List.filter_filter]
  refine List.filter_congr fun r _ => ?_
  by_cases own : r.key.site = i
  · simp [own]
  · rw [hp r own, Bool.and_true]

theorem freeLine_sameElsewhere : s.SameElsewhere (s.freeLine k) k.site :=
  filter_sameElsewhere _ fun r other => by simpa using fun same : r.key = k => other (by rw [same])

theorem insertLine_filter_of_not {r : LineRec} {p : LineRec → Bool} (hr : p r = false) (l : List LineRec) : (insertLine r l).filter p = l.filter p := by
  induction l with
  | nil => simp [insertLine, hr]
  | cons y l ih =>
    rw [insertLine]
    split
    · rw [List.filter_cons_of_neg (by simp [hr])]
    · rw [List.filter_cons, List.filter_cons, ih]

theorem takeLine_sameElsewhere (st : LineState) : s.SameElsewhere (s.takeLine k st) k.site := insertLine_filter_of_not (by simp) _

/-! ### Records without a cross entry (R87) -/

/-- The key of the line of the other axis at address x. -/
abbrev Key.partner (k : Key) (x : LineAddr) : Key := { k with axis := k.axis.other, addr := x }

theorem Key.partner_ne (k : Key) (x : LineAddr) : k.partner x ≠ k := fun same => by
  have axes : k.axis.other = k.axis := congrArg Key.axis same
  cases axis : k.axis <;> simp [axis, Axis.other] at axes

theorem Key.partner_inj {y : LineAddr} : k.partner x = k.partner y ↔ x = y := by simp [Key.partner]

/-- A record that has lost its entry for the address x: freed when its list is left empty (R87, R137). -/
def LineRec.without (x : LineAddr) (p : LineRec) : Option LineRec :=
  if p.cross.filter (fun y => !(y == x)) = [] then none else some { p with cross := p.cross.filter fun y => !(y == x), syndrome := 0 }

theorem without_syndrome {p p' : LineRec} (h : p.without x = some p') : p'.syndrome = 0 := by
  unfold LineRec.without at h
  split at h
  · cases h
  · cases h
    rfl

theorem without_again (o : Option LineRec) : (o.bind (LineRec.without x)).bind (LineRec.without x) = o.bind (LineRec.without x) := by
  cases o with
  | none => rfl
  | some p =>
    rw [Option.bind_some]
    by_cases empty : p.cross.filter (fun y => !(y == x)) = []
    · rw [LineRec.without, if_pos empty, Option.bind_none]
    · have once : p.without x = some { p with cross := p.cross.filter fun y => !(y == x), syndrome := 0 } := if_neg empty
      rw [once, Option.bind_some]
      simp only [LineRec.without, List.filter_filter, Bool.and_self, if_neg empty]

/-! ### Cross lists taken apart (R87, R137) -/

/-- The partners that the addresses `l` name for line k have lost their entry for it, and no other line has changed. -/
structure State.Uncrossed (s t : State) (k : Key) (l : List LineAddr) : Prop where
  partners : ∀ x ∈ l, t.partnerAt k x = (s.partnerAt k x).bind (LineRec.without k.addr)
  others : ∀ q, (∀ x ∈ l, q ≠ k.partner x) → t.findLine q = s.findLine q
  elsewhere : s.SameElsewhere t k.site
  low : ∀ {r : State} {n : Nat}, r.LowTrack s n → r.LowTrack t n
  frame : FrameBut [.lines, .low] s t

theorem uncrossed_refl (s : State) (k : Key) : s.Uncrossed s k [] :=
  ⟨by simp, fun _ _ => rfl, rfl, fun h => h, .refl s _⟩

theorem State.Uncrossed.line {l : List LineAddr} (h : s.Uncrossed t k l) : t.findLine k = s.findLine k :=
  h.others k fun x _ => (Key.partner_ne k x).symm

theorem uncrossed_of_partner (partner : t.partnerAt k x = (s.partnerAt k x).bind (LineRec.without k.addr))
    (others : ∀ q, q ≠ k.partner x → t.findLine q = s.findLine q) (elsewhere : s.SameElsewhere t k.site)
    (low : ∀ {r : State} {n : Nat}, r.LowTrack s n → r.LowTrack t n) (frame : FrameBut [.lines, .low] s t) : s.Uncrossed t k [x] where
  partners y hy := by
    rw [List.mem_singleton.mp hy]
    exact partner
  others q hq := others q (hq x (List.mem_singleton.mpr rfl))
  elsewhere := elsewhere
  low := low
  frame := frame

theorem State.Uncrossed.cons {l : List LineAddr} (one : s.Uncrossed t k [x]) (more : t.Uncrossed u k l) : s.Uncrossed u k (x :: l) where
  partners y hy := by
    have first : t.partnerAt k y = if y = x then (s.partnerAt k y).bind (LineRec.without k.addr) else s.partnerAt k y := by
      split
      · rename_i same
        exact one.partners y (List.mem_singleton.mpr same)
      · rename_i other
        exact one.others _ fun z hz => by
          rw [List.mem_singleton.mp hz]
          exact fun same => other (Key.partner_inj.mp same)
    by_cases mem : y ∈ l
    · rw [more.partners y mem, first]
      split
      · rw [without_again]
      · rfl
    · have same : y = x := (List.mem_cons.mp hy).resolve_right mem
      have kept : u.partnerAt k y = t.partnerAt k y :=
        more.others _ fun z hz again => mem (Key.partner_inj.mp again ▸ hz)
      rw [kept, first, if_pos same]
  others q hq := by
    rw [more.others q fun y hy => hq y (List.mem_cons_of_mem _ hy)]
    exact one.others q fun y hy => hq y (List.mem_singleton.mp hy ▸ List.mem_cons_self)
  elsewhere := one.elsewhere.trans more.elsewhere
  low h := more.low (one.low h)
  frame := one.frame.then more.frame (by simp)

theorem uncross_absent (absent : s.partnerAt k x = none) : s.uncross act k x = .more s := by
  rw [State.uncross, show s.findLine _ = none from absent] <;> rfl

theorem uncross_present {p : LineRec} (present : s.partnerAt k x = some p) (sound : p.syndrome = 0) : s.uncross act k x =
    .more (if p.cross.filter (fun y => !(y == k.addr)) = [] then s.freeLine (k.partner x)
      else s.writeLine (k.partner x) fun r => { r with cross := p.cross.filter fun y => !(y == k.addr) }) := by
  have found : s.findLine (k.partner x) = some p := present
  simp only [State.uncross, found, readLine_of_sound k.site act sound, Run.andThen, List.isEmpty_iff]
  split <;> rfl

theorem uncross_damaged {p : LineRec} (present : s.partnerAt k x = some p) (damaged : p.syndrome ≠ 0) :
    s.uncross act k x = .halt (s.integrityFailure k.site p act) := by
  have found : s.findLine (k.partner x) = some p := present
  simp only [State.uncross, found, readLine_of_damaged k.site act damaged, Run.andThen]

/-- One partner that passes its check. -/
theorem uncross_sound (sound : ∀ p, s.partnerAt k x = some p → p.syndrome = 0) : ∃ t, s.uncross act k x = .more t ∧ s.Uncrossed t k [x] := by
  cases present : s.partnerAt k x with
  | none =>
    refine ⟨s, uncross_absent present, uncrossed_of_partner ?_ (fun _ _ => rfl) rfl (fun h => h) (.refl s _)⟩
    rw [present, Option.bind_none]
  | some p =>
    refine ⟨_, uncross_present present (sound p present), ?_⟩
    have found : s.findLine (k.partner x) = some p := present
    split
    · rename_i empty
      refine uncrossed_of_partner ?_ (fun q hq => ?_) (freeLine_sameElsewhere (k := k.partner x)) (fun h => h.freed _) (freeLine_frame s _)
      · rw [present, Option.bind_some, LineRec.without, if_pos empty]
        exact (findLine_freeLine s (k.partner x) _).trans (if_pos rfl)
      · rw [findLine_freeLine, if_neg hq]
    · rename_i rest
      refine uncrossed_of_partner ?_ (fun q hq => ?_) (writeLine_sameElsewhere (k := k.partner x) _)
        (fun h => h.kept (List.length_map _) rfl rfl) ((writeLine_frame s _ _).mono (by simp))
      · rw [present, Option.bind_some, LineRec.without, if_neg rest]
        refine (findLine_writeLine s (k.partner x) _ _).trans ((if_pos rfl).trans ?_)
        rw [found, Option.map_some]
      · rw [findLine_writeLine, if_neg hq]

theorem State.Uncrossed.sound {l l' : List LineAddr} (h : s.Uncrossed t k l) (sound : s.partnersSound k l') : t.partnersSound k l' := by
  intro y hy p partner
  by_cases mem : y ∈ l
  · rw [h.partners y mem] at partner
    obtain ⟨p', -, without⟩ := Option.bind_eq_some_iff.mp partner
    exact without_syndrome without
  · refine sound y hy p ?_
    rw [← partner]
    exact (h.others _ fun z hz same => mem ((Key.partner_inj (k := k) (x := y)).mp same ▸ hz)).symm

/-- Partners that all pass their checks. -/
theorem uncrossAll_sound {l : List LineAddr} (sound : s.partnersSound k l) : ∃ t, State.uncrossAll act k l s = .more t ∧ s.Uncrossed t k l := by
  induction l generalizing s with
  | nil => exact ⟨s, rfl, uncrossed_refl s k⟩
  | cons x l ih =>
    obtain ⟨t, first, one⟩ := uncross_sound (act := act) fun p => sound x List.mem_cons_self p
    obtain ⟨u, rest, more⟩ := ih (one.sound fun y hy => sound y (List.mem_cons_of_mem _ hy))
    refine ⟨u, ?_, one.cons more⟩
    rw [State.uncrossAll, first]
    exact rest

/-- The first damaged partner ends the work, the partners before it having lost their entries (R58, R87). -/
theorem uncrossAll_damaged {pre post : List LineAddr} {p : LineRec} (sound : s.partnersSound k pre) (partner : s.partnerAt k x = some p)
    (damaged : p.syndrome ≠ 0) : ∃ t, State.uncrossAll act k (pre ++ x :: post) s = .halt (t.integrityFailure k.site p act) ∧ s.Uncrossed t k pre := by
  induction pre generalizing s with
  | nil =>
    refine ⟨s, ?_, uncrossed_refl s k⟩
    rw [List.nil_append, State.uncrossAll, uncross_damaged partner damaged] <;> rfl
  | cons y pre ih =>
    obtain ⟨t, first, one⟩ := uncross_sound (act := act) fun p => sound y List.mem_cons_self p
    have apart : x ≠ y := fun same => damaged (sound y List.mem_cons_self p (same ▸ partner))
    have still : t.partnerAt k x = some p := by
      rw [← partner]
      exact one.others _ fun z hz same => apart ((Key.partner_inj.mp same).trans (List.mem_singleton.mp hz))
    obtain ⟨u, rest, more⟩ := ih (one.sound fun z hz => sound z (List.mem_cons_of_mem _ hz)) still
    refine ⟨u, ?_, one.cons more⟩
    rw [List.cons_append, State.uncrossAll, first]
    exact rest

end

end Sys2Proof.Machine

end

section
/-! Edits of one context, and the assignment of a line (R5, R86, R87, R88). -/

namespace Sys2Proof.Machine

section
variable {s t u m : State} {i : SiteNo} {d : DomainNo} {k : Key} {l : LineRec} {f g : Context → Context} {act : Activity} {o : Origin}

/-! ### Edits of one context -/

theorem modCtx_contextEdited (s : State) (i : SiteNo) (f : Context → Context) : s.ContextEdited (s.modCtx i f) i f :=
  ⟨(modCtx_site s i i f).trans (if_pos rfl), fun j other => (modCtx_site s i j f).trans (if_neg other)⟩

theorem modDomain_contextEdited (s : State) (i : SiteNo) (d : DomainNo) (f : DomainRec → DomainRec) :
    s.ContextEdited (s.modDomain i d f) i fun c => c.editDomain d f := modCtx_contextEdited s i _

theorem State.ContextEdited.ctx (h : s.ContextEdited t i f) : t.ctx i = (s.ctx i).map f := by rw [State.ctx, h.site]

theorem State.ContextEdited.kept (h : s.ContextEdited t i f) (sites : u.sites = t.sites) : s.ContextEdited u i f :=
  ⟨(site_congr sites i).trans h.site, fun j other => (site_congr sites j).trans (h.others j other)⟩

theorem State.ContextEdited.then (h : s.ContextEdited t i f) (h' : t.ContextEdited u i g) : s.ContextEdited u i fun c => g (f c) where
  site := by rw [h'.site, h.ctx, h.site, Option.map_map] <;> rfl
  others j other := (h'.others j other).trans (h.others j other)

/-- An edit that keeps the phase keeps every site state and every gate. -/
theorem State.ContextEdited.siteState (h : s.ContextEdited t i f) (phase : ∀ c, (f c).phase = c.phase) (j : SiteNo) : t.siteState j = s.siteState j := by
  by_cases same : j = i
  · subst same
    refine site_state_congr ((congrArg (Option.map Context.phase) h.ctx).trans ?_)
    rw [Option.map_map]
    exact congrArg (fun f => Option.map f (s.ctx j)) (funext phase)
  · rw [State.siteState, h.others j same] <;> rfl

theorem State.ContextEdited.gateOpen (h : s.ContextEdited t i f) (phase : ∀ c, (f c).phase = c.phase) (j : SiteNo) : t.gateOpen j = s.gateOpen j := by
  refine gates_of_site h.others ?_ j
  rw [State.gateOpen, State.gateOpen, h.siteState phase, h.site]

theorem State.ContextEdited.linksSettled (h : s.ContextEdited t i f) (phase : ∀ c, (f c).phase = c.phase) (hs : s.linksSettled)
    (links : t.links = s.links) : t.linksSettled := linksSettled_of_gates hs (h.gateOpen phase) links

/-! ### Per-domain records and available spares (R5) -/

theorem State.ContextEdited.domain {f : DomainRec → DomainRec} (h : s.ContextEdited t i fun c => c.editDomain d f) :
    t.domain? i d = (s.domain? i d).map f := by
  rw [State.domain?, State.domain?, h.ctx]
  cases s.ctx i with
  | none => rfl
  | some c => simp [Context.editDomain]

theorem available_of_domain {x : DomainRec} (h : s.domain? i d = some x) (a : Axis) : s.available i d a = x.available a := by rw [State.available, h]

theorem available_none (h : s.domain? i d = none) (a : Axis) : s.available i d a = 0 := by rw [State.available, h]

theorem available_congr (h : t.domain? i d = s.domain? i d) (a : Axis) : t.available i d a = s.available i d a := by
  rw [State.available, State.available, h]

theorem PerAxis.get_inc (p : PerAxis) (a b : Axis) : (p.inc a).get b = if b = a then p.get b + 1 else p.get b := by
  cases a <;> cases b <;> rfl

/-- An assignment takes one of the available spares of its axis. -/
theorem available_assigned {a : Axis} (h : t.domain? i d = (s.domain? i d).map (DomainRec.oneAssigned a)) : t.available i d a = s.available i d a - 1 := by
  cases domain : s.domain? i d with
  | none => rw [available_none domain, available_none (by rw [h, domain]; rfl)]
  | some x =>
    rw [available_of_domain domain, available_of_domain (by rw [h, domain]; rfl), DomainRec.available, DomainRec.available]
    show x.base.get a - x.defective.get a - (x.assigned.inc a).get a = _
    rw [PerAxis.get_inc, if_pos rfl]
    omega

/-! ### The assignment of a line (R86, R87) -/

/-- The assignment of a line, with the rest of what it does to the state; its claims come after (R88). -/
structure State.AssignedOnly (s t : State) (k : Key) (o : Origin) (l : LineRec) : Prop extends s.Assigned t k o l where
  context : s.ContextEdited t k.site fun c => c.editDomain k.domain (DomainRec.oneAssigned k.axis)
  elsewhere : s.SameElsewhere t k.site
  low : ∀ {r : State} {n : Nat}, r.LowTrack s n → r.LowTrack t n
  frame : FrameBut [.sites, .lines, .low] s t

/-- What an assignment does first: the count of its axis rises. -/
def State.spent (s : State) (k : Key) : State := s.modDomain k.site k.domain fun r => { r with assigned := r.assigned.inc k.axis }

theorem spent_lowTrack {r : State} {n : Nat} (h : r.LowTrack s n) : r.LowTrack (s.spent k) n := h.kept rfl rfl rfl

theorem assign_of_uncrossed {cross : List LineAddr} (h : State.uncrossAll act k cross (s.spent k) = .more m) :
    s.assign act o k cross = .more ((m.writeLine k fun r => { r with state := .assigned o, cross := [] }).assignClaims act k o) := by
  show (State.uncrossAll act k cross (s.spent k)).andThen _ = _
  rw [h] <;> rfl

theorem assign_sound (found : s.findLine k = some l) (sound : s.partnersSound k l.cross) :
    ∃ m, s.assign act o k l.cross = .more (m.assignClaims act k o) ∧ s.AssignedOnly m k o l := by
  obtain ⟨t, apart, uncrossed⟩ := uncrossAll_sound (act := act) (s := s.spent k) sound
  have edited := modDomain_contextEdited s k.site k.domain fun r => { r with assigned := r.assigned.inc k.axis }
  have written := findLine_writeLine t k
  have context : s.ContextEdited (t.writeLine k fun r => { r with state := .assigned o, cross := [] }) k.site
      fun c => c.editDomain k.domain (DomainRec.oneAssigned k.axis) := edited.kept (uncrossed.frame .sites (by decide))
  refine ⟨_, assign_of_uncrossed apart, { line := ?_, partners := fun x hx p hp => ?_, others := fun q hq apart => ?_, spare := ?_, context := context, elsewhere := ?_,
                                          low := fun h => (uncrossed.low (spent_lowTrack h)).kept (List.length_map _) rfl rfl, frame := ?_ }⟩
  · rw [written, if_pos rfl, uncrossed.line, show (s.spent k).findLine k = some l from found] <;> rfl
  · have partner : (s.spent k).partnerAt k x = some p := hp
    have less := uncrossed.partners x hx
    rw [partner, Option.bind_some] at less
    rw [written, if_neg (Key.partner_ne k x)]
    exact less
  · rw [written, if_neg hq, uncrossed.others q apart] <;> rfl
  · exact context.domain
  · exact ((sameElsewhere_of_lines rfl).trans uncrossed.elsewhere).trans (writeLine_sameElsewhere _)
  · exact (((modDomain_frame s _ _ _).then uncrossed.frame (fun _ h => h)).then (writeLine_frame t k _) (by simp))

/-- What work on the lines of site i leaves for a loss of its lines to read. -/
theorem edited_of {before : List Block} (context : s.ContextEdited t i f) (elsewhere : s.SameElsewhere t i) (frame : FrameBut before s t)
    (apart : ∀ b ∈ ([.settleList, .coTable, .sweepQueue, .stopNotices, .drainTimeout, .collectionQueue] : List Block), b ∉ before)
    (keeps : ∀ c, (f c).phase = c.phase ∧ (f c).reason = c.reason ∧ (f c).tag = c.tag) : s.Edited t i f where
  site := context.site
  others := context.others
  lines := elsewhere
  settle := congrArg (List.filter _) (frame .settleList (apart _ (by decide)))
  table := frame .coTable (apart _ (by decide))
  lists := by
    have queue : t.lists.sweepQueue = s.lists.sweepQueue := frame .sweepQueue (apart _ (by decide))
    have notices : t.lists.stopNotices = s.lists.stopNotices := frame .stopNotices (apart _ (by decide))
    have timeout : t.lists.drainTimeout = s.lists.drainTimeout := frame .drainTimeout (apart _ (by decide))
    cases hs : s.lists
    cases ht : t.lists
    simp_all
  collectionQueue := frame .collectionQueue (apart _ (by decide))
  keeps := keeps

/-- An assignment that meets a damaged partner: the spare has been counted, and the site loses its lines (R58, R87). -/
theorem assign_damaged {pre post : List LineAddr} {x : LineAddr} {p : LineRec} (sound : s.partnersSound k pre) (partner : s.partnerAt k x = some p)
    (damaged : p.syndrome ≠ 0) : ∃ m, s.assign act o k (pre ++ x :: post) = .halt (m.integrityFailure k.site p act) ∧
      s.Edited m k.site (fun c => c.editDomain k.domain (DomainRec.oneAssigned k.axis)) ∧ FrameBut [.sites, .lines, .low] s m ∧
      ∀ {r : State} {n : Nat}, r.LowTrack s n → r.LowTrack m n := by
  obtain ⟨m, halts, uncrossed⟩ := uncrossAll_damaged (act := act) (s := s.spent k) (post := post) sound partner damaged
  have edited := modDomain_contextEdited s k.site k.domain fun r => { r with assigned := r.assigned.inc k.axis }
  have frame : FrameBut [.sites, .lines, .low] s m := (modDomain_frame s _ _ _).then uncrossed.frame (fun _ h => h)
  refine ⟨m, ?_, ?_, frame, fun h => uncrossed.low (spent_lowTrack h)⟩
  · show (State.uncrossAll act k (pre ++ x :: post) (s.spent k)).andThen _ = _
    rw [halts] <;> rfl
  · exact edited_of (edited.kept (uncrossed.frame .sites (by decide))) ((sameElsewhere_of_lines (s := s) (t := s.spent k) rfl).trans uncrossed.elsewhere) frame (by decide)
      fun c => ⟨rfl, rfl, rfl⟩

/-! ### The low indication over a loss (R56) -/

theorem State.LowTrack.lost {n : Nat} (h : s.LowTrack m n) (r : LineRec) : s.LowTrack (m.integrityFailure i r act) n := by
  have store := (loseLines_emptied (s := m) (i := i) .integrity .integrity).1
  have captured := captureError_frame (m.loseLines i .integrity .integrity) i r.index act
  refine (h.freed fun r => !(r.key.site == i)).kept (u := m.integrityFailure i r act) ?_ ?_ ?_
  · exact congrArg List.length ((show _ = _ from captured .lines (by decide)).trans (by rw [store]; rfl))
  · exact (show _ = _ from captured .lowWater (by decide)).trans (by rw [store]; rfl)
  · exact (show _ = _ from captured .low (by decide)).trans (by rw [store]; rfl)

theorem State.LowTrack.finished {n : Nat} {w : WorkItem} (h : s.LowTrack m n) : s.LowTrack (m.working w).finish n := by
  have store := worked_store (t := m) w
  exact h.kept (by rw [store]) (by rw [store]) (by rw [store])

end

end Sys2Proof.Machine

end

section
/-! PIN-LINE (R93, R131, R135, R136, R139). -/

namespace Sys2Proof.Machine

section
variable {s t u m : State} {i : SiteNo} {d : DomainNo} {a : Axis} {k : Key} {c : Context} {r l : LineRec} {o : Origin}

/-! ### The append to the Settle List (R93) -/

theorem settleAppend_new {l : List SettleEntry} (new : ∀ e ∈ l, ¬ (e.site = i ∧ e.domain = d)) :
    settleAppend i d l = l ++ [{ site := i, domain := d, cursor := none, renew := false }] := by
  have absent : (l.any fun e => e.site == i && e.domain == d) = false := by simpa using fun e he site domain => new e he ⟨site, domain⟩
  rw [settleAppend, absent] <;> rfl

theorem settleAppend_again {l : List SettleEntry} (again : ∃ e ∈ l, e.site = i ∧ e.domain = d) : settleAppend i d l =
    l.map fun e => if e.site = i ∧ e.domain = d ∧ e.cursor ≠ none then { e with renew := true } else e := by
  have present : (l.any fun e => e.site == i && e.domain == d) = true := by simpa using again
  rw [settleAppend, if_pos present]
  refine List.map_congr_left fun e _ => ?_
  simp only [Option.isSome_iff_ne_none]

/-! ### Edits that pass their checks (R130, R131) -/

/-- What the three edits ask of the site and of its context. -/
structure State.EditPasses (s : State) (i : SiteNo) (d : DomainNo) (c : Context) : Prop where
  ctx : s.ctx i = some c
  phase : c.phase ∈ [.armed, .testing, .draining]
  reason : c.reason = none
  domain : d.val < c.geometry.domainCount

theorem State.EditPasses.recordRefusal {lost : Bool} {named? : Option (Axis × Nat)} (h : s.EditPasses i d c)
    (line : ∀ y, named? = some y → y.2 < c.geometry.lineCount y.1) (usable : lost = true → (s.domain? i d).map (·.state) ≠ some .unrepairable) :
    s.recordRefusal true lost named? i d = none := by
  have open_ : s.editOpen i c := ⟨by rw [siteState_eq, h.ctx]; have phase := h.phase; cases p : c.phase <;> simp [p] at phase ⊢, h.reason⟩
  rw [recordRefusal_open h.ctx fun _ => open_, if_neg (by have := h.domain; omega)]
  have inside : (named?.any fun y => decide (c.geometry.lineCount y.1 ≤ y.2)) = false := by
    cases named? with
    | none => rfl
    | some y => simpa using line y rfl
  rw [inside, if_neg Bool.false_ne_true]
  cases lost with
  | false => rfl
  | true => exact if_neg (by simpa using usable rfl)

/-- An edit that names a line and passes its checks goes on (R130). -/
theorem State.EditPasses.onRecord {lost : Bool} (h : s.EditPasses i d c) (site : s.param 1 = i.val) (domain : s.param 2 = d.val)
    (axis : axis? (s.param 3) = some a) (line : s.param 4 < c.geometry.lineCount a)
    (usable : lost = true → (s.domain? i d).map (·.state) ≠ some .unrepairable) (f : SiteNo → DomainNo → Axis → State × Reply) :
    s.onRecord true lost true f = f i d a :=
  (onRecord_eq f).trans (onParsed_passed site domain axis (h.recordRefusal (fun y named => by cases named; exact line) usable))

/-! ### PIN-LINE case by case (R135) -/

section
variable (h : s.EditPasses i d c) (site : s.param 1 = i.val) (domain : s.param 2 = d.val) (axis : axis? (s.param 3) = some a)
  (line : s.param 4 < c.geometry.lineCount a) (usable : (s.domain? i d).map (·.state) ≠ some .unrepairable)
include h site domain axis line usable

theorem servePinLine_absent (absent : s.findLine (s.paramKey i d a) = none) : servePinLine s =
    if s.available i d a = 0 then (s, { status := .refused .noSpare }) else s.pinAbsent (s.paramKey i d a) := by
  refine (h.onRecord site domain axis line (fun _ => usable) _).trans ?_
  simp only [absent]

theorem servePinLine_damaged (present : s.findLine (s.paramKey i d a) = some r) (damaged : r.syndrome ≠ 0) : servePinLine s = s.lookupFailed i r := by
  refine (h.onRecord site domain axis line (fun _ => usable) _).trans ?_
  simp only [present]
  exact if_pos damaged

theorem servePinLine_assigned (present : s.findLine (s.paramKey i d a) = some r) (sound : r.syndrome = 0) (state : r.state = .assigned o) :
    servePinLine s = (s, { status := .refused .already, words := [[.origin o]] }) := by
  refine (h.onRecord site domain axis line (fun _ => usable) _).trans ?_
  simp only [present]
  exact (if_neg (Classical.not_not.mpr sound)).trans (by rw [state])

theorem servePinLine_candidate (present : s.findLine (s.paramKey i d a) = some r) (sound : r.syndrome = 0) (state : r.state = .candidate) :
    servePinLine s = if s.available i d a = 0 then (s, { status := .refused .noSpare }) else s.pinPresent r := by
  refine (h.onRecord site domain axis line (fun _ => usable) _).trans ?_
  simp only [present]
  exact (if_neg (Classical.not_not.mpr sound)).trans (by rw [state])

end

theorem pinAbsent_full (full : s.freeCount = 0) : s.pinAbsent k = (s, { status := .refused .storeFull }) := by
  rw [State.pinAbsent, State.demand, if_pos (by omega)] <;> rfl

theorem pinAbsent_quota (ctx : s.ctx k.site = some c) (room : 0 < s.freeCount) (full : c.quota ≤ s.inUse k.site) :
    s.pinAbsent k = (s, { status := .refused .quota }) := by
  have quota : ((s.ctx k.site).map (·.quota)).getD 0 = c.quota := by rw [ctx] <;> rfl
  rw [State.pinAbsent, State.demand, if_neg (by omega), quota, if_pos (by omega)] <;> rfl

/-- The state that PIN-LINE leaves of an absent line, but for the flag of the site (R135, case 4). -/
def State.pinned (s : State) (k : Key) : State := ((s.takeLine k (.assigned .pinned)).spent k).appendSettle k.site k.domain

theorem pinAbsent_done (ctx : s.ctx k.site = some c) (room : 0 < s.freeCount) (within : s.inUse k.site < c.quota) :
    s.pinAbsent k = pinReply (s.pinned k) k true 0 0 := by
  have quota : ((s.ctx k.site).map (·.quota)).getD 0 = c.quota := by rw [ctx] <;> rfl
  rw [State.pinAbsent, State.demand, if_neg (by omega), quota, if_neg (by omega)] <;> rfl

/-! ### What PIN-LINE leaves (R131, R135) -/

/-- The edit of the context by a line pinned on axis `k.axis`. -/
abbrev Context.pinned (k : Key) (b : Context) : Context :=
  { b.editDomain k.domain (DomainRec.oneAssigned k.axis) with flags := { b.flags with hostEdited := true } }

theorem pinReply_context (created : Bool) (freed : Nat) (count : Count16)
    (h : s.ContextEdited t k.site fun b => b.editDomain k.domain (DomainRec.oneAssigned k.axis)) :
    s.ContextEdited (pinReply t k created freed count).1 k.site (Context.pinned k) := h.then (modCtx_contextEdited t k.site _)

theorem pinReply_words (created : Bool) (freed : Nat) (count : Count16)
    (h : s.ContextEdited t k.site fun b => b.editDomain k.domain (DomainRec.oneAssigned k.axis)) : (pinReply t k created freed count).2 =
      { status := .done, words := [[.flag created], [.num freed], [.num count.toNat], [.num (s.available k.site k.domain k.axis - 1)]] } := by
  rw [pinReply, available_assigned h.domain]

/-- The grant of a request that edits the context of a site and keeps its phase. -/
theorem State.HostDue.edits {q : Request} {x : Instr} {reply : Reply} {f : Context → Context} {changed : List Block} (hd : s.HostDue q)
    (row : Machine.exec x s = .next s.catchUp) (served : serve q s.unqueued = (t, reply)) (context : s.unqueued.ContextEdited t i f)
    (phase : ∀ c, (f c).phase = c.phase) (frame : FrameBut changed s.unqueued t)
    (inside : ∀ b ∈ changed, b ∈ ([.sites, .lines, .low, .settleList, .clock] : List Block)) :
    Machine.exec x s = .next (t.working (.host reply)).finish ∧ s.Grants (t.working (.host reply)).finish reply changed ∧
      s.ContextEdited (t.working (.host reply)).finish i f := by
  have apart (b : Block) (hb : b ∉ ([.sites, .lines, .low, .settleList, .clock] : List Block)) : b ∉ changed := fun mem => hb (inside b mem)
  have settled : t.linksSettled :=
    context.linksSettled phase (unqueued_linksSettled hd.settled.linksSettled) (frame .links (apart _ (by decide)))
  have rest : t.ex.atRest := by
    rw [frame.ex (apart _ (by decide)) (apart _ (by decide)) (apart _ (by decide))]
    exact hd.settled.exportAtRest
  have kept := context.kept (worked_sites (t := t) (.host reply))
  exact ⟨hd.exec row served, grants_quietly frame (apart _ (by decide)) (apart _ (by decide)) settled rest, ⟨kept.site, kept.others⟩⟩

theorem assigned_congr {s' : State} (h : s.Assigned t k o l) (before : s'.store.lines = s.store.lines ∧ s'.domain? k.site k.domain = s.domain? k.site k.domain)
    (after : u.store.lines = t.store.lines ∧ u.domain? k.site k.domain = t.domain? k.site k.domain) : s'.Assigned u k o l := by
  have found (q : Key) : s'.findLine q = s.findLine q ∧ u.findLine q = t.findLine q := ⟨findLine_congr before.1 q, findLine_congr after.1 q⟩
  refine ⟨(found k).2.trans h.line, fun x hx p hp => ?_, fun q hq apart => ?_, ?_⟩
  · rw [(found _).2]
    exact h.partners x hx p (by rw [← (found _).1]; exact hp)
  · rw [(found q).1, (found q).2]
    exact h.others q hq apart
  · rw [after.2, before.2]
    exact h.spare

theorem addFlag_domain (f : QualityFlag) : (s.addFlag i f).domain? i d = s.domain? i d := by
  have ctx : (s.addFlag i f).ctx i = _ := (modCtx_contextEdited s i fun c => { c with flags := c.flags.set f }).ctx
  rw [State.domain?, State.domain?, ctx]
  cases s.ctx i <;> rfl

theorem unqueued_lowTrack (s : State) : s.LowTrack s.unqueued 0 := (lowTrack_refl s).kept rfl rfl rfl

theorem worked_domain (w : WorkItem) : (t.working w).finish.domain? i d = t.domain? i d := by
  rw [State.domain?, State.domain?, State.ctx, worked_site] <;> rfl

theorem spent_context (s : State) (k : Key) : s.ContextEdited (s.spent k) k.site fun b => b.editDomain k.domain (DomainRec.oneAssigned k.axis) :=
  modDomain_contextEdited s k.site k.domain _

/-- PIN-LINE creates an absent line as ASSIGNED (R135, case 4). -/
theorem pinLine_creates (hd : s.HostDue .pinLine) (ctx : s.ctx k.site = some c) (served : servePinLine s.unqueued =
      if s.unqueued.available k.site k.domain k.axis = 0 then (s.unqueued, { status := .refused .noSpare }) else s.unqueued.pinAbsent k)
    (spare : 0 < s.available k.site k.domain k.axis) (room : 0 < s.freeCount) (within : s.inUse k.site < c.quota) :
    ∃ u r, exec .pinLine s = .next u ∧
      s.Grants u { status := .done, words := [[.flag true], [.num 0], [.num 0], [.num (s.available k.site k.domain k.axis - 1)]] }
        [.sites, .lines, .low, .settleList, .clock] ∧
      (s.ContextEdited u k.site (Context.pinned k) ∧ u.engine.settleList = settleAppend k.site k.domain s.engine.settleList) ∧
      s.LowAfter u 1 ∧ u.store.lines.Perm (r :: s.store.lines) ∧ r.key = k ∧ r.state = .assigned .pinned ∧ r.failCount = 0 ∧ r.cross = [] ∧ r.syndrome = 0 := by
  have reply : serve .pinLine s.unqueued = pinReply (s.unqueued.pinned k) k true 0 0 :=
    served.trans ((if_neg (Nat.ne_of_gt spare)).trans (pinAbsent_done (s := s.unqueued) ctx room within))
  have edited := spent_context (s.unqueued.takeLine k (.assigned .pinned)) k
  have context : s.unqueued.ContextEdited (s.unqueued.pinned k) k.site fun b => b.editDomain k.domain (DomainRec.oneAssigned k.axis) :=
    ⟨edited.site, edited.others⟩
  have taken : FrameBut [.sites, .lines, .low, .clock] s.unqueued ((s.unqueued.takeLine k (.assigned .pinned)).spent k) :=
    (takeLine_frame s.unqueued k _).then (modDomain_frame _ k.site k.domain _) (by simp)
  have frame : FrameBut [.sites, .lines, .low, .settleList, .clock] s.unqueued (pinReply (s.unqueued.pinned k) k true 0 0).1 :=
    (taken.then (appendSettle_frame _ k.site k.domain) (c := [.sites, .lines, .low, .clock, .settleList]) (by simp)).then
      (addFlag_frame _ k.site .hostEdited) (by simp)
  rw [← Prod.eta (pinReply _ _ _ _ _), pinReply_words true 0 0 context] at reply
  obtain ⟨runs, grants, pinned⟩ := hd.edits (exec_grant_of_due hd.due (Or.inl (by decide))) reply (pinReply_context true 0 0 context) (fun _ => rfl)
    frame (by simp)
  have low := takeLine_lowTrack (unqueued_lowTrack s) rfl k (.assigned .pinned)
  refine ⟨_, s.unqueued.taken k (.assigned .pinned), runs, grants, ⟨pinned, (worked_settleList _).trans rfl⟩, ?_, ?_, rfl, rfl, rfl, rfl, rfl⟩
  · exact (low.kept (u := (pinReply (s.unqueued.pinned k) k true 0 0).1) rfl rfl rfl).finished.low
  · rw [worked_store]
    exact insertLine_perm _ _

/-- PIN-LINE assigns a present CANDIDATE line (R135, case 3). -/
theorem pinLine_assigns (hd : s.HostDue .pinLine) (served : servePinLine s.unqueued =
      if s.unqueued.available k.site k.domain k.axis = 0 then (s.unqueued, { status := .refused .noSpare }) else s.unqueued.pinPresent r)
    (present : s.findLine k = some r) (spare : 0 < s.available k.site k.domain k.axis) (partners : s.partnersSound k r.cross) :
    ∃ u, exec .pinLine s = .next u ∧
      s.Grants u { status := .done, words := [[.flag false], [.num (s.store.lines.length - u.store.lines.length)], [.num r.failCount.toNat],
        [.num (s.available k.site k.domain k.axis - 1)]] } [.sites, .lines, .low, .settleList] ∧
      (s.ContextEdited u k.site (Context.pinned k) ∧ u.engine.settleList = settleAppend k.site k.domain s.engine.settleList) ∧
      s.Assigned u k .pinned r ∧ s.LowAfter u 0 := by
  obtain ⟨m, assigns, assigned⟩ := assign_sound (s := s.unqueued) (k := k) (act := .lookup) (o := .pinned) present partners
  have reply : serve .pinLine s.unqueued = pinReply (m.appendSettle k.site k.domain) k false (s.unqueued.linesFreed m) r.failCount := by
    refine served.trans ((if_neg (Nat.ne_of_gt spare)).trans ?_)
    rw [State.pinPresent, (findLine_some present).2, assigns] <;> rfl
  have context : s.unqueued.ContextEdited (m.appendSettle k.site k.domain) k.site fun b => b.editDomain k.domain (DomainRec.oneAssigned k.axis) :=
    assigned.context.kept rfl
  rw [← Prod.eta (pinReply _ _ _ _ _), pinReply_words false _ _ context] at reply
  generalize pinned : (pinReply (m.appendSettle k.site k.domain) k false (s.unqueued.linesFreed m) r.failCount).1 = v at reply
  have edited := pinReply_context false (s.unqueued.linesFreed m) r.failCount context
  have frame : FrameBut [.sites, .lines, .low, .settleList] s.unqueued v := by
    rw [← pinned]
    exact (assigned.frame.then (appendSettle_frame m k.site k.domain) (c := [.sites, .lines, .low, .settleList]) (by simp)).then
      (addFlag_frame _ k.site .hostEdited) (by simp)
  have store : v.store = m.store := by rw [← pinned] <;> rfl
  have domain : v.domain? k.site k.domain = m.domain? k.site k.domain := by
    rw [← pinned]
    exact addFlag_domain .hostEdited
  have settle : v.engine.settleList = settleAppend k.site k.domain s.engine.settleList := by
    rw [← pinned]
    exact congrArg (settleAppend k.site k.domain) (assigned.frame .settleList (by decide))
  rw [pinned] at edited
  obtain ⟨runs, grants, context⟩ := hd.edits (exec_grant_of_due hd.due (Or.inl (by decide))) reply edited (fun _ => rfl) frame (by simp)
  refine ⟨_, runs, ?_, ⟨context, (worked_settleList _).trans settle⟩, ?_, ?_⟩
  · rw [worked_store, store]
    exact grants
  · exact assigned_congr assigned.toAssigned ⟨rfl, rfl⟩ ⟨by rw [worked_store, store], (worked_domain _).trans domain⟩
  · exact ((assigned.low (unqueued_lowTrack s)).kept (u := v) (by rw [store]) (by rw [store]) (by rw [store])).finished.low

end

end Sys2Proof.Machine

open Sys2Proof Sys2Proof.Machine

/-- Settles O37. -/
theorem pinLineAssignsOrCreates : Obligations.PinLineAssignsOrCreates := by
  unfold Obligations.PinLineAssignsOrCreates
  refine ⟨fun i d l => ⟨settleAppend_new, settleAppend_again⟩, fun s i d a c hd site domain axis ctx phase reason inside line _ usable => ?_⟩
  have row : exec .pinLine s = .next s.catchUp := exec_grant_of_due hd.due (Or.inl (by decide))
  have passes : s.unqueued.EditPasses i d c := ⟨ctx, phase, reason, inside⟩
  refine ⟨?_, ?_, ?_, ?_, ?_, ?_, ?_, ?_⟩
  · exact fun r o present sound state => hd.refuses row (servePinLine_assigned passes site domain axis line usable present sound state)
  · intro candidates none
    refine hd.refuses row ?_
    cases found : s.unqueued.findLine (s.unqueued.paramKey i d a) with
    | none => exact (servePinLine_absent passes site domain axis line usable found).trans (if_pos none)
    | some r =>
      obtain ⟨sound, state⟩ := candidates r found
      exact (servePinLine_candidate passes site domain axis line usable found sound state).trans (if_pos none)
  · exact fun r present damaged => hd.losesAtOnce row (servePinLine_damaged passes site domain axis line usable present damaged)
  · rintro r p present sound state spare ⟨pre, x, post, cross, before, partner, damaged⟩
    have key : r.key = s.paramKey i d a := (findLine_some present).2
    obtain ⟨m, halts, edited, frame, low⟩ := assign_damaged (s := s.unqueued) (act := .lookup) (o := .pinned) (post := post) before partner damaged
    have served : serve .pinLine s.unqueued = m.lookupFailed i p := by
      refine (servePinLine_candidate passes site domain axis line usable present sound state).trans ((if_neg (by show ¬ s.available i d a = 0; omega)).trans ?_)
      rw [State.pinPresent, cross, halts, key] <;> rfl
    rw [key] at edited
    exact hd.loses row served edited frame (by simp) ((low (unqueued_lowTrack s)).lost p).finished.low
  · intro absent spare full
    exact hd.refuses row ((servePinLine_absent passes site domain axis line usable absent).trans
      ((if_neg (by show ¬ s.available i d a = 0; omega)).trans (pinAbsent_full full)))
  · intro absent spare room full
    exact hd.refuses row ((servePinLine_absent passes site domain axis line usable absent).trans
      ((if_neg (by show ¬ s.available i d a = 0; omega)).trans (pinAbsent_quota ctx room full)))
  · exact fun absent spare room within => pinLine_creates (k := s.paramKey i d a) hd ctx (servePinLine_absent passes site domain axis line usable absent) spare room within
  · exact fun r present sound state spare partners =>
      pinLine_assigns (k := s.paramKey i d a) hd (servePinLine_candidate passes site domain axis line usable present sound state) present spare partners

end

section
/-! RETIRE-LINE and MARK-SPARE-DEFECTIVE (R5, R131, R137, R138, R139). -/

namespace Sys2Proof.Machine

section
variable {s t u m : State} {i : SiteNo} {d : DomainNo} {a : Axis} {k : Key} {c : Context} {r : LineRec}

/-! ### Per-domain records (R5) -/

theorem domain?_eq (s : State) (i : SiteNo) (d : DomainNo) : s.domain? i d = match s.ctx i with | some c => c.domains[d.val]? | none => none := by
  unfold State.domain?
  cases s.ctx i <;> rfl

theorem modify_domain {l : List DomainRec} {n : Nat} {x : DomainRec} (h : l[n]? = some x) (f : DomainRec → DomainRec) : l.modify n f = l.set n (f x) := by
  refine List.ext_getElem? fun k => ?_
  rw [List.getElem?_modify, List.getElem?_set]
  obtain ⟨inside, value⟩ := List.getElem?_eq_some_iff.mp h
  by_cases same : n = k
  · subst same
    simp [inside, value]
  · simp [same]

theorem State.ContextEdited.site_of_ctx {f : Context → Context} (h : s.ContextEdited t i f) (ctx : s.ctx i = some c) :
    t.site i = { s.site i with ctx := some (f c) } := by rw [h.site, ctx, Option.map_some]

/-! ### One line freed (R52) -/

theorem keysRise_nodup {l : List LineRec} (rises : keysRise l) : (l.map (·.key)).Nodup := by
  rw [List.Nodup, List.pairwise_map]
  exact rises.imp fun {x y} less same => absurd less (by rw [same]; exact Nat.lt_irrefl _)

theorem freeLine_length (rises : keysRise s.store.lines) (present : s.findLine k = some r) :
    (s.freeLine k).store.lines.length + 1 = s.store.lines.length := by
  obtain ⟨mem, key⟩ := findLine_some present
  have once : (s.store.lines.map (·.key)).count k = 1 :=
    (keysRise_nodup rises).count.trans (if_pos (List.mem_map.mpr ⟨r, mem, key⟩))
  have split := List.length_eq_countP_add_countP (l := s.store.lines) fun r => !(r.key == k)
  rw [List.count, List.countP_map] at once
  have lines : (s.freeLine k).store.lines = s.store.lines.filter fun r => !(r.key == k) := rfl
  rw [lines, ← List.countP_eq_length_filter, split]
  refine congrArg (_ + ·) (once.symm.trans ?_)
  refine List.countP_congr fun x _ => ?_
  simp

theorem State.Stays.length_le (h : s.Stays t) : t.store.lines.length ≤ s.store.lines.length := by
  simpa using h.tags.length_le

theorem State.Stays.keysRise (h : s.Stays t) (rises : keysRise s.store.lines) : keysRise t.store.lines := by
  rw [keysRise_iff_tags] at rises ⊢
  exact rises.sublist h.tags

/-! ### RETIRE-LINE (R137) -/

section
variable (h : s.EditPasses i d c) (site : s.param 1 = i.val) (domain : s.param 2 = d.val) (axis : axis? (s.param 3) = some a)
include h site domain axis

theorem serveRetireLine_passed (line : s.param 4 < c.geometry.lineCount a) : serveRetireLine s = match s.findLine (s.paramKey i d a) with
    | none => (s, { status := .refused .notFound })
    | some r =>
      if r.syndrome ≠ 0 then s.lookupFailed i r
      else if r.isCandidate then s.retire r
      else (s, { status := .refused .lineAssigned }) :=
  h.onRecord (lost := false) site domain axis line nofun _

theorem serveMarkSpareDefective_passed (usable : (s.domain? i d).map (·.state) ≠ some .unrepairable) : serveMarkSpareDefective s =
    if s.available i d a = 0 then (s, { status := .refused .noSpare })
    else
      let t := ((s.modDomain i d fun r => { r with defective := r.defective.inc a }).appendSettle i d).addFlag i .hostEdited
      (t, { status := .done, words := [[.num (((t.domain? i d).map fun r => r.defective.get a).getD 0)], [.num (t.available i d a)]] }) :=
  (onRecord_eq _).trans (onParsed_passed site domain axis (h.recordRefusal (fun _ named => absurd named nofun) fun _ => usable))

end

/-- The edit of a context that a host edit does at least (R131). -/
abbrev Context.hostEdited (c : Context) : Context := { c with flags := { c.flags with hostEdited := true } }

/-- RETIRE-LINE takes a CANDIDATE line out of the store and out of the lists of its partners. -/
theorem retireLine_done (hd : s.HostDue .retireLine) (served : serveRetireLine s.unqueued = s.unqueued.retire r) (ctx : s.ctx k.site = some c)
    (present : s.findLine k = some r) (rises : keysRise s.store.lines) (partners : s.partnersSound k r.cross) :
    ∃ u, exec .retireLine s = .next u ∧
      s.Grants u { status := .done, words := [[.num r.cross.length], [.num (s.store.lines.length - u.store.lines.length - 1)], [.num r.failCount.toNat]] }
        [.sites, .lines, .low] ∧
      u.site k.site = { s.site k.site with ctx := some c.hostEdited } ∧ (∀ j, j ≠ k.site → u.site j = s.site j) ∧
      u.findLine k = none ∧ s.LowAfter u 0 ∧
      (∀ x ∈ r.cross, ∀ p, s.partnerAt k x = some p → u.partnerAt k x = p.without k.addr) ∧
      (∀ q, q ≠ k → (∀ x ∈ r.cross, q ≠ k.partner x) → u.findLine q = s.findLine q) := by
  obtain ⟨m, apart, uncrossed⟩ := uncrossAll_sound (act := .lookup) (s := s.unqueued) (k := k) partners
  have key := (findLine_some present).2
  have stays : s.unqueued.Stays m := by
    have goes := uncrossAll_goes (g := True) .lookup k r.cross s.unqueued
    rw [apart] at goes
    exact goes
  have line : m.findLine k = some r := uncrossed.line.trans present
  have one := freeLine_length (stays.keysRise rises) line
  have fewer := stays.length_le
  have reply : serve .retireLine s.unqueued = ((m.freeLine k).addFlag k.site .hostEdited,
      { status := .done, words := [[.num r.cross.length], [.num (s.store.lines.length - (m.freeLine k).store.lines.length - 1)], [.num r.failCount.toNat]] }) := by
    refine served.trans ?_
    have count : s.unqueued.linesFreed m = s.store.lines.length - (m.freeLine k).store.lines.length - 1 := by
      show s.store.lines.length - m.store.lines.length = _
      omega
    rw [State.retire, key, apart, ← count] <;> rfl
  have context : s.unqueued.ContextEdited ((m.freeLine k).addFlag k.site .hostEdited) k.site Context.hostEdited := by
    have sites : m.sites = s.unqueued.sites := uncrossed.frame .sites (by decide)
    have flagged := modCtx_contextEdited (m.freeLine k) k.site fun c => { c with flags := c.flags.set .hostEdited }
    have before (j : SiteNo) : (m.freeLine k).site j = s.unqueued.site j := site_congr sites j
    exact ⟨flagged.site.trans (by rw [State.ctx, before] <;> rfl), fun j other => (flagged.others j other).trans (before j)⟩
  have frame : FrameBut [.sites, .lines, .low] s.unqueued ((m.freeLine k).addFlag k.site .hostEdited) :=
    (uncrossed.frame.then (freeLine_frame m k) (c := [.lines, .low]) (by simp)).then (addFlag_frame _ k.site .hostEdited) (by simp)
  obtain ⟨runs, grants, edited⟩ := hd.edits (exec_grant_of_due hd.due (Or.inl (by decide))) reply context (fun _ => rfl) frame (by simp)
  have found (w : WorkItem) (q : Key) : (((m.freeLine k).addFlag k.site .hostEdited).working w).finish.findLine q = (m.freeLine k).findLine q :=
    findLine_congr (congrArg LineStore.lines (worked_store w)) q
  refine ⟨_, runs, ?_, edited.site_of_ctx ctx, edited.others, ?_, ?_, fun x hx p hp => ?_, fun q hq others => ?_⟩
  · rw [worked_store]
    exact grants
  · rw [found, findLine_freeLine, if_pos rfl]
  · exact (((uncrossed.low (unqueued_lowTrack s)).freed _).kept (u := (m.freeLine k).addFlag k.site .hostEdited) rfl rfl rfl).finished.low
  · have less := uncrossed.partners x hx
    rw [show s.unqueued.partnerAt k x = some p from hp, Option.bind_some] at less
    rw [State.partnerAt, found, findLine_freeLine, if_neg (Key.partner_ne k x)]
    exact less
  · rw [found, findLine_freeLine, if_neg hq]
    exact uncrossed.others q others

/-- RETIRE-LINE meets a damaged partner. -/
theorem retireLine_loses (hd : s.HostDue .retireLine) (served : serveRetireLine s.unqueued = s.unqueued.retire r) (key : r.key = k) {p : LineRec}
    (bad : s.firstBadPartner r p) : s.LookupLoses .retireLine k.site p.index id fun u => s.LowAfter u 0 := by
  obtain ⟨pre, x, post, cross, before, partner, damaged⟩ := bad
  obtain ⟨m, halts, uncrossed⟩ := uncrossAll_damaged (act := .lookup) (s := s.unqueued) (post := post) before partner damaged
  have reply : serve .retireLine s.unqueued = m.lookupFailed r.key.site p := by
    refine served.trans ?_
    rw [State.retire, cross, halts] <;> rfl
  rw [key] at reply uncrossed
  have sites : m.sites = s.unqueued.sites := uncrossed.frame .sites (by decide)
  have context : s.unqueued.ContextEdited m k.site id :=
    ⟨by rw [site_congr sites, Option.map_id]; rfl, fun j _ => site_congr sites j⟩
  exact hd.loses (exec_grant_of_due hd.due (Or.inl (by decide))) reply
    (edited_of context uncrossed.elsewhere uncrossed.frame (by decide) fun _ => ⟨rfl, rfl, rfl⟩) uncrossed.frame (by simp)
    ((uncrossed.low (unqueued_lowTrack s)).lost p).finished.low

/-! ### MARK-SPARE-DEFECTIVE (R138) -/

theorem markSpareDefective_done {x : DomainRec} (hd : s.HostDue .markSpareDefective) (ctx : s.ctx i = some c) (record : s.domain? i d = some x)
    (spare : 0 < s.available i d a) (served : serveMarkSpareDefective s.unqueued =
      if s.unqueued.available i d a = 0 then (s.unqueued, { status := .refused .noSpare })
      else
        let t := ((s.unqueued.modDomain i d fun r => { r with defective := r.defective.inc a }).appendSettle i d).addFlag i .hostEdited
        (t, { status := .done, words := [[.num (((t.domain? i d).map fun r => r.defective.get a).getD 0)], [.num (t.available i d a)]] })) :
    ∃ u, exec .markSpareDefective s = .next u ∧
      s.Grants u { status := .done, words := [[.num (x.defective.get a + 1)], [.num (s.available i d a - 1)]] } [.sites, .settleList] ∧
      u.site i = { s.site i with ctx := some { c with
        flags := { c.flags with hostEdited := true }
        domains := c.domains.set d.val { x with defective := x.defective.inc a } } } ∧
      (∀ j, j ≠ i → u.site j = s.site j) ∧ u.engine.settleList = settleAppend i d s.engine.settleList := by
  generalize marked : ((s.unqueued.modDomain i d fun r => { r with defective := r.defective.inc a }).appendSettle i d).addFlag i .hostEdited = v at served
  have counted := modDomain_contextEdited s.unqueued i d fun r => { r with defective := r.defective.inc a }
  have domain : v.domain? i d = some { x with defective := x.defective.inc a } := by
    rw [← marked, addFlag_domain]
    refine Eq.trans (counted.domain) ?_
    rw [show s.unqueued.domain? i d = some x from record, Option.map_some]
  have context : s.unqueued.ContextEdited v i fun c =>
      Context.hostEdited (c.editDomain d fun r => { r with defective := r.defective.inc a }) := by
    rw [← marked]
    exact (counted.kept (u := (s.unqueued.modDomain i d _).appendSettle i d) rfl).then (modCtx_contextEdited _ i _)
  have frame : FrameBut [.sites, .settleList] s.unqueued v := by
    rw [← marked]
    exact ((modDomain_frame s.unqueued i d _).then (appendSettle_frame _ i d) (c := [.sites, .settleList]) (by simp)).then
      (addFlag_frame _ i .hostEdited) (by simp)
  have settle : v.engine.settleList = settleAppend i d s.engine.settleList := by rw [← marked] <;> rfl
  have defective : ((v.domain? i d).map fun r => r.defective.get a).getD 0 = x.defective.get a + 1 := by
    rw [domain, Option.map_some, Option.getD_some, PerAxis.get_inc, if_pos rfl]
  have available : v.available i d a = s.available i d a - 1 := by
    rw [available_of_domain domain, available_of_domain record, DomainRec.available, DomainRec.available, PerAxis.get_inc, if_pos rfl]
    show x.base.get a - (x.defective.get a + 1) - x.assigned.get a = _
    omega
  have reply : serve .markSpareDefective s.unqueued =
      (v, { status := .done, words := [[.num (x.defective.get a + 1)], [.num (s.available i d a - 1)]] }) := by
    refine served.trans ((if_neg (Nat.ne_of_gt spare)).trans ?_)
    simp only [defective, available]
  obtain ⟨runs, grants, edited⟩ := hd.edits (exec_grant_of_due hd.due (Or.inl (by decide))) reply context (fun _ => rfl) frame (by simp)
  refine ⟨_, runs, grants, ?_, edited.others, (worked_settleList _).trans settle⟩
  have named : c.domains[d.val]? = some x := by
    rw [domain?_eq, ctx] at record
    exact record
  rw [edited.site_of_ctx ctx]
  simp only [Context.hostEdited, modify_domain named]

end

end Sys2Proof.Machine

open Sys2Proof Sys2Proof.Machine

/-- Settles O38. -/
theorem retireAndMarkSpare : Obligations.RetireAndMarkSpare := by
  unfold Obligations.RetireAndMarkSpare
  refine ⟨fun s i d => ⟨domain?_eq s i d, fun x record => ⟨available_of_domain record .row, available_of_domain record .column⟩, available_none⟩,
    fun p => ⟨rfl, rfl, rfl, rfl⟩, fun s i d a c hd site domain axis ctx phase reason inside line _ => ?_,
    fun s i d a c x hd site domain axis ctx phase reason inside record usable => ?_⟩
  · have row : exec .retireLine s = .next s.catchUp := exec_grant_of_due hd.due (Or.inl (by decide))
    have served := serveRetireLine_passed (s := s.unqueued) ⟨ctx, phase, reason, inside⟩ site domain axis line
    have retires {r : LineRec} (present : s.findLine (s.paramKey i d a) = some r) (sound : r.syndrome = 0) (state : r.state = .candidate) :
        serveRetireLine s.unqueued = s.unqueued.retire r := by
      rw [served, show s.unqueued.findLine (s.unqueued.paramKey i d a) = some r from present]
      exact (if_neg (Classical.not_not.mpr sound)).trans (if_pos (by rw [LineRec.isCandidate, state]; rfl))
    refine ⟨fun absent => ?_, fun r o present sound state => ?_, fun r present damaged => ?_, fun r p present sound state bad => ?_,
      fun r present sound state rises partners => ?_⟩
    · refine hd.refuses row (served.trans ?_)
      rw [show s.unqueued.findLine (s.unqueued.paramKey i d a) = none from absent]
    · refine hd.refuses row (served.trans ?_)
      rw [show s.unqueued.findLine (s.unqueued.paramKey i d a) = some r from present]
      exact (if_neg (Classical.not_not.mpr sound)).trans (if_neg (by rw [LineRec.isCandidate, state]; exact Bool.false_ne_true))
    · refine hd.losesAtOnce row (served.trans ?_)
      rw [show s.unqueued.findLine (s.unqueued.paramKey i d a) = some r from present]
      exact if_pos damaged
    · exact retireLine_loses hd (retires present sound state) (findLine_some present).2 bad
    · exact retireLine_done (k := s.paramKey i d a) hd (retires present sound state) ctx present rises partners
  · have state : (s.domain? i d).map (·.state) ≠ some .unrepairable := by
      rw [record]
      exact fun same => usable (Option.some.inj same)
    have served := serveMarkSpareDefective_passed (s := s.unqueued) ⟨ctx, phase, reason, inside⟩ site domain axis state
    exact ⟨fun none => hd.refuses (exec_grant_of_due hd.due (Or.inl (by decide))) (served.trans (if_pos none)),
      fun spare => markSpareDefective_done hd ctx record spare served⟩

end

section
/-! Record words accepted, and the release of a site with its staged context (R22, R37, R167, R168). -/

namespace Sys2Proof.Machine

section
variable {s t u : State} {i : SiteNo} {x : Staged} {g : Geometry} {c : Context}

/-! ### The promotion of a staged context (R22) -/

/-- The site without its staged context. -/
def State.unstaged (s : State) (i : SiteNo) : State := s.modSite i fun y => { y with staged := none }

theorem unstaged_site (j : SiteNo) : (s.unstaged i).site j = if j = i then { s.site i with staged := none } else s.site j := modSite_site s i j _

/-- A staged context that can become current (R22). -/
abbrev State.carryFits (s : State) (g : Geometry) (l : List CarryIn) : Bool := carryInside g l && carrySpared g l && decide (l.length ≤ s.freeCount)

theorem promote_none (none : (s.site i).staged = none) : s.promote i = s := by rw [State.promote, none]

theorem promote_fits (staged : (s.site i).staged = some x) (active : (s.template x.template).active = some g) (fits : s.carryFits g x.carryIn = true) :
    s.promote i = (s.unstaged i).makeCurrent i x g := by
  have active' : ((s.modSite i fun y => { y with staged := none }).template x.template).active = some g := active
  simp only [State.promote, staged, active']
  exact if_pos fits

theorem promote_fails (staged : (s.site i).staged = some x)
    (fails : ∀ g, (s.template x.template).active = some g → s.carryFits g x.carryIn = false) :
    s.promote i = (s.unstaged i).postNoticeTag i .stageFailed x.tag := by
  simp only [State.promote, staged]
  cases active : (s.template x.template).active with
  | none =>
    have active' : ((s.modSite i fun y => { y with staged := none }).template x.template).active = none := active
    simp only [active'] <;> rfl
  | some g =>
    have active' : ((s.modSite i fun y => { y with staged := none }).template x.template).active = some g := active
    simp only [active']
    exact if_neg (show ¬ s.carryFits g x.carryIn = true by rw [fails g active]; exact Bool.false_ne_true)

/-- The cases of a promotion, by what the staged context comes to. -/
theorem promote_kinds (s : State) (i : SiteNo) : (s.site i).staged = none ∨ ∃ x, (s.site i).staged = some x ∧
    ((∃ g, (s.template x.template).active = some g ∧ s.carryFits g x.carryIn = true) ∨
      ∀ g, (s.template x.template).active = some g → s.carryFits g x.carryIn = false) := by
  cases staged : (s.site i).staged with
  | none => exact .inl rfl
  | some x =>
    refine .inr ⟨x, rfl, ?_⟩
    cases active : (s.template x.template).active with
    | none => exact .inr nofun
    | some g =>
      cases fits : s.carryFits g x.carryIn with
      | true => exact .inl ⟨g, rfl, fits⟩
      | false =>
        exact .inr fun g' same => by
          cases same
          exact fits

theorem carryFits_iff : s.carryFits g x.carryIn = true ↔
    (∀ e ∈ x.carryIn, e.domain.val < g.domainCount ∧ e.addr.toNat < g.lineCount e.axis) ∧
    (∀ e ∈ x.carryIn, (x.carryIn.filter fun f => f.domain == e.domain && f.axis == e.axis).length ≤ g.spares e.axis) ∧ x.carryIn.length ≤ s.freeCount := by
  rw [State.carryFits, Bool.and_eq_true, Bool.and_eq_true, carryInside_iff, carrySpared_iff, decide_eq_true_iff, and_assoc]
  simp only [not_exists, not_and, not_or, Nat.not_le, Nat.not_lt]

theorem promote_site_ne {j : SiteNo} (other : j ≠ i) : (s.promote i).site j = s.site j := by
  have unstaged : (s.unstaged i).site j = s.site j := by rw [unstaged_site, if_neg other]
  rcases promote_kinds s i with none | ⟨x, staged, ⟨g, active, fits⟩ | fails⟩
  · rw [promote_none none]
  · rw [promote_fits staged active fits, makeCurrent_site, if_neg other, unstaged]
  · rw [promote_fails staged fails]
    exact unstaged

theorem unstaged_frame (s : State) (i : SiteNo) : FrameBut [.sites] s (s.unstaged i) := modSite_frame s i _

theorem promote_frame (s : State) (i : SiteNo) : FrameBut [.templates, .sites, .stopNotices, .lines, .low, .clock] s (s.promote i) := by
  rcases promote_kinds s i with none | ⟨x, staged, ⟨g, active, fits⟩ | fails⟩
  · rw [promote_none none]
    exact .refl s _
  · rw [promote_fits staged active fits]
    exact (unstaged_frame s i).then (makeCurrent_frame _ i x g) (by simp)
  · rw [promote_fails staged fails]
    exact (unstaged_frame s i).then (postNoticeTag_frame _ i _ _) (by simp)

/-- A fresh context is made current on a site whose staged context has gone. -/
theorem promote_made (staged : (s.site i).staged = some x) (active : (s.template x.template).active = some g) (fits : s.carryFits g x.carryIn = true) :
    s.MadeCurrent (s.promote i) i x g ∧ ((s.promote i).site i).staged = none ∧ FrameBut [.templates, .sites, .lines, .low, .clock] s (s.promote i) := by
  rw [promote_fits staged active fits]
  have made := makeCurrent_made (s.unstaged i) i x g
  have self : (s.unstaged i).site i = { s.site i with staged := none } := by rw [unstaged_site, if_pos rfl]
  refine ⟨⟨made.template, made.templates, made.context, ?_, fun j other => ?_, made.lines, lowAfter_congr made.lowAfter ⟨rfl, rfl⟩, made.low⟩, ?_, ?_⟩
  · obtain ⟨host, head, deadline⟩ := made.holds
    exact ⟨host, by rw [head, self], deadline⟩
  · rw [made.sites j other, unstaged_site, if_neg other]
  · rw [makeCurrent_staged, self]
  · exact (unstaged_frame s i).then (makeCurrent_frame _ i x g) (by simp)

/-- A staged context that cannot become current is dropped with a Stop Notice. -/
theorem promote_dropped (staged : (s.site i).staged = some x)
    (fails : ∀ g, (s.template x.template).active = some g → s.carryFits g x.carryIn = false) :
    (s.promote i).site i = { s.site i with staged := none } ∧ (∀ j, j ≠ i → (s.promote i).site j = s.site j) ∧
      (s.promote i).lists.stopNotices = noticePosted i .stageFailed x.tag s.lists.stopNotices ∧ FrameBut [.sites, .stopNotices] s (s.promote i) := by
  refine ⟨?_, fun j => promote_site_ne, ?_, ?_⟩ <;> rw [promote_fails staged fails]
  · exact (unstaged_site i).trans (if_pos rfl)
  · rfl
  · exact (unstaged_frame s i).then (postNoticeTag_frame _ i _ _) (by simp)

/-! ### The release, up to the promotion (R37) -/

theorem vacated_site (j : SiteNo) : (s.vacated i).site j =
    if j = i then { ctx := none, hostHold := false, staged := (s.site i).staged, headHold := (s.site i).headHold, drainDeadline := none } else s.site j := by
  have used (t : State) (k : SiteNo) : (t.unuseTemplate i).site k = t.site k := unuseTemplate_site k
  simp only [State.vacated, State.dropContext, modSite_site, used]
  by_cases same : j = i
  · subst same
    simp only [if_true] <;> rfl
  · simp only [same, if_false] <;> rfl

theorem vacated_frame (s : State) (i : SiteNo) :
    FrameBut [.templates, .sites, .lines, .low, .settleList, .coTable, .collectionQueue] s (s.vacated i) := by
  have dropped (t : State) : FrameBut [.templates, .sites] t (((t.unuseTemplate i).dropContext i).modSite i fun x => { x with hostHold := false }) :=
    ((unuseTemplate_frame t i).then (modSite_frame _ i _) (c := [.templates, .sites]) (by simp)).then (modSite_frame _ i _) (by simp)
  have freed := (freeSite_frame s i).then (collectionQueue_frame _ ((s.freeSite i).ex.collectionQueue.filter fun x => !(x == i)))
    (c := [.lines, .low, .settleList, .coTable, .collectionQueue]) (by simp)
  exact freed.then (dropped _) (by simp)

theorem vacated_freed (s : State) (i : SiteNo) : s.SiteFreed (s.vacated i) i := by
  have kept (t : State) : (t.unuseTemplate i).store = t.store ∧ (t.unuseTemplate i).engine = t.engine ∧ (t.unuseTemplate i).co = t.co := by
    unfold State.unuseTemplate
    split <;> exact ⟨rfl, rfl, rfl⟩
  obtain ⟨store, engine, co⟩ := kept { s.freeSite i with ex := { (s.freeSite i).ex with collectionQueue := (s.freeSite i).ex.collectionQueue.filter fun x => !(x == i) } }
  exact siteFreed_congr (freeSite_freed s i) ⟨rfl, store⟩ ⟨rfl, congrArg (fun e => e.settleList) engine⟩ ⟨rfl, congrArg (fun e => e.table) co⟩

theorem vacated_templateFreed (ctx : s.ctx i = some c) : s.TemplateFreed (s.vacated i) c.template :=
  templateFreed_congr (unuseTemplate_freed (s := { s.freeSite i with ex := { (s.freeSite i).ex with
    collectionQueue := (s.freeSite i).ex.collectionQueue.filter fun x => !(x == i) } }) ctx) ⟨rfl, rfl⟩

theorem release_frame (s : State) (i : SiteNo) :
    FrameBut [.templates, .sites, .stopNotices, .lines, .low, .settleList, .coTable, .collectionQueue, .clock] s (s.release i) :=
  (vacated_frame s i).then (promote_frame _ i) (by simp)

theorem release_ex : (s.release i).ex = { s.ex with collectionQueue := s.ex.collectionQueue.filter fun x => !(x == i) } := by
  rw [release_eq, promote_ex, vacated_ex]

theorem release_site_ne {j : SiteNo} (other : j ≠ i) : (s.release i).site j = s.site j := by
  rw [release_eq, promote_site_ne other, vacated_site, if_neg other]

theorem release_not_testing : (s.release i).siteState i ≠ .testing := by
  have vacant : (s.vacated i).siteState i = .vacant := by rw [vacated_siteState, if_pos rfl]
  rw [release_eq]
  rcases promote_siteState_self (s.vacated i) i vacant with state | state <;> rw [state] <;> decide

/-! ### The release looks at no access of the bus -/

theorem makeCurrent_clearAccess : s.clearAccess.makeCurrent i x g = (s.makeCurrent i x g).clearAccess := by
  rw [makeCurrent_eq, makeCurrent_eq]
  rw [show s.clearAccess.placeContext i x g = (s.placeContext i x g).clearAccess from rfl]
  exact List.foldl_hom State.clearAccess (g₁ := fun s e => State.carryIn s i e) (g₂ := fun s e => State.carryIn s i e) fun _ _ => rfl

theorem promote_clearAccess : s.clearAccess.promote i = (s.promote i).clearAccess := by
  rcases promote_kinds s i with none | ⟨x, staged, ⟨g, active, fits⟩ | fails⟩
  · rw [promote_none none, promote_none (s := s.clearAccess) none]
  · rw [promote_fits staged active fits, promote_fits (s := s.clearAccess) staged active fits]
    exact makeCurrent_clearAccess (s := s.unstaged i)
  · rw [promote_fails staged fails, promote_fails (s := s.clearAccess) staged fails] <;> rfl

theorem unuseTemplate_clearAccess : s.clearAccess.unuseTemplate i = (s.unuseTemplate i).clearAccess := by
  have same : s.clearAccess.ctx i = s.ctx i := rfl
  unfold State.unuseTemplate
  rw [same]
  cases s.ctx i <;> rfl

theorem vacated_clearAccess : s.clearAccess.vacated i = (s.vacated i).clearAccess := by
  have used := unuseTemplate_clearAccess (i := i) (s := { s.freeSite i with ex := { (s.freeSite i).ex with
    collectionQueue := (s.freeSite i).ex.collectionQueue.filter fun x => !(x == i) } })
  exact congrArg (fun t : State => (t.dropContext i).modSite i fun x => { x with hostHold := false }) used

theorem release_clearAccess : s.clearAccess.release i = (s.release i).clearAccess := by
  rw [release_eq, release_eq, vacated_clearAccess, promote_clearAccess]

end

/-! ### The end of a record (R168) -/

section
variable {s : State} {e : Exporter} {d : Descriptor} {r : Record} {n : Nat}

theorem makeCurrent_flushPending (e : Exporter) (d : Descriptor) (b : Bool) :
    ({ e with flushPending := b } : Exporter).makeCurrent d = { e.makeCurrent d with flushPending := b } := by
  unfold Exporter.makeCurrent
  cases d.nextAddr with
  | none => rfl
  | some a =>
    dsimp only
    split <;> rfl

theorem promoteNext_flushPending (e : Exporter) (b : Bool) : ({ e with flushPending := b } : Exporter).promoteNext = { e.promoteNext with flushPending := b } := by
  by_cases idle : e.current ≠ .empty ∨ ∀ d, e.nextSlot ≠ .held d
  · rw [promoteNext_idle idle, promoteNext_idle (e := { e with flushPending := b }) idle]
  · simp only [not_or, Classical.not_not, Classical.not_forall] at idle
    obtain ⟨empty, d, held⟩ := idle
    rw [promoteNext_held empty held, promoteNext_held (e := { e with flushPending := b }) empty held]
    exact makeCurrent_flushPending { e with nextSlot := .empty } d b

/-- What a record that has ended leaves of the exporter, before its buffer is judged (R168). -/
abbrev Exporter.recordEnded (e : Exporter) (used : Nat) : Exporter :=
  { e with buffer := none, writePos := none, flushPending := false, fillOffset := some used }

/-- The close of the current buffer at a record's end (R168, R169). -/
abbrev Exporter.closedBy (e : Exporter) (d : Descriptor) (used : Nat) (cause : CloseCause) : Exporter :=
  ({ e with current := .empty, fillOffset := none
            writeBacks := e.writeBacks ++ [{ addr := d.addr, notify := d.notify, used, cause }] } : Exporter).promoteNext

theorem recordDone_of_held (held : e.current = .held d) (words : Nat) : e.recordDone words =
    let used := e.fillOffset.getD 0 + words
    if d.bufLen < used + 516 then (e.recordEnded used).closedBy d used .full
    else if e.flushPending then (e.recordEnded used).closedBy d used .flushed
    else e.recordEnded used := by
  have closes (used : Nat) (cause : CloseCause) : { ({ e with fillOffset := some used, buffer := none, writePos := none } : Exporter).close cause with
      flushPending := false } = (e.recordEnded used).closedBy d used cause := by
    rw [close_of_held (e := { e with fillOffset := some used, buffer := none, writePos := none }) held, ← promoteNext_flushPending] <;> rfl
  have length : e.current.bufLen = d.bufLen := by rw [held] <;> rfl
  have longest : Config.maxRecord = 516 := rfl
  simp only [Exporter.recordDone, length, longest]
  split
  · exact closes _ .full
  · split
    · exact closes _ .flushed
    · rfl

theorem recordWordIn_other (h : ∀ a, s.ex.access = some a → ∀ x w, a.kind ≠ .record x w) : s.recordWordIn = s := by
  unfold State.recordWordIn
  split
  · rename_i x w _ access
    exact absurd rfl (h _ access x w)
  · rfl

theorem recordWordIn_record {a : Access} {x w : Word} (access : s.ex.access = some a) (kind : a.kind = .record x w) :
    s.recordWordIn = s.clearAccess.recordWordDone := by
  obtain ⟨k, deadline⟩ := a
  cases kind
  rw [State.recordWordIn, access]

theorem recordWordDone_more (buffer : s.ex.buffer = some r) (pos : s.ex.writePos = some n) (more : n + 1 < r.words.length) :
    s.recordWordDone = { s with ex := { s.ex with writePos := some (n + 1) } } := by
  rw [State.recordWordDone, buffer, pos]
  exact if_pos more

theorem recordWordDone_last (buffer : s.ex.buffer = some r) (pos : s.ex.writePos = some n) (last : r.words.length ≤ n + 1) :
    s.recordWordDone = { s.release r.site with ex := (s.release r.site).ex.recordDone r.words.length } := by
  rw [State.recordWordDone, buffer, pos]
  exact if_neg (Nat.not_lt.mpr last)

theorem recordDone_kept (e : Exporter) (words : Nat) : (e.recordDone words).collectionQueue = e.collectionQueue ∧ (e.recordDone words).busTimeout = e.busTimeout :=
  holdings_kept (e := { e with buffer := none }) (recordDone_holdings e words)

end

/-- The last word of a record is accepted: the site is released, and the exporter ends the record (R37, R168). -/
theorem recordWord_releases {s : State} {a : Access} {x w : Word} {r : Record} {n : Nat} (hs : s.Ready) (access : s.ex.access = some a)
    (kind : a.kind = .record x w) (buffer : s.ex.buffer = some r) (pos : s.ex.writePos = some n) (last : r.words.length ≤ n + 1)
    (held : s.siteState r.site = .held) :
    ∃ u, exec .recordWordAccepted s = .next u ∧
      s.Happens u [.templates, .sites, .stopNotices, .lines, .low, .settleList, .coTable, .export_, .collectionQueue, .clock] ∧
      u.templates = (s.release r.site).templates ∧ u.sites = (s.release r.site).sites ∧ u.store = (s.release r.site).store ∧
      u.lists = (s.release r.site).lists ∧ u.engine = (s.release r.site).engine ∧ u.co = (s.release r.site).co ∧
      (({ s.ex with access := none, collectionQueue := s.ex.collectionQueue.filter fun j => !(j == r.site) } : Exporter).recordDone
        r.words.length).Followed u := by
  have released := release_clearAccess (s := s) (i := r.site)
  have ex : (s.clearAccess.release r.site).ex = { s.ex with access := none, collectionQueue := s.ex.collectionQueue.filter fun j => !(j == r.site) } :=
    release_ex
  have effect : s.recordWordIn = { s.release r.site with ex := ({ s.ex with
      access := none, collectionQueue := s.ex.collectionQueue.filter fun j => !(j == r.site) } : Exporter).recordDone r.words.length } := by
    rw [recordWordIn_record access kind, recordWordDone_last (s := s.clearAccess) buffer pos last, ex, released] <;> rfl
  generalize done : ({ s.ex with access := none, collectionQueue := s.ex.collectionQueue.filter fun j => !(j == r.site) } : Exporter).recordDone
    r.words.length = e at effect
  have kept := recordDone_kept { s.ex with access := none, collectionQueue := s.ex.collectionQueue.filter fun j => !(j == r.site) } r.words.length
  have frame : FrameBut [.templates, .sites, .stopNotices, .lines, .low, .settleList, .coTable, .export_, .collectionQueue, .clock] s
      { s.release r.site with ex := e } := by
    refine (release_frame s r.site).then (ex_frame (s.release r.site) e ?_ ?_) (by simp) <;> rw [← done, release_ex]
    · exact kept.1
    · exact kept.2
  have settled : State.linksSettled { s.release r.site with ex := e } :=
    linksSettled_of_closed (i := r.site) hs.settled.linksSettled (fun j other => release_site_ne (s := s) other) (by rw [held]; decide)
      (release_not_testing (s := s)) (frame .links (by decide))
  refine ⟨_, State.Ready.exec hs rfl effect, (happens_export frame (by decide) settled).mono (by simp), ?_, ?_, ?_, ?_, ?_, ?_, ?_⟩
  · simp only [finish_templates]
  · exact finish_sites _
  · exact finish_store _
  · exact finish_lists _
  · exact finish_engine _
  · exact finish_co _
  · exact finish_followed { s.release r.site with ex := e }

end Sys2Proof.Machine

open Sys2Proof Sys2Proof.Machine

/-- Settles O45. -/
theorem recordWordsAndRelease : Obligations.RecordWordsAndRelease := by
  unfold Obligations.RecordWordsAndRelease
  refine ⟨fun s hs other => hs.ignores rfl (recordWordIn_other other), fun s a x w r n hs access kind buffer pos => ⟨fun more => ?_, fun last held => ?_⟩,
    fun s i c ctx => ⟨s.vacated i, release_eq s i, vacated_freed s i, vacated_templateFreed ctx, ?_, ?_, fun j other => ?_, vacated_frame s i⟩,
    fun m i => promote_none, fun m i x g vacant staged active => ⟨fun fits => promote_made staged active (carryFits_iff.mpr fits), fun fails => ?_⟩⟩
  · exact hs.onEngine (c := .recordWordAccepted) (g := State.recordWordIn) rfl
      ((recordWordIn_record access kind).trans (recordWordDone_more (s := s.clearAccess) buffer pos more)) rfl rfl
  · obtain ⟨u, row, happens, templates, sites, store, lists, engine, co, followed⟩ := recordWord_releases hs access kind buffer pos last held
    refine ⟨u, row, happens, templates, sites, store, lists, engine, co, fun d current => ?_⟩
    rw [recordDone_of_held (e := { s.ex with access := none, collectionQueue := _ }) current] at followed
    refine ⟨fun full => ?_, fun room flush => ?_, fun room keep => ?_⟩
    · rwa [if_pos full] at followed
    · rwa [if_neg (Nat.not_lt.mpr room), if_pos flush] at followed
    · rwa [if_neg (Nat.not_lt.mpr room), if_neg (by rw [keep]; exact Bool.false_ne_true)] at followed
  · rw [vacated_ex]
  · rw [vacated_site, if_pos rfl]
  · rw [vacated_site, if_neg other]
  · refine promote_dropped staged fun g' same => ?_
    rw [active] at same
    cases same
    exact Bool.eq_false_iff.mpr fun fit => fails (carryFits_iff.mp fit)

end

section
/-! Solution records: the words of a record, and the completion of an assembly (R107, R112, R113, R114, R166, R190). -/

namespace Sys2Proof.Machine

section
variable {s t : State} {i : SiteNo} {c : Context} {r : LineRec}

/-! ### The words of a record (R112, R113, R190) -/

/-- The body of a record: nothing for a site whose lines are lost (R112, R113). -/
def State.recordBody (s : State) (i : SiteNo) (c : Context) : List Word := if c.reason.isSome then [] else recordSections c (s.assignedLines i)

theorem recordOf_eq (ctx : s.ctx i = some c) : s.recordOf i = headerWords i c (4 + (s.recordBody i c).length) ++ s.recordBody i c := by
  rw [State.recordOf, ctx] <;> rfl

theorem recordOf_drop (ctx : s.ctx i = some c) : (s.recordOf i).drop 4 = s.recordBody i c := by rw [recordOf_eq ctx] <;> rfl

theorem recordOf_congr (sites : t.site i = s.site i) (lines : t.store.lines = s.store.lines) : t.recordOf i = s.recordOf i := by
  rw [State.recordOf, State.recordOf, State.assignedLines, State.assignedLines, lines, State.ctx, sites] <;> rfl

/-- One field, three and five, the first at bit 0; the places are variables, so that no power of two is evaluated. -/
theorem packBits_one (a : Nat) : packBits [(a, 0)] = BitVec.ofNat 32 a := by simp [packBits]

theorem packBits_three (a b c x y : Nat) : packBits [(a, 0), (b, x), (c, y)] = BitVec.ofNat 32 (a + b * 2 ^ x + c * 2 ^ y) := by
  simp [packBits]

theorem packBits_five (a b c d e w x y z : Nat) : packBits [(a, 0), (b, w), (c, x), (d, y), (e, z)] =
    BitVec.ofNat 32 (a + b * 2 ^ w + c * 2 ^ x + d * 2 ^ y + e * 2 ^ z) := by
  simp [packBits]

/-- The second header word, but for its flags (R107, R190). -/
abbrev headerFields (outcome reason domains : Nat) : Word := BitVec.ofNat 32 (outcome + reason * 2 ^ 4 + domains * 2 ^ 16)

theorem headerWords_eq (i : SiteNo) (c : Context) (n : Nat) : headerWords i c n = [BitVec.ofNat 32 i.val, c.tag,
    headerFields c.outcome.code (reasonCode c.reason) c.geometry.domainCount ||| c.flags.bits, BitVec.ofNat 32 n] := by
  rw [headerWords, packBits_one, packBits_one, packBits_three]

theorem lineWord_eq (r : LineRec) : lineWord r = BitVec.ofNat 32 (r.key.addr.toNat + (match r.key.axis with | .row => 0 | .column => 1) * 2 ^ 16
    + (match r.state with | .assigned .sweep => 1 | .assigned .pinned => 2 | .assigned .carried => 3 | _ => 0) * 2 ^ 20) := by
  rw [lineWord, packBits_three]
  rcases r.state with _ | o
  · cases r.key.axis <;> rfl
  · cases r.key.axis <;> cases o <;> rfl

theorem domainSection_eq (d : DomainRec) (l : List LineRec) : domainSection d l =
    [BitVec.ofNat 32 ((match d.state with | .unrepairable => 2 | .repaired | .failing => 1 | .clean | .opened => 0) + d.assigned.row * 2 ^ 8
        + d.assigned.column * 2 ^ 12 + d.defective.row * 2 ^ 16 + d.defective.column * 2 ^ 20), BitVec.ofNat 32 d.failTotal.toNat]
      ++ l.map lineWord := by
  rw [domainSection, packBits_five, packBits_one]
  cases d.state <;> rfl

theorem assignedLines_domain (s : State) (i : SiteNo) (n : Nat) : ((s.assignedLines i).filter fun r => r.key.domain.val == n) =
    s.store.lines.filter fun r => r.key.site == i && !(r.state == .candidate) && r.key.domain.val == n := by
  rw [State.assignedLines, List.filter_filter]
  exact List.filter_congr fun r _ => Bool.and_comm ..

/-- The sections of a record, domain by domain (R113). -/
theorem recordBody_eq (s : State) (i : SiteNo) (c : Context) : s.recordBody i c = if c.reason = none then
      c.domains.zipIdx.flatMap fun (d, n) =>
        [BitVec.ofNat 32 ((match d.state with | .unrepairable => 2 | .repaired | .failing => 1 | .clean | .opened => 0) + d.assigned.row * 2 ^ 8
            + d.assigned.column * 2 ^ 12 + d.defective.row * 2 ^ 16 + d.defective.column * 2 ^ 20), BitVec.ofNat 32 d.failTotal.toNat]
        ++ (s.store.lines.filter fun r => r.key.site == i && !(r.state == .candidate) && r.key.domain.val == n).map fun r =>
          BitVec.ofNat 32 (r.key.addr.toNat + (match r.key.axis with | .row => 0 | .column => 1) * 2 ^ 16
            + (match r.state with | .assigned .sweep => 1 | .assigned .pinned => 2 | .assigned .carried => 3 | _ => 0) * 2 ^ 20)
    else [] := by
  have words : lineWord = _ := funext lineWord_eq
  cases reason : c.reason with
  | some why => rw [State.recordBody, reason, if_pos Option.isSome_some, if_neg nofun]
  | none =>
    rw [State.recordBody, reason, if_neg (by decide), if_pos rfl, recordSections]
    refine congrArg (fun f => c.domains.zipIdx.flatMap f) (funext fun (d, n) => ?_)
    show domainSection d ((s.assignedLines i).filter fun r => r.key.domain.val == n) = _
    rw [domainSection_eq, assignedLines_domain, words]

/-! ### The fields of the second header word (R107, R190) -/

theorem ofNat_extract (v lo len : Nat) : ((BitVec.ofNat 32 v).extractLsb' lo len).toNat = v % 2 ^ 32 / 2 ^ lo % 2 ^ len := by
  rw [BitVec.extractLsb'_toNat, BitVec.toNat_ofNat, Nat.shiftRight_eq_div_pow]

section
variable {outcome reason domains : Nat}

theorem headerFields_outcome (ho : outcome < 4) : ((headerFields outcome reason domains).extractLsb' 0 2).toNat = outcome := by
  rw [ofNat_extract]
  omega

theorem headerFields_reason (ho : outcome < 4) (hr : reason < 8) : ((headerFields outcome reason domains).extractLsb' 4 3).toNat = reason := by
  rw [ofNat_extract]
  omega

theorem headerFields_domains (ho : outcome < 4) (hr : reason < 8) (hd : domains < 32) :
    ((headerFields outcome reason domains).extractLsb' 16 5).toNat = domains := by
  rw [ofNat_extract]
  omega

theorem headerFields_flags (ho : outcome < 4) (hr : reason < 8) : (headerFields outcome reason domains).extractLsb' 8 7 = 0#7 := by
  refine BitVec.eq_of_toNat_eq ?_
  rw [ofNat_extract, BitVec.toNat_ofNat]
  omega

end

theorem flagBits_apart (q : QualityFlags) : q.bits.extractLsb' 0 2 = 0#2 ∧ q.bits.extractLsb' 4 3 = 0#3 ∧ q.bits.extractLsb' 16 5 = 0#5 := by
  obtain ⟨a, b, c, d, e, f, g⟩ := q
  revert a b c d e f g
  decide

theorem flagBits_bits (q : QualityFlags) :
    [q.bits.getLsbD 8, q.bits.getLsbD 9, q.bits.getLsbD 10, q.bits.getLsbD 11, q.bits.getLsbD 12, q.bits.getLsbD 13, q.bits.getLsbD 14] =
      [q.suspect, q.drainTimeout, q.linkLost, q.badAddress, q.hostEdited, q.coincident, q.earlyStop] := by
  obtain ⟨a, b, c, d, e, f, g⟩ := q
  revert a b c d e f g
  decide

theorem outcome_code (c : Context) : c.outcome.code =
    if c.reason ≠ none then 3 else if ∃ d ∈ c.domains, d.state = .unrepairable then 2 else if ∀ d ∈ c.domains, d.state = .clean then 0 else 1 := by
  have lost : c.reason.isSome = true ↔ c.reason ≠ none := Option.isSome_iff_ne_none
  have fail : c.domains.any (·.state == .unrepairable) = true ↔ ∃ d ∈ c.domains, d.state = .unrepairable := by simp
  have pass : c.domains.all (·.state == .clean) = true ↔ ∀ d ∈ c.domains, d.state = .clean := by simp
  simp only [Context.outcome, lost, fail, pass]
  rw [apply_ite SiteOutcome.code, apply_ite SiteOutcome.code, apply_ite SiteOutcome.code] <;> rfl

theorem outcome_code_lt (o : SiteOutcome) : o.code < 4 := by cases o <;> decide

theorem reasonCode_lt (why : Option Reason) : reasonCode why < 8 := by
  rcases why with _ | why
  · decide
  · cases why <;> decide

theorem reasonCode_eq (why : Option Reason) :
    reasonCode why = match why with | none => 0 | some .spill => 1 | some .quota => 2 | some .integrity => 3 | some .aborted => 4 := by
  rcases why with _ | why
  · rfl
  · cases why <;> rfl

/-- The second header word of a record. -/
abbrev Context.headerWord (c : Context) : Word := headerFields c.outcome.code (reasonCode c.reason) c.geometry.domainCount ||| c.flags.bits

theorem headerWord_outcome (c : Context) : (c.headerWord.extractLsb' 0 2).toNat = c.outcome.code := by
  rw [BitVec.extractLsb'_or, (flagBits_apart c.flags).1, BitVec.or_zero, headerFields_outcome (outcome_code_lt c.outcome)]

theorem headerWord_reason (c : Context) : (c.headerWord.extractLsb' 4 3).toNat = reasonCode c.reason := by
  rw [BitVec.extractLsb'_or, (flagBits_apart c.flags).2.1, BitVec.or_zero, headerFields_reason (outcome_code_lt c.outcome) (reasonCode_lt c.reason)]

theorem headerWord_domains (few : c.geometry.domainCount ≤ 16) : (c.headerWord.extractLsb' 16 5).toNat = c.geometry.domainCount := by
  rw [BitVec.extractLsb'_or, (flagBits_apart c.flags).2.2, BitVec.or_zero,
    headerFields_domains (outcome_code_lt c.outcome) (reasonCode_lt c.reason) (by omega)]

theorem headerWord_flag (c : Context) {n : Nat} (inside : n < 7) : c.headerWord.getLsbD (8 + n) = c.flags.bits.getLsbD (8 + n) := by
  have zero := congrArg (·.getLsbD n) (headerFields_flags (domains := c.geometry.domainCount) (outcome_code_lt c.outcome) (reasonCode_lt c.reason))
  have none : (headerFields c.outcome.code (reasonCode c.reason) c.geometry.domainCount).getLsbD (8 + n) = false := by
    simpa [BitVec.getLsbD_extractLsb', inside] using zero
  rw [BitVec.getLsbD_or, none, Bool.false_or]

theorem headerWord_flags (c : Context) :
    [c.headerWord.getLsbD 8, c.headerWord.getLsbD 9, c.headerWord.getLsbD 10, c.headerWord.getLsbD 11, c.headerWord.getLsbD 12,
      c.headerWord.getLsbD 13, c.headerWord.getLsbD 14] =
      [c.flags.suspect, c.flags.drainTimeout, c.flags.linkLost, c.flags.badAddress, c.flags.hostEdited, c.flags.coincident, c.flags.earlyStop] := by
  rw [← flagBits_bits, headerWord_flag c (n := 0) (by decide), headerWord_flag c (n := 1) (by decide), headerWord_flag c (n := 2) (by decide),
    headerWord_flag c (n := 3) (by decide), headerWord_flag c (n := 4) (by decide), headerWord_flag c (n := 5) (by decide),
    headerWord_flag c (n := 6) (by decide)]

/-! ### The completion of an assembly (R166) -/

/-- The record of a site, placed in the record buffer. -/
def State.recordPlaced (s : State) (i : SiteNo) : State :=
  { s with ex := { s.ex with assembling := none, buffer := some { site := i, words := s.recordOf i } } }

/-- The lines of a record are read: the first damaged one loses the site its lines, unless they are lost already (R58, R166). -/
def State.recordRead (s : State) (i : SiteNo) : State := match (s.assignedLines i).find? fun r => r.syndrome != 0 with
  | some r => if (s.reasonOf i).isNone then s.integrityFailure i r .assembly else s
  | none => s

theorem completeAssembly_eq (assembling : s.ex.assembling = some i) : s.completeAssembly = (s.recordRead i).recordPlaced i := by
  rw [State.completeAssembly, assembling] <;> rfl

theorem recordRead_sound (ctx : s.ctx i = some c) (sound : c.reason ≠ none ∨ ∀ r ∈ s.assignedLines i, r.syndrome = 0) : s.recordRead i = s := by
  have reason : s.reasonOf i = c.reason := by rw [State.reasonOf, ctx] <;> rfl
  rw [State.recordRead, reason]
  rcases sound with lost | sound
  · cases (s.assignedLines i).find? fun r => r.syndrome != 0 with
    | none => rfl
    | some r => exact if_neg (by simpa using lost)
  · rw [find_sound sound]

theorem recordRead_damaged {pre post : List LineRec} (ctx : s.ctx i = some c) (reason : c.reason = none)
    (lines : s.assignedLines i = pre ++ r :: post) (sound : ∀ y ∈ pre, y.syndrome = 0) (damaged : r.syndrome ≠ 0) :
    s.recordRead i = s.integrityFailure i r .assembly := by
  have none : s.reasonOf i = Option.none := by rw [State.reasonOf, ctx, Option.bind_some, reason]
  rw [State.recordRead, lines, find_damaged sound damaged]
  exact if_pos (by rw [none]; rfl)

/-- A HELD site loses its lines where it stands (R34). -/
theorem heldFailure_frame (held : s.siteState i = .held) (act : Activity) :
    FrameBut [.sites, .stopNotices, .lines, .low, .capture, .settleList, .coTable, .pendingSet] s (s.integrityFailure i r act) := by
  have lost : s.loseLines i .integrity .integrity = s.stripped i .integrity .integrity := by
    rw [loseLines_eq, moveLost_rest]
    rw [stripped_siteState, held]
    decide
  rw [integrityFailure_eq, lost]
  exact (stripped_frame s i _ _).then (captureError_frame _ i r.index act) (by simp)

theorem recordPlaced_frame (s : State) (i : SiteNo) : FrameBut [.export_] s (s.recordPlaced i) := ex_frame s _ rfl rfl

/-- The record of a site whose lines are lost is its header alone (R112). -/
theorem recordOf_lost (ctx : s.ctx i = some c) (lost : c.reason ≠ none) : s.recordOf i = headerWords i c 4 := by
  have body : s.recordBody i c = [] := if_pos (Option.isSome_iff_ne_none.mpr lost)
  rw [recordOf_eq ctx, body, List.append_nil] <;> rfl

/-- The completion of an assembly that meets a damaged record. -/
theorem assembly_loses {pre post : List LineRec} (hs : s.Ready) (assembling : s.ex.assembling = some i) (ctx : s.ctx i = some c) (phase : c.phase = .held)
    (reason : c.reason = none) (lines : s.assignedLines i = pre ++ r :: post) (sound : ∀ y ∈ pre, y.syndrome = 0) (damaged : r.syndrome ≠ 0) :
    ∃ u words, exec .assemblyCompletion s = .next u ∧ s.IntegrityLost u i r.index .assembly id ∧ s.LowFollows u ∧ s.SourcesKept u [0] ∧
      FrameBut [.sites, .stopNotices, .lines, .low, .capture, .settleList, .coTable, .export_, .clock, .pendingSet] s u ∧
      ({ s.ex with assembling := none, buffer := some { site := i, words } } : Exporter).Followed u ∧
      words = u.recordOf i ∧ words.length = 4 ∧ words[1]? = some c.tag ∧ words[3]? = some 4 ∧
      ∀ w, words[2]? = some w → w.extractLsb' 0 2 = 3 ∧ w.extractLsb' 4 3 = 3 := by
  have held : s.siteState i = .held := by rw [siteState_of_ctx ctx, phase] <;> rfl
  have lost := integrityFailure_lost (edited_refl s i) rfl rfl r .assembly
  have failed := heldFailure_frame (r := r) held .assembly
  generalize after : s.integrityFailure i r .assembly = t at lost failed
  have ctx' : t.ctx i = some { c with reason := some .integrity } := by
    rw [State.ctx, lost.site, ctx, Option.map_some, reason]
    obtain ⟨_, _, _, _, _, _, _, _, _, _⟩ := c
    cases phase
    rfl
  have ex : t.ex = s.ex := failed.ex (by decide) (by decide) (by decide)
  have words := recordOf_lost ctx' nofun
  have placed := failed.then (recordPlaced_frame t i)
    (c := [.sites, .stopNotices, .lines, .low, .capture, .settleList, .coTable, .pendingSet, .export_]) (by simp)
  have settled : (t.recordPlaced i).linksSettled := by
    refine linksSettled_of_closed (i := i) hs.settled.linksSettled lost.others (by rw [held]; decide) ?_ (placed .links (by decide))
    rw [show (t.recordPlaced i).siteState i = t.siteState i from rfl, siteState_of_ctx ctx', phase]
    decide
  have finished := finish_frame_export settled
  have store : (t.recordPlaced i).finish.store = t.store := finish_store _
  refine ⟨(t.recordPlaced i).finish, t.recordOf i, ?_, ?_, ?_, ?_, ?_, ?_, ?_, ?_, ?_, ?_, ?_⟩
  · exact hs.exec rfl (by rw [completeAssembly_eq assembling, recordRead_damaged ctx reason lines sound damaged, after])
  · refine lost.between (.refl s []) ((recordPlaced_frame t i).trans finished) (by simp) (by decide) ?_ fun testing => ?_
    · exact finish_event (t := t.recordPlaced i) 0 (by decide)
    · rw [held] at testing
      cases testing
  · rw [State.LowFollows, store, ← after]
    exact integrityFailure_lowFollows s i r .assembly
  · refine finish_sources fun n _ other => ?_
    rw [← integrityFailure_event (s := s) (i := i) r .assembly other, after] <;> rfl
  · exact placed.then finished (by simp)
  · rw [← ex]
    exact finish_followed (t.recordPlaced i)
  · exact (recordOf_congr (finish_site _ i) (congrArg (fun e => e.lines) store)).symm
  · rw [words] <;> rfl
  · rw [words] <;> rfl
  · rw [words, headerWords_eq] <;> rfl
  · intro w word
    rw [words, headerWords_eq] at word
    cases word
    exact ⟨BitVec.eq_of_toNat_eq (headerWord_outcome { c with reason := some .integrity }),
      BitVec.eq_of_toNat_eq (headerWord_reason { c with reason := some .integrity })⟩

end

end Sys2Proof.Machine

open Sys2Proof Sys2Proof.Machine

/-- Settles O47, the words of a record field by field. -/
theorem assemblyFormsTheRecord : Obligations.AssemblyFormsTheRecord := by
  unfold Obligations.AssemblyFormsTheRecord
  refine ⟨fun s hs idle => hs.ignores rfl ?_, fun s i c hs assembling ctx phase => ⟨fun sound => ?_, fun pre r post reason lines sound damaged => ?_⟩,
    fun s i c ctx => ?_⟩
  · rw [State.completeAssembly, idle]
  · exact hs.onEngine (c := .assemblyCompletion) (g := State.completeAssembly) rfl ((completeAssembly_eq assembling).trans (by rw [recordRead_sound ctx sound] <;> rfl)) rfl rfl
  · exact assembly_loses hs assembling ctx phase reason lines sound damaged
  · have body := recordBody_eq s i c
    have whole := recordOf_eq ctx
    rw [headerWords_eq] at whole
    rw [recordOf_drop ctx, whole]
    refine ⟨body, rfl, rfl, congrArg (fun l : List Word => some (BitVec.ofNat 32 (4 + l.length))) body, fun few w word => ?_⟩
    cases word
    refine ⟨?_, ?_, headerWord_flags c, headerWord_domains few⟩
    · rw [headerWord_outcome, outcome_code]
    · exact (headerWord_reason c).trans (reasonCode_eq c.reason)

end

section
/-! The Coincidence Unit looks past the per-domain records: a MUST assignment told before an edit of them or after it (R88, R118 to R120). -/

namespace Sys2Proof.Machine

section
variable {s m : State} {i : SiteNo} {f : Context → Context}

/-- An edit of a context that keeps what the Coincidence Unit reads and commutes with its flags. -/
structure FlagFree (f : Context → Context) : Prop where
  keeps : ∀ c, (f c).phase = c.phase ∧ (f c).tag = c.tag ∧ (f c).template = c.template
  flags : ∀ c q, f { c with flags := c.flags.set q } = { f c with flags := (f c).flags.set q }

theorem editDomain_flagFree (d : DomainNo) (g : DomainRec → DomainRec) : FlagFree fun c => c.editDomain d g := ⟨fun _ => ⟨rfl, rfl, rfl⟩, fun _ _ => rfl⟩

/-- Two states that agree in what the Coincidence Unit reads, but for an edit of the context of site i. -/
structure State.Beside (s m : State) (i : SiteNo) (f : Context → Context) : Prop where
  context : s.ContextEdited m i f
  co : m.co = s.co
  notices : m.lists.stopNotices = s.lists.stopNotices

theorem State.Beside.siteState (h : s.Beside m i f) (free : FlagFree f) (j : SiteNo) : m.siteState j = s.siteState j :=
  h.context.siteState (fun c => (free.keeps c).1) j

theorem State.Beside.tag (h : s.Beside m i f) (free : FlagFree f) (j : SiteNo) : (m.ctx j).map (·.tag) = (s.ctx j).map (·.tag) := by
  by_cases same : j = i
  · rw [same, h.context.ctx, Option.map_map]
    exact congrArg (fun f => Option.map f (s.ctx i)) (funext fun c => (free.keeps c).2.1)
  · rw [State.ctx, h.context.others j same] <;> rfl

theorem State.Beside.addFlag (h : s.Beside m i f) (free : FlagFree f) (j : SiteNo) (q : QualityFlag) :
    (s.addFlag j q).Beside (m.addFlag j q) i f where
  context := by
    have flagged (t : State) (k : SiteNo) : (t.addFlag j q).site k =
        if k = j then { t.site j with ctx := (t.ctx j).map fun c => { c with flags := c.flags.set q } } else t.site k := modCtx_site t j k _
    refine ⟨?_, fun k other => ?_⟩
    · have ctx : (s.addFlag j q).ctx i = _ := congrArg Site.ctx (flagged s i)
      rw [ctx, flagged, flagged]
      by_cases same : i = j
      · subst same
        simp only [if_true, h.context.ctx, h.context.site]
        cases s.ctx i with
        | none => rfl
        | some c => simp only [Option.map_some, free.flags]
      · simp only [if_neg same, h.context.site] <;> rfl
    · rw [flagged, flagged]
      by_cases same : k = j
      · subst same
        rw [if_pos rfl, if_pos rfl, State.ctx, h.context.others k other] <;> rfl
      · rw [if_neg same, if_neg same, h.context.others k other]
  co := h.co
  notices := h.notices

theorem State.Beside.holdable (h : s.Beside m i f) (free : FlagFree f) (j : SiteNo) : m.holdable j = s.holdable j := by
  have hold : (m.site j).hostHold = (s.site j).hostHold := by
    by_cases same : j = i
    · rw [same, h.context.site]
    · rw [h.context.others j same]
  rw [State.holdable, State.holdable, h.siteState free, hold]

theorem State.Beside.coHold (h : s.Beside m i f) (free : FlagFree f) (j : SiteNo) : (s.coHold j).Beside (m.coHold j) i f where
  context := by
    refine ⟨?_, fun k other => ?_⟩
    · rw [coHold_site, coHold_site, State.ctx, coHold_site, h.holdable free, h.context.site] <;> rfl
    · rw [coHold_site, coHold_site, h.holdable free, h.context.others k other]
  co := by rw [coHold_co, coHold_co, h.co]
  notices := by
    rw [coHold_notices, coHold_notices, h.holdable free, State.holdNotice, State.holdNotice, h.tag free, h.notices]

/-- Steps over a list of sites. -/
theorem beside_foldl {g : State → SiteNo → State} (hg : ∀ {s m : State} (_ : s.Beside m i f) (j : SiteNo), (g s j).Beside (g m j) i f)
    (l : List SiteNo) (h : s.Beside m i f) : (l.foldl g s).Beside (l.foldl g m) i f := by
  induction l generalizing s m with
  | nil => exact h
  | cons j l ih => exact ih (hg h j)

theorem State.Beside.coMark (h : s.Beside m i f) (free : FlagFree f) (l : List SiteNo) : (s.coMark l).Beside (m.coMark l) i f := by
  have flagged : (s.coFlagged l).Beside (m.coFlagged l) i f := beside_foldl (fun h j => h.addFlag free j .coincident) l h
  cases action : s.co.action with
  | notify => rwa [coMark_notify l action, coMark_notify l (by rw [h.co, action])]
  | hold =>
    rw [coMark_hold l action, coMark_hold l (by rw [h.co, action])]
    exact beside_foldl (fun h j => h.coHold free j) l flagged

theorem State.Beside.setCoEntry (h : s.Beside m i f) (n : Fin 128) (e : Option CoEntry) : (s.setCoEntry n e).Beside (m.setCoEntry n e) i f where
  context := ⟨h.context.site, h.context.others⟩
  co := by rw [State.setCoEntry, State.setCoEntry, h.co]
  notices := h.notices

theorem State.Beside.coAdded (h : s.Beside m i f) (free : FlagFree f) (n : Fin 128) (j : SiteNo) (e : CoEntry) :
    (s.coAdded n j e).Beside (m.coAdded n j e) i f := by
  unfold State.coAdded
  rw [h.co]
  split
  · exact (h.setCoEntry n _).coMark free _
  · split
    · exact (h.setCoEntry n _).coMark free _
    · exact h.setCoEntry n _

/-- The Coincidence Unit is told of a MUST assignment in either state. -/
theorem State.Beside.coJoin (h : s.Beside m i f) (free : FlagFree f) (j : SiteNo) (d : DomainNo) (a : Axis) (x : LineAddr) :
    (s.coJoin j d a x).Beside (m.coJoin j d a x) i f := by
  have template : (m.ctx j).map (·.template) = (s.ctx j).map (·.template) := by
    by_cases same : j = i
    · rw [same, h.context.ctx, Option.map_map]
      exact congrArg (fun f => Option.map f (s.ctx i)) (funext fun c => (free.keeps c).2.2)
    · rw [State.ctx, h.context.others j same] <;> rfl
  cases before : s.ctx j with
  | none =>
    have after : m.ctx j = none := by simpa [before] using template
    simp only [State.coJoin, before, after]
    exact h
  | some c =>
    obtain ⟨c', after, same⟩ : ∃ c', m.ctx j = some c' ∧ c'.template = c.template := by simpa [before] using template
    simp only [State.coJoin, before, after, same, h.co]
    split
    · rename_i n _
      cases s.co.table[n.val] with
      | none => exact h
      | some e =>
        dsimp only
        split
        · exact h
        · exact h.coAdded free n j _
    · split
      · exact h.coAdded free _ j _
      · exact ⟨⟨h.context.site, h.context.others⟩, by rw [← h.co], h.notices⟩

end

end Sys2Proof.Machine

end

section
/-! A domain lost to repair (R28, R33, R90). -/

namespace Sys2Proof.Machine

section
variable {s m t : State} {i : SiteNo} {d : DomainNo} {edit : DomainRec → DomainRec}

/-! ### The doomed mark and the early stop (R33) -/

/-- The doomed mark of a site. -/
def State.doomMarked (s : State) (i : SiteNo) : State := s.modCtx i fun c => { c with doomed := true }

/-- The early stop of a site. -/
def State.stoppedEarly (s : State) (i : SiteNo) : State := ((s.addFlag i .earlyStop).enterDraining i).postNotice i .earlyStop

theorem doom_eq (s : State) (i : SiteNo) :
    s.doom i = if (s.doomMarked i).stopsEarly i then (s.doomMarked i).stoppedEarly i else s.doomMarked i := rfl

theorem stoppedEarly_frame (s : State) (i : SiteNo) : FrameBut [.sites, .stopNotices, .links, .clock] s (s.stoppedEarly i) :=
  (((addFlag_frame s i .earlyStop).then (enterDraining_frame _ i) (c := [.sites, .links, .clock]) (by simp)).then
    (postNotice_frame _ i .earlyStop) (by simp))

/-- The flag of an early stop, and the move to DRAINING. -/
abbrev Context.earlyStopped (c : Context) : Context := { c with phase := .draining, flags := { c.flags with earlyStop := true } }

theorem addFlag_contextEdited (s : State) (i : SiteNo) (q : QualityFlag) :
    s.ContextEdited (s.addFlag i q) i fun c => { c with flags := c.flags.set q } := modCtx_contextEdited s i _

theorem stoppedEarly_site (j : SiteNo) : (s.stoppedEarly i).site j = if j = i
    then { s.site i with ctx := (s.ctx i).map Context.earlyStopped, drainDeadline := some ((s.stoppedEarly i).now + 10 * s.lists.drainTimeout) }
    else s.site j := by
  have flagged := addFlag_contextEdited s i .earlyStop
  have drained := enterDraining_site (s := s.addFlag i .earlyStop) (i := i) j
  have ctx : (s.addFlag i .earlyStop).ctx i = _ := flagged.ctx
  refine drained.trans ?_
  by_cases same : j = i
  · rw [if_pos same, if_pos same, ctx, flagged.site, Option.map_map, Nat.mul_comm] <;> rfl
  · rw [if_neg same, if_neg same, flagged.others j same]

theorem stoppedEarly_notices :
    (s.stoppedEarly i).lists.stopNotices = noticePosted i .earlyStop (((s.ctx i).map (·.tag)).getD 0) s.lists.stopNotices := by
  have tag : (((s.addFlag i .earlyStop).enterDraining i).ctx i).map (·.tag) = (s.ctx i).map (·.tag) := by
    have ctx : (s.addFlag i .earlyStop).ctx i = _ := (addFlag_contextEdited s i .earlyStop).ctx
    rw [State.ctx, enterDraining_site, if_pos rfl, ctx, Option.map_map, Option.map_map]
    rfl
  show noticePosted i .earlyStop (((((s.addFlag i .earlyStop).enterDraining i).ctx i).map (·.tag)).getD 0) s.lists.stopNotices = _
  rw [tag]

theorem stoppedEarly_link (h : HeadNo) (testing : s.siteState i = .testing) : (s.stoppedEarly i).link h = s.drainAsked i h (s.link h) := by
  have drained := enterDraining_link (s := s.addFlag i .earlyStop) (i := i) h
  refine drained.trans ?_
  rw [State.drainAsked]
  simp only [testing, true_and]
  rfl

/-! ### The loss of a domain (R90) -/

/-- The domain is UNREPAIRABLE, its CANDIDATE lines are free and its Settle List entry has gone. -/
def State.domainStripped (s : State) (i : SiteNo) (d : DomainNo) : State :=
  ((s.modDomain i d fun r => { r with state := .unrepairable }).setLines (s.withoutCandidates i d)).dropSettle fun e => e.site == i && e.domain == d

theorem loseDomain_eq (s : State) (i : SiteNo) (d : DomainNo) : s.loseDomain i d = (s.domainStripped i d).doom i := rfl

theorem domainStripped_frame (s : State) (i : SiteNo) (d : DomainNo) : FrameBut [.sites, .lines, .low, .settleList] s (s.domainStripped i d) :=
  ((modDomain_frame s i d _).then (setLines_frame _ _) (c := [.sites, .lines, .low]) (by simp)).then (dropSettle_frame _ _) (by simp)

theorem doom_frame (s : State) (i : SiteNo) : FrameBut [.sites, .stopNotices, .links, .clock] s (s.doom i) := by
  rw [doom_eq]
  have marked : FrameBut [.sites] s (s.doomMarked i) := modCtx_frame s i _
  exact frame_ite (marked.then (stoppedEarly_frame _ i) (by simp)) (marked.mono (by simp))

theorem loseDomain_frame (s : State) (i : SiteNo) (d : DomainNo) :
    FrameBut [.sites, .lines, .low, .settleList, .stopNotices, .links, .clock] s (s.loseDomain i d) :=
  (domainStripped_frame s i d).then (doom_frame _ i) (by simp)

theorem doom_store (s : State) (i : SiteNo) : (s.doom i).store = s.store := by
  rw [doom_eq]
  split <;> rfl

theorem loseDomain_lines : (s.loseDomain i d).store.lines = s.withoutCandidates i d := by rw [loseDomain_eq, doom_store] <;> rfl

theorem loseDomain_lowFollows (s : State) (i : SiteNo) (d : DomainNo) : s.LowFollows (s.loseDomain i d) := by
  rw [State.LowFollows, loseDomain_eq, doom_store] <;> rfl

theorem loseDomain_lowTrack {r : State} {n : Nat} (h : r.LowTrack s n) : r.LowTrack (s.loseDomain i d) n := by
  have store := doom_store (s.domainStripped i d) i
  exact (h.freed _).kept (u := s.loseDomain i d) (by rw [loseDomain_eq, store]; rfl) (by rw [loseDomain_eq, store]; rfl) (by rw [loseDomain_eq, store]; rfl)

theorem loseDomain_sameElsewhere : s.SameElsewhere (s.loseDomain i d) i := by
  have filtered := filter_sameElsewhere (s := s) (i := i) (fun r => !(r.key.site == i && r.key.domain == d && r.state == .candidate)) fun r other => by
    simp [other]
  rw [State.SameElsewhere, loseDomain_lines]
  exact filtered

/-- The context of a site with a lost domain, before an early stop. -/
abbrev Context.doomedBy (d : DomainNo) (edit : DomainRec → DomainRec) (c : Context) : Context :=
  { c.editDomain d fun r => { edit r with state := .unrepairable } with doomed := true }

theorem doomMarked_context (context : s.ContextEdited m i fun c => c.editDomain d edit) :
    s.ContextEdited ((m.domainStripped i d).doomMarked i) i (Context.doomedBy d edit) := by
  have stripped : m.ContextEdited (m.domainStripped i d) i fun c => c.editDomain d fun r => { r with state := .unrepairable } :=
    (modDomain_contextEdited m i d _).kept rfl
  have both := (context.then stripped).then (modCtx_contextEdited (m.domainStripped i d) i fun c => { c with doomed := true })
  have twice : (fun c : Context => { (c.editDomain d edit).editDomain d (fun r => { r with state := .unrepairable }) with doomed := true }) =
      Context.doomedBy d edit := by
    funext c
    simp only [List.modify_modify_eq]
    rfl
  rw [twice] at both
  exact both

theorem stopsEarly_congr {f : Context → Context} (context : s.ContextEdited t i f) (keeps : ∀ c, (f c).phase = c.phase ∧ (f c).policy = c.policy) :
    t.stopsEarly i ↔ s.stopsEarly i := by
  have policy : (t.ctx i).map (·.policy) = (s.ctx i).map (·.policy) := by
    rw [context.ctx, Option.map_map]
    exact congrArg (fun f => Option.map f (s.ctx i)) (funext fun c => (keeps c).2)
  rw [State.stopsEarly, context.siteState fun c => (keeps c).1, policy]

/-- The loss of domain d after an edit of its record. -/
theorem loseDomain_lost (context : s.ContextEdited m i fun c => c.editDomain d edit) (lists : m.lists = s.lists)
    (settle : m.engine.settleList = s.engine.settleList) : s.DomainLost (m.loseDomain i d) i d edit := by
  have marked := doomMarked_context context
  have early := stopsEarly_congr marked fun _ => ⟨rfl, rfl⟩
  have dooms := doom_eq (m.domainStripped i d) i
  have dropped : (m.loseDomain i d).engine.settleList = s.engine.settleList.filter fun e => !(e.site == i && e.domain == d) := by
    have kept : (m.loseDomain i d).engine.settleList = (m.domainStripped i d).engine.settleList := doom_frame _ i .settleList (by decide)
    rw [kept, ← settle] <;> rfl
  have tag : (((m.domainStripped i d).doomMarked i).ctx i).map (·.tag) = (s.ctx i).map (·.tag) := by
    rw [marked.ctx, Option.map_map] <;> rfl
  have notices : ((m.domainStripped i d).doomMarked i).lists = s.lists := lists
  by_cases stops : s.stopsEarly i
  · rw [if_pos (early.mpr stops), ← loseDomain_eq] at dooms
    refine { site := ?_, others := fun j other => ?_, settle := dropped, notices := ?_ }
    · rw [dooms, stoppedEarly_site, if_pos rfl, marked.ctx, marked.site, Option.map_map, notices]
      simp only [if_pos stops]
      rfl
    · rw [dooms, stoppedEarly_site, if_neg other, marked.others j other]
    · rw [dooms, stoppedEarly_notices, if_pos stops, tag, notices]
  · rw [if_neg (mt early.mp stops), ← loseDomain_eq] at dooms
    refine { site := ?_, others := fun j other => ?_, settle := dropped, notices := ?_ }
    · rw [dooms, marked.site]
      simp only [if_neg stops]
    · rw [dooms, marked.others j other]
    · rw [dooms, if_neg stops, notices]

theorem loseDomain_link (context : s.ContextEdited m i fun c => c.editDomain d edit) (links : m.links = s.links) (h : HeadNo) :
    (m.loseDomain i d).link h = s.earlyDrain i h (s.link h) := by
  have marked := doomMarked_context context
  have early := stopsEarly_congr marked fun _ => ⟨rfl, rfl⟩
  have link : ((m.domainStripped i d).doomMarked i).link h = s.link h := congrArg (·[h]) links
  rw [loseDomain_eq, doom_eq, State.earlyDrain]
  by_cases stops : s.stopsEarly i
  · rw [if_pos (early.mpr stops), if_pos stops, stoppedEarly_link h (early.mpr stops).1, State.drainAsked, State.drainAsked, link,
      (early.mpr stops).1, stops.1]
  · rw [if_neg (mt early.mp stops), if_neg stops, link]

end

end Sys2Proof.Machine

end

section
/-! Grants of the background group (R63, R66), and what they leave when a site loses its lines or the Coincidence Unit is told of a line (R58, R88). -/

namespace Sys2Proof.Machine

section
variable {s t m : State} {i : SiteNo} {d : DomainNo} {k : Key} {l : LineRec}

/-! ### Grants of the background group (R66) -/

/-- The group served last is the background group. -/
def State.grouped (s : State) : State := { s with engine := { s.engine with lastGroup := .background } }

theorem grouped_frame (s : State) : FrameBut [.rotation] s s.grouped := by
  intro b hb
  cases b <;> simp_all [Block.same, State.grouped]

/-- The state that a background grant with effect t leaves (R63, R66). -/
abbrev State.backed (t : State) (w : WorkItem) : State := (t.grouped.working w).finish

theorem exec_settleStep (due : s.due = .settle) : exec .settleStep s = .next (s.settleStep.backed .settle) := by
  have row : exec .settleStep s = .next s.catchUp := congrArg Host.Outcome.next (grantRow_of_due (by simp [due]))
  rw [row, catchUp_of_due due nofun]
  rfl

theorem exec_sweepStep (due : s.due = .sweep) : exec .sweepStep s = .next (s.sweepStep.backed .sweep) := by
  have row : exec .sweepStep s = .next s.catchUp := congrArg Host.Outcome.next (grantRow_of_due (by simp [due]))
  rw [row, catchUp_of_due due nofun]
  rfl

/-- A background grant, with what follows in the same event on the blocks `followed`. -/
theorem background_works {changed followed all : List Block} {w : WorkItem} (hw : w ≠ .intake) (hf : FrameBut changed s t)
    (apart : Block.pendingSet ∉ changed ∧ Block.rotation ∉ changed)
    (after : FrameBut (.pendingSet :: followed) (t.grouped.working w) (t.backed w)) (hall : ∀ b, b ∈ changed ++ followed → b ∈ all) :
    s.Works (t.backed w) w all where
  item := by rw [finish_engine]; rfl
  group := by rw [finish_engine, if_neg hw]; rfl
  head _ := by
    rw [finish_engine]
    exact (hf .rotation apart.2).2
  sources := finish_sources fun n _ _ => by rw [← hf.pendingSet apart.1]; rfl
  frame := by
    have grant : FrameBut [.rotation, .workItem] t (t.grouped.working w) := (grouped_frame t).then (working_frame _ w) (by simp)
    refine (hf.then grant (fun _ hb => hb)).then after fun b hb => ?_
    have := hall b
    simp only [List.mem_append, List.mem_cons, List.not_mem_nil, or_false] at hb this ⊢
    grind

/-- A background grant that leaves the links to the end of the event, and nothing else. -/
theorem background_onLinks {changed all : List Block} {w : WorkItem} (hw : w ≠ .intake) (hf : FrameBut changed s t)
    (apart : Block.pendingSet ∉ changed ∧ Block.rotation ∉ changed) (rest : t.ex.atRest) (hall : ∀ b, b ∈ changed ++ [.links] → b ∈ all) :
    s.Works (t.backed w) w all :=
  background_works hw hf apart ((finish_frame_links (s := t.grouped.working w) rest).mono (by simp)) hall

/-- A background grant that leaves nothing to the end of the event but the level sources. -/
theorem background_quietly {changed : List Block} {w : WorkItem} (hw : w ≠ .intake) (hf : FrameBut changed s t)
    (apart : Block.pendingSet ∉ changed ∧ Block.rotation ∉ changed) (settled : t.linksSettled) (rest : t.ex.atRest) : s.Works (t.backed w) w changed :=
  background_works (followed := []) hw hf apart
    (finish_frame_quiet (s := t.grouped.working w) (linksSettled_congr settled rfl rfl) rest) (by simp)

theorem backed_settleList (w : WorkItem) : (t.backed w).engine.settleList = t.engine.settleList := worked_settleList (t := t.grouped) w

theorem backed_sweepPos (w : WorkItem) : (t.backed w).engine.sweepPos = t.engine.sweepPos := worked_sweepPos (t := t.grouped) w

theorem backed_store (w : WorkItem) : (t.backed w).store = t.store := worked_store (t := t.grouped) w

theorem backed_sites (w : WorkItem) : (t.backed w).sites = t.sites := worked_sites (t := t.grouped) w

theorem backed_site (w : WorkItem) (i : SiteNo) : (t.backed w).site i = t.site i := worked_site (t := t.grouped) w i

theorem backed_lists (w : WorkItem) : (t.backed w).lists = t.lists := worked_lists (t := t.grouped) w

theorem backed_co (w : WorkItem) : (t.backed w).co = t.co := worked_co (t := t.grouped) w

theorem backed_domain (w : WorkItem) : (t.backed w).domain? i d = t.domain? i d := worked_domain (t := t.grouped) w

theorem backed_now (w : WorkItem) (rest : t.ex.atRest) : (t.backed w).now = t.now := worked_now (t := t.grouped) w rest

theorem State.LowTrack.backed {n : Nat} {w : WorkItem} (h : s.LowTrack m n) : s.LowTrack (m.backed w) n :=
  State.LowTrack.finished (m := m.grouped) (h.kept rfl rfl rfl)

/-- A background grant that ends in an integrity failure (R58, R101). -/
theorem background_loses {before : List Block} {edit : Context → Context} {w : WorkItem} {r : LineRec} {act : Activity}
    (ed : s.Edited m i edit) (rest : s.ex.atRest) (hm : FrameBut before s m)
    (inside : ∀ b ∈ before, b ∈ ([.sites, .lines, .low, .settleList, .sweepPos] : List Block)) :
    s.GrantLoses ((m.integrityFailure i r act).backed w) i r.index act edit w [.rotation] ∧
      ((m.integrityFailure i r act).backed w).engine.lastGroup = .background ∧
      ((m.integrityFailure i r act).backed w).engine.lastHead = s.engine.lastHead ∧
      m.SweepPosLeft ((m.integrityFailure i r act).backed w) i := by
  have grant : FrameBut [.rotation, .workItem] (m.integrityFailure i r act) ((m.integrityFailure i r act).grouped.working w) :=
    (grouped_frame _).then (working_frame _ w) (by simp)
  have failed := integrityFailure_frame m i r act
  refine ⟨integrity_grantLoses ed rest hm grant (fun b hb => ?_) (by decide) rfl, ?_, ?_, ?_⟩
  · have := inside b hb
    simp only [List.mem_cons, List.not_mem_nil, or_false] at this
    rcases this with rfl | rfl | rfl | rfl | rfl <;> decide
  · rw [finish_engine] <;> rfl
  · have apart : Block.rotation ∉ before := fun mem => absurd (inside _ mem) (by decide)
    have head : (m.integrityFailure i r act).engine.lastHead = s.engine.lastHead := (failed .rotation (by decide)).2.trans (hm .rotation apart).2
    rw [finish_engine]
    exact head
  · have left := loseLines_sweepPos (s := m) (i := i) .integrity .integrity
    have captured : (m.integrityFailure i r act).engine.sweepPos = (m.loseLines i .integrity .integrity).engine.sweepPos :=
      captureError_frame _ i r.index act .sweepPos (by decide)
    rw [State.SweepPosLeft, backed_sweepPos, captured, left]

theorem lowFollows_backed (r : LineRec) (act : Activity) (w : WorkItem) : s.LowFollows ((s.integrityFailure i r act).backed w) := by
  rw [State.LowFollows, backed_store]
  exact integrityFailure_lowFollows s i r act

/-! ### What the Coincidence Unit leaves alone -/

theorem coMark_domains (l : List SiteNo) (j : SiteNo) : ((s.coMark l).ctx j).map (·.domains) = (s.ctx j).map (·.domains) := by
  have flagged : ((s.coFlagged l).ctx j).map (·.domains) = (s.ctx j).map (·.domains) := by
    rw [coFlagged_ctx]
    split
    · rw [Option.map_map] <;> rfl
    · rfl
  have held (t : State) : (l.foldl State.coHold t).ctx j = t.ctx j :=
    foldl_keeps (fun t : State => t.ctx j) State.coHold (fun t i => by rw [State.ctx, coHold_site] <;> rfl) l t
  cases action : s.co.action with
  | notify => rw [coMark_notify l action, flagged]
  | hold => rw [coMark_hold l action, held, flagged]

theorem coAdded_domains (n : Fin 128) (e : CoEntry) (j : SiteNo) : ((s.coAdded n i e).ctx j).map (·.domains) = (s.ctx j).map (·.domains) := by
  unfold State.coAdded
  split
  · exact coMark_domains (s := s.setCoEntry n _) _ j
  · split
    · exact coMark_domains (s := s.setCoEntry n _) _ j
    · rfl

theorem coJoin_domains (a : Axis) (x : LineAddr) (j : SiteNo) : ((s.coJoin i d a x).ctx j).map (·.domains) = (s.ctx j).map (·.domains) := by
  cases ctx : s.ctx i with
  | none => simp only [State.coJoin, ctx]
  | some c =>
    simp only [State.coJoin, ctx]
    split
    · rename_i n _
      cases s.co.table[n.val] with
      | none => rfl
      | some e =>
        dsimp only
        split
        · rfl
        · exact coAdded_domains n _ j
    · split
      · exact coAdded_domains _ _ j
      · rfl

theorem domain?_of_domains {j : SiteNo} (h : (t.ctx j).map (·.domains) = (s.ctx j).map (·.domains)) (d : DomainNo) : t.domain? j d = s.domain? j d := by
  have read (u : State) : u.domain? j d = ((u.ctx j).map (·.domains)).bind (·[d.val]?) := by
    rw [State.domain?]
    cases u.ctx j <;> rfl
  rw [read, read, h]

theorem FrameBut.co {changed : List Block} (hf : FrameBut changed s t) (table : Block.coTable ∉ changed) (settings : Block.coSettings ∉ changed)
    (full : Block.tableFull ∉ changed) : t.co = s.co := by
  have sameTable : t.co.table = s.co.table := hf .coTable table
  obtain ⟨threshold, span, action⟩ := hf .coSettings settings
  have sameFull : t.co.tableFull = s.co.tableFull := hf .tableFull full
  cases hs : s.co
  cases ht : t.co
  simp_all

/-- The Coincidence Unit is told of a line after work on the line's own domain (R88, R118). -/
theorem told_of_beside {u : State} {f : Context → Context} (h : s.Beside m k.site f) (free : FlagFree f)
    (co : u.co = (m.coJoin k.site k.domain k.axis k.addr).co) (lists : u.lists = (m.coJoin k.site k.domain k.axis k.addr).lists)
    (sites : u.sites = (m.coJoin k.site k.domain k.axis k.addr).sites) : s.ToldOfMust u k f := by
  have told := h.coJoin free k.site k.domain k.axis k.addr
  exact ⟨co.trans told.co, (congrArg SiteLists.stopNotices lists).trans told.notices, told.context.kept sites⟩

end

end Sys2Proof.Machine

end

section
/-! The settle step (R33, R58, R88, R90, R95 to R97). -/

namespace Sys2Proof.Machine

section
variable {s t m : State} {i : SiteNo} {d : DomainNo} {k : Key} {l : LineRec} {e : SettleEntry} {rest : List SettleEntry}

/-! ### The line that a step looks at (R95) -/

theorem nextCandidate_eq (s : State) (i : SiteNo) (d : DomainNo) (cursor : Option Key) : s.nextCandidate i d cursor =
    (s.store.lines.filter fun r =>
      r.key.site == i && r.key.domain == d && r.state == .candidate && cursor.all fun k => decide (k.rank < r.key.rank)).head? := by
  have both : (fun r : LineRec => r.key.site == i && r.key.domain == d && r.state == .candidate && cursor.all fun k => decide (k.rank < r.key.rank)) =
      fun r => aboveCursor cursor r.key && r.isCandidate && (r.key.site == i && r.key.domain == d) := by
    funext r
    rw [aboveCursor_eq, LineRec.isCandidate, Bool.and_comm, Bool.and_comm (_ && _) (r.state == _), Bool.and_assoc]
  rw [State.nextCandidate, State.candidates, State.domainLines, both, ← List.head?_filter, List.filter_filter, List.filter_filter]

theorem nextCandidate_some {cursor : Option Key} {tail : List LineRec} (ahead : (s.store.lines.filter fun r =>
      r.key.site == i && r.key.domain == d && r.state == .candidate && cursor.all fun k => decide (k.rank < r.key.rank)) = l :: tail) :
    s.nextCandidate i d cursor = some l ∧ l ∈ s.store.lines ∧ l.key.site = i ∧ l.key.domain = d ∧ l.state = .candidate := by
  have mem : l ∈ l :: tail := List.mem_cons_self
  rw [← ahead, List.mem_filter] at mem
  obtain ⟨line, passes⟩ := mem
  simp only [Bool.and_eq_true, beq_iff_eq] at passes
  refine ⟨by rw [nextCandidate_eq, ahead, List.head?_cons], line, passes.1.1.1, passes.1.1.2, passes.1.2⟩

/-! ### What a step comes to (R95, R96) -/

section
variable (queue : s.engine.settleList = e :: rest)
include queue

theorem settleStep_none (none : s.nextCandidate e.site e.domain e.cursor = none) :
    s.settleStep = { s with engine := { s.engine with settleList := endPass e rest } } := by
  simp only [State.settleStep, queue, none]

theorem settleStep_damaged (next : s.nextCandidate e.site e.domain e.cursor = some l) (damaged : l.syndrome ≠ 0) :
    s.settleStep = s.integrityFailure e.site l .settle := by
  simp only [State.settleStep, queue, next, readLine_of_damaged e.site .settle damaged] <;> rfl

theorem settleStep_judged (next : s.nextCandidate e.site e.domain e.cursor = some l) (sound : l.syndrome = 0) : s.settleStep =
    (if s.overBudget l then
      if 1 ≤ s.available e.site e.domain l.key.axis then
        (s.assign .settle .must l.key l.cross).andThen fun s => .more (s.moveCursor e.site e.domain l.key true)
      else .more (s.loseDomain e.site e.domain)
    else .more (s.moveCursor e.site e.domain l.key false) : Run).state := by
  simp only [State.settleStep, queue, next, readLine_of_sound e.site .settle sound] <;> rfl

end

theorem overBudget_iff (l : LineRec) : s.overBudget l = true ↔ s.available l.key.site l.key.domain l.key.axis.other < l.cross.length := by
  rw [State.overBudget, decide_eq_true_iff]

theorem moveCursor_settleList (renew : Bool) : (s.moveCursor i d k renew).engine.settleList = s.engine.settleList.map fun y =>
    if y.site = i ∧ y.domain = d then { y with cursor := some k, renew := y.renew || renew } else y := rfl

/-- The cursor moves on, and nothing else of the entry changes. -/
theorem moveCursor_plain : (s.moveCursor i d k false).engine.settleList = s.engine.settleList.map fun y =>
    if y.site = i ∧ y.domain = d then { y with cursor := some k } else y := by
  rw [moveCursor_settleList]
  simp only [Bool.or_false]

/-- The cursor moves on after the append of an assignment, which the step renews anyway (R93, R95). -/
theorem moveCursor_appended (present : ∃ y ∈ s.engine.settleList, y.site = i ∧ y.domain = d)
    (appended : t.engine.settleList = settleAppend i d s.engine.settleList) : (t.moveCursor i d k true).engine.settleList =
      s.engine.settleList.map fun y => if y.site = i ∧ y.domain = d then { y with cursor := some k, renew := true } else y := by
  rw [moveCursor_settleList, appended, settleAppend_again present, List.map_map]
  refine List.map_congr_left fun y _ => ?_
  by_cases same : y.site = i ∧ y.domain = d
  · by_cases start : y.cursor = none <;> simp [same, start]
  · have not : ¬ (y.site = i ∧ y.domain = d ∧ y.cursor ≠ none) := fun all => same ⟨all.1, all.2.1⟩
    simp [same, not]

/-! ### An assignment told to the Coincidence Unit (R88, R118) -/

/-- The assignment of a line, its claims made: the Settle List and the Coincidence Unit. -/
def State.mustClaimed (m : State) (k : Key) : State := (m.appendSettle k.site k.domain).coJoin k.site k.domain k.axis k.addr

theorem mustClaimed_frame (m : State) (k : Key) : FrameBut [.settleList, .coTable, .tableFull, .sites, .stopNotices] m (m.mustClaimed k) :=
  (appendSettle_frame m _ _).then (coJoin_frame _ _ _ _ _) (by simp)

theorem mustClaimed_store (m : State) (k : Key) : (m.mustClaimed k).store.lines = m.store.lines ∧ (m.mustClaimed k).store.lowWater = m.store.lowWater ∧
    (m.mustClaimed k).store.low = m.store.low :=
  ⟨mustClaimed_frame m k .lines (by decide), mustClaimed_frame m k .lowWater (by decide), mustClaimed_frame m k .low (by decide)⟩

theorem mustClaimed_settleList (m : State) (k : Key) : (m.mustClaimed k).engine.settleList = settleAppend k.site k.domain m.engine.settleList :=
  coJoin_frame (m.appendSettle k.site k.domain) _ _ _ _ .settleList (by decide)

theorem mustClaimed_domain (m : State) (k : Key) (i : SiteNo) (d : DomainNo) : (m.mustClaimed k).domain? i d = m.domain? i d :=
  domain?_of_domains (coJoin_domains (s := m.appendSettle k.site k.domain) _ _ i) d

theorem mustClaimed_told {f : Context → Context} (context : s.ContextEdited m k.site f) (free : FlagFree f) (co : m.co = s.co)
    (notices : m.lists.stopNotices = s.lists.stopNotices) {u : State} (same : u.co = (m.mustClaimed k).co) (lists : u.lists = (m.mustClaimed k).lists)
    (sites : u.sites = (m.mustClaimed k).sites) : s.ToldOfMust u k f :=
  told_of_beside (m := m.appendSettle k.site k.domain) ⟨context.kept rfl, co, notices⟩ free same lists sites

/-- A settle step that assigns. -/
theorem settle_assigns (hs : s.Settled) (due : s.due = .settle) (queue : s.engine.settleList = e :: rest)
    (next : s.nextCandidate e.site e.domain e.cursor = some l) (own : l.key.site = e.site ∧ l.key.domain = e.domain) (found : s.findLine l.key = some l)
    (sound : l.syndrome = 0) (exceeds : s.overBudget l = true) (spare : 0 < s.available e.site e.domain l.key.axis)
    (partners : s.partnersSound l.key l.cross) :
    ∃ u, exec .settleStep s = .next u ∧
      s.Works u .settle [.sites, .lines, .low, .settleList, .coTable, .tableFull, .stopNotices, .links] ∧ s.Assigned u l.key .must l ∧
      s.LowAfter u 0 ∧ s.ToldOfMust u l.key (fun c => c.editDomain e.domain (DomainRec.oneAssigned l.key.axis)) ∧ (s.LinksFollow u fun _ l => l) ∧
      u.engine.settleList = (e :: rest).map fun y =>
        if y.site = e.site ∧ y.domain = e.domain then { y with cursor := some l.key, renew := true } else y := by
  obtain ⟨m, assigns, assigned⟩ := assign_sound (act := .settle) (o := .must) found partners
  have claims : m.assignClaims .settle l.key .must = m.mustClaimed l.key := rfl
  have effect : s.settleStep = (m.mustClaimed l.key).moveCursor e.site e.domain l.key true := by
    rw [settleStep_judged queue next sound, if_pos exceeds, if_pos (show 1 ≤ s.available e.site e.domain l.key.axis from spare), assigns, claims] <;> rfl
  have frame : FrameBut [.sites, .lines, .low, .settleList, .coTable, .tableFull, .stopNotices] s s.settleStep := by
    rw [effect]
    exact (assigned.frame.then (mustClaimed_frame m l.key) (c := [.sites, .lines, .low, .settleList, .coTable, .tableFull, .stopNotices]) (by simp)).then
      (moveCursor_frame _ e.site e.domain l.key true) (by simp)
  have ex : s.settleStep.ex = s.ex := frame.ex (by decide) (by decide) (by decide)
  obtain ⟨lines, mark, low⟩ := mustClaimed_store m l.key
  refine ⟨_, exec_settleStep due, background_onLinks nofun frame (by decide) (by rw [ex]; exact hs.exportAtRest) (by simp), ?_, ?_, ?_, ?_, ?_⟩
  · refine assigned_congr assigned.toAssigned ⟨rfl, rfl⟩ ⟨by rw [backed_store, effect]; exact lines, ?_⟩
    rw [backed_domain, effect]
    exact mustClaimed_domain m l.key _ _
  · have kept : s.LowTrack s.settleStep 0 := by
      rw [effect]
      exact (assigned.low (lowTrack_refl s)).kept (by rw [← lines]; rfl) mark low
    exact kept.backed.low
  · rw [← own.2]
    refine mustClaimed_told assigned.context (editDomain_flagFree _ _) (assigned.frame.co (by decide) (by decide) (by decide))
      (assigned.frame .stopNotices (by decide)) ?_ ?_ ?_
    · rw [backed_co, effect] <;> rfl
    · rw [backed_lists, effect] <;> rfl
    · rw [backed_sites, effect] <;> rfl
  · exact worked_linksFollow (t := s.settleStep.grouped) .settle _ fun k => congrArg (·[k]) (frame .links (by decide))
  · have appended : (m.mustClaimed l.key).engine.settleList = settleAppend e.site e.domain s.engine.settleList := by
      rw [mustClaimed_settleList, own.1, own.2, show m.engine.settleList = _ from assigned.frame .settleList (by decide)]
    rw [backed_settleList, effect, moveCursor_appended ⟨e, by rw [queue]; exact List.mem_cons_self, rfl, rfl⟩ appended, queue]

/-- A settle step that meets a damaged partner. -/
theorem settle_loses (hs : s.Settled) (due : s.due = .settle) (queue : s.engine.settleList = e :: rest)
    (next : s.nextCandidate e.site e.domain e.cursor = some l) (own : l.key.site = e.site ∧ l.key.domain = e.domain) (sound : l.syndrome = 0)
    (exceeds : s.overBudget l = true) (spare : 0 < s.available e.site e.domain l.key.axis) {q : LineRec} (bad : s.firstBadPartner l q) :
    ∃ u, exec .settleStep s = .next u ∧
      (s.GrantLoses u e.site q.index .settle (fun c => c.editDomain e.domain (DomainRec.oneAssigned l.key.axis)) .settle [.rotation] ∧
        u.engine.lastGroup = .background ∧ u.engine.lastHead = s.engine.lastHead ∧ s.SweepPosLeft u e.site) ∧ s.LowAfter u 0 := by
  obtain ⟨pre, x, post, cross, before, partner, damaged⟩ := bad
  obtain ⟨m, halts, edited, frame, low⟩ := assign_damaged (act := .settle) (o := .must) (post := post) before partner damaged
  rw [own.1, own.2] at edited
  rw [own.1] at halts
  have effect : s.settleStep = m.integrityFailure e.site q .settle := by
    rw [settleStep_judged queue next sound, if_pos exceeds, if_pos (show 1 ≤ s.available e.site e.domain l.key.axis from spare), cross, halts] <;> rfl
  obtain ⟨loses, group, head, left⟩ := background_loses (w := .settle) (r := q) (act := .settle) edited hs.exportAtRest frame (by simp)
  rw [← effect] at loses group head left
  refine ⟨_, exec_settleStep due, ⟨loses, group, head, ?_⟩, ?_⟩
  · rw [State.SweepPosLeft, left, edited.siteState, show m.engine.sweepPos = _ from frame .sweepPos (by decide)]
  · rw [effect]
    exact ((low (lowTrack_refl s)).lost q).backed.low

/-- A settle step that loses the domain (R90). -/
theorem settle_losesDomain (hs : s.Settled) (due : s.due = .settle) (queue : s.engine.settleList = e :: rest)
    (next : s.nextCandidate e.site e.domain e.cursor = some l) (sound : l.syndrome = 0) (exceeds : s.overBudget l = true)
    (spare : s.available e.site e.domain l.key.axis = 0) :
    ∃ u, exec .settleStep s = .next u ∧ s.Works u .settle [.sites, .lines, .low, .settleList, .stopNotices, .links, .clock] ∧
      s.DomainLost u e.site e.domain id ∧ u.store.lines = s.withoutCandidates e.site e.domain ∧ s.LowFollows u ∧
      s.LinksFollow u (s.earlyDrain e.site) := by
  have effect : s.settleStep = s.loseDomain e.site e.domain := by
    rw [settleStep_judged queue next sound, if_pos exceeds, if_neg (by omega)] <;> rfl
  have context : s.ContextEdited s e.site fun c => c.editDomain e.domain id := by
    have same : (fun c : Context => c.editDomain e.domain id) = id := funext fun c => by simp [Context.editDomain]
    rw [same]
    exact ⟨by rw [Option.map_id]; rfl, fun _ _ => rfl⟩
  have frame := loseDomain_frame s e.site e.domain
  have ex : (s.loseDomain e.site e.domain).ex = s.ex := frame.ex (by decide) (by decide) (by decide)
  have atRest : (s.loseDomain e.site e.domain).ex.atRest := by
    rw [ex]
    exact hs.exportAtRest
  have lost := loseDomain_lost context rfl rfl
  refine ⟨_, exec_settleStep due, ?_⟩
  rw [effect]
  refine ⟨background_onLinks nofun frame (by decide) atRest (by simp), ⟨?_, fun j other => ?_, ?_, ?_⟩, ?_, ?_, ?_⟩
  · rw [backed_site, lost.site, backed_now .settle atRest]
  · rw [backed_site, lost.others j other]
  · rw [backed_settleList, lost.settle]
  · rw [backed_lists, lost.notices]
  · rw [backed_store, loseDomain_lines]
  · rw [State.LowFollows, backed_store]
    exact loseDomain_lowFollows s e.site e.domain
  · exact worked_linksFollow (t := (s.loseDomain e.site e.domain).grouped) .settle _ fun h => loseDomain_link context rfl h

end

end Sys2Proof.Machine

open Sys2Proof Sys2Proof.Machine

/-- Settles O50, by what the step finds of its line. -/
theorem settleStepJudgesOneLine : Obligations.SettleStepJudgesOneLine := by
  unfold Obligations.SettleStepJudgesOneLine
  intro s e rest hs due queue
  have quiet {t : State} (effect : s.settleStep = t) (frame : FrameBut [.settleList] s t) :
      ∃ u, exec .settleStep s = .next u ∧ s.Works u .settle [.settleList] ∧ u.engine.settleList = t.engine.settleList := by
    have ex : t.ex = s.ex := frame.ex (by decide) (by decide) (by decide)
    refine ⟨t.backed .settle, by rw [exec_settleStep due, effect], ?_, backed_settleList _⟩
    exact background_quietly nofun frame (by decide)
      (linksSettled_congr hs.linksSettled (frame .sites (by decide)) (frame .links (by decide))) (by rw [ex]; exact hs.exportAtRest)
  refine ⟨fun none => ?_, fun l tail ahead => ?_⟩
  · have next : s.nextCandidate e.site e.domain e.cursor = Option.none := by rw [nextCandidate_eq, none, List.head?_nil]
    exact quiet (settleStep_none queue next) (settleList_frame s _)
  · obtain ⟨next, mem, site, domain, -⟩ := nextCandidate_some ahead
    have budget := overBudget_iff (s := s) l
    rw [site, domain] at budget
    refine ⟨fun sound within => ?_, fun sound exceeds spare rises => ⟨fun partners => ?_, fun q bad => ?_⟩, fun sound exceeds spare => ?_, fun damaged => ?_⟩
    · have effect : s.settleStep = s.moveCursor e.site e.domain l.key false := by
        rw [settleStep_judged queue next sound, if_neg (mt budget.mp within)] <;> rfl
      obtain ⟨u, row, works, list⟩ := quiet effect (moveCursor_frame s e.site e.domain l.key false)
      exact ⟨u, row, works, list.trans (by rw [moveCursor_plain, queue])⟩
    · exact settle_assigns hs due queue next ⟨site, domain⟩ (findLine_of_mem rises mem) sound (budget.mpr exceeds) spare partners
    · exact settle_loses hs due queue next ⟨site, domain⟩ sound (budget.mpr exceeds) spare bad
    · exact settle_losesDomain hs due queue next sound (budget.mpr exceeds) spare
    · have effect := settleStep_damaged queue next damaged
      have loses := background_loses (w := .settle) (r := l) (act := .settle) (edited_refl s e.site) hs.exportAtRest (.refl s []) (by simp)
      rw [← effect] at loses
      refine ⟨_, exec_settleStep due, loses, ?_⟩
      rw [effect]
      exact lowFollows_backed l .settle .settle

end

section
/-! FAIL frames at their grants (R69 to R72). -/

namespace Sys2Proof.Machine

section
variable {s t : State} {i : SiteNo} {k : Key}

/-! ### What a fold leaves alone of the other sites -/

theorem sameElsewhere_refl (s : State) (i : SiteNo) : s.SameElsewhere s i := rfl

theorem andThen_sameElsewhere {r : Run} {f : State → Run} (first : s.SameElsewhere r.state i) (next : ∀ t : State, t.SameElsewhere (f t).state i) :
    s.SameElsewhere (r.andThen f).state i := by
  cases r with
  | more t => exact first.trans (next t)
  | halt t => exact first

theorem loseLines_sameElsewhere (s : State) (i : SiteNo) (why : Reason) (note : NoticeReason) : s.SameElsewhere (s.loseLines i why note) i := by
  rw [State.SameElsewhere, (loseLines_lost why note (edited_refl s i)).lines, List.filter_filter]
  simp only [Bool.and_self]

theorem integrityFailure_sameElsewhere (s : State) (i : SiteNo) (r : LineRec) (act : Activity) : s.SameElsewhere (s.integrityFailure i r act) i :=
  (loseLines_sameElsewhere s i .integrity .integrity).trans
    (sameElsewhere_of_lines (captureError_frame (s.loseLines i .integrity .integrity) i r.index act .lines (by decide)))

theorem readLine_sameElsewhere (s : State) (i : SiteNo) (act : Activity) (r : LineRec) : s.SameElsewhere (s.readLine i act r).state i := by
  rw [State.readLine]
  split
  · exact sameElsewhere_refl s i
  · exact integrityFailure_sameElsewhere s i r act

theorem readIfPresent_sameElsewhere (s : State) (i : SiteNo) (act : Activity) (k : Key) : s.SameElsewhere (s.readIfPresent i act k).state i := by
  rw [State.readIfPresent]
  split
  · exact sameElsewhere_refl s i
  · exact readLine_sameElsewhere s i act _

theorem uncross_sameElsewhere (s : State) (act : Activity) (k : Key) (x : LineAddr) : s.SameElsewhere (s.uncross act k x).state k.site := by
  unfold State.uncross
  dsimp only
  split
  · exact sameElsewhere_refl s k.site
  · refine andThen_sameElsewhere (readLine_sameElsewhere s k.site act _) fun t => ?_
    split
    · exact freeLine_sameElsewhere (k := k.partner x)
    · exact writeLine_sameElsewhere (k := k.partner x) _

theorem uncrossAll_sameElsewhere (act : Activity) (k : Key) (l : List LineAddr) (s : State) :
    s.SameElsewhere (State.uncrossAll act k l s).state k.site := by
  induction l generalizing s with
  | nil => exact sameElsewhere_refl s k.site
  | cons x l ih => exact andThen_sameElsewhere (uncross_sameElsewhere s act k x) ih

theorem assignClaims_frame (s : State) (act : Activity) (k : Key) (o : Origin) :
    FrameBut [.settleList, .coTable, .tableFull, .sites, .stopNotices] s (s.assignClaims act k o) := by
  rw [State.assignClaims]
  have listed : FrameBut [.settleList] s (if act = .sweep then s else s.appendSettle k.site k.domain) := frame_ite (.refl s _) (appendSettle_frame s _ _)
  exact frame_ite (listed.then (coJoin_frame _ _ _ _ _) (by simp)) (listed.mono (by simp))

theorem assign_sameElsewhere (s : State) (act : Activity) (o : Origin) (k : Key) (cross : List LineAddr) :
    s.SameElsewhere (s.assign act o k cross).state k.site := by
  refine andThen_sameElsewhere (uncrossAll_sameElsewhere act k cross (s.spent k)) fun t => ?_
  exact (writeLine_sameElsewhere _).trans (sameElsewhere_of_lines (assignClaims_frame _ act k o .lines (by decide)))

theorem foldAssign_sameElsewhere (s : State) (k : Key) (cross : List LineAddr) : s.SameElsewhere (s.foldAssign k cross).state k.site := by
  rw [State.foldAssign]
  split
  · exact assign_sameElsewhere s .fold .must k cross
  · exact loseDomain_sameElsewhere

theorem freeIfEmpty_sameElsewhere (s : State) (k : Key) : s.SameElsewhere (s.freeIfEmpty k) k.site := by
  unfold State.freeIfEmpty
  split
  · split
    · exact freeLine_sameElsewhere
    · exact sameElsewhere_refl s k.site
  · exact sameElsewhere_refl s k.site

theorem createAbsent_sameElsewhere (s : State) (k : Key) : s.SameElsewhere (s.createAbsent k) k.site := by
  rw [State.createAbsent]
  split
  · exact sameElsewhere_refl s k.site
  · exact takeLine_sameElsewhere _

/-- The cell of two lines is recorded on both (R77). -/
def State.crossed (s : State) (kr kc : Key) : State :=
  (s.writeLine kr fun r => { r with cross := crossInsert kc.addr r.cross }).writeLine kc fun r => { r with cross := crossInsert kr.addr r.cross }

theorem foldJudge_eq (s : State) (kr kc : Key) : s.foldJudge kr kc =
    if s.available kr.site kr.domain .column < (s.crossOf kr).length then
      (s.foldAssign kr (s.crossOf kr)).andThen fun s => .more (s.freeIfEmpty kc)
    else if (s.crossed kr kc).available kr.site kr.domain .column < ((s.crossed kr kc).crossOf kr).length then
      (s.crossed kr kc).foldAssign kr ((s.crossed kr kc).crossOf kr)
    else if (s.crossed kr kc).available kr.site kr.domain .row < ((s.crossed kr kc).crossOf kc).length then
      (s.crossed kr kc).foldAssign kc ((s.crossed kr kc).crossOf kc)
    else .more (s.crossed kr kc) := rfl

section
variable {kr kc : Key} (row : kr.site = i) (column : kc.site = i)
include row column

theorem foldJudge_sameElsewhere (s : State) : s.SameElsewhere (s.foldJudge kr kc).state i := by
  have assigned (k : Key) (own : k.site = i) (t : State) (cross : List LineAddr) : t.SameElsewhere (t.foldAssign k cross).state i :=
    own ▸ foldAssign_sameElsewhere t k cross
  have crossed : s.SameElsewhere (s.crossed kr kc) i :=
    (row ▸ writeLine_sameElsewhere _).trans (column ▸ writeLine_sameElsewhere (s := s.writeLine kr _) _)
  rw [foldJudge_eq]
  split
  · exact andThen_sameElsewhere (assigned kr row s _) fun t => column ▸ freeIfEmpty_sameElsewhere t kc
  · split
    · exact crossed.trans (assigned kr row _ _)
    · split
      · exact crossed.trans (assigned kc column _ _)
      · exact crossed

theorem foldUncovered_sameElsewhere (s : State) : s.SameElsewhere (s.foldUncovered kr kc).state i := by
  have counted (k : Key) (own : k.site = i) (t : State) : t.SameElsewhere (t.countLine k) i := own ▸ writeLine_sameElsewhere _
  have created (k : Key) (own : k.site = i) (t : State) : t.SameElsewhere (t.createAbsent k) i := own ▸ createAbsent_sameElsewhere t k
  unfold State.foldUncovered
  dsimp only
  split
  · exact row ▸ loseLines_sameElsewhere s kr.site _ _
  · exact row ▸ loseLines_sameElsewhere s kr.site _ _
  · refine (((created kr row s).trans (created kc column _)).trans ((counted kr row _).trans (counted kc column _))).trans ?_
    split
    · exact sameElsewhere_refl _ i
    · exact foldJudge_sameElsewhere row column _

end

theorem foldCell_sameElsewhere (s : State) (i : SiteNo) (d : DomainNo) (r c : LineAddr) : s.SameElsewhere (s.foldCell i d r c).state i := by
  have counted (k : Key) (own : k.site = i) (t : State) : t.SameElsewhere (t.countLine k) i := own ▸ writeLine_sameElsewhere _
  unfold State.foldCell
  refine (sameElsewhere_of_lines (t := s.modDomain i d DomainRec.countFail) rfl).trans ?_
  dsimp only
  split
  · exact sameElsewhere_refl _ i
  · refine andThen_sameElsewhere (readIfPresent_sameElsewhere _ i .fold _) fun t => ?_
    refine andThen_sameElsewhere (readIfPresent_sameElsewhere t i .fold _) fun u => ?_
    split
    · exact counted _ rfl u
    · split
      · exact counted _ rfl u
      · exact foldUncovered_sameElsewhere (kr := ⟨i, d, .row, r⟩) (kc := ⟨i, d, .column, c⟩) rfl rfl u

theorem foldRun_sameElsewhere (i : SiteNo) (d : DomainNo) (r : LineAddr) (l : List LineAddr) (s : State) :
    s.SameElsewhere (State.foldRun i d r l s).state i := by
  induction l generalizing s with
  | nil => exact sameElsewhere_refl s i
  | cons c l ih => exact andThen_sameElsewhere (foldCell_sameElsewhere s i d r c) ih

end

/-! ### A FAIL frame taken (R69 to R71) -/

section
variable {s : State} {h : HeadNo} {slot : SlotNo} {d : DomainNo} {row : LineAddr} {col : BitVec 12} {len : Fin 16} {rest : List UpFrame} {c : Context}

theorem takeItem_fail (fifo : (s.link h).fifo = .fail slot d row col len :: rest) :
    s.takeItem h = (s.framePopped h rest).takeFail h slot d row col len := by
  rw [State.takeItem, fifo, ← popFrame_framePopped fifo]

theorem exec_fail_of_due (due : s.due = .intake h) (fifo : (s.link h).fifo = .fail slot d row col len :: rest) :
    exec .failFrameTaken s = .next s.catchUp := by
  have taken := exec_intake_of_due due
  rwa [fifo] at taken

theorem takeFail_stray (state : s.siteState (siteOf h slot) ∈ [.vacant, .armed, .held]) : s.takeFail h slot d row col len = s.addCause h .stray := by
  rw [siteState_eq] at state
  unfold State.takeFail
  cases ctx : s.ctx (siteOf h slot) with
  | none => rfl
  | some c =>
    rw [ctx] at state
    cases phase : c.phase <;> simp [phase] at state <;> simp only [phase]

theorem takeFail_late (state : s.siteState (siteOf h slot) = .sweeping) : s.takeFail h slot d row col len = s.addCause h .late := by
  rw [siteState_eq] at state
  unfold State.takeFail
  cases ctx : s.ctx (siteOf h slot) with
  | none => simp [ctx] at state
  | some c =>
    rw [ctx] at state
    cases phase : c.phase <;> simp [phase] at state <;> simp only [phase]

theorem takeFail_open (ctx : s.ctx (siteOf h slot) = some c) (phase : c.phase ∈ [.testing, .draining]) :
    s.takeFail h slot d row col len = s.takeFailOpen h (siteOf h slot) c d row col len := by
  unfold State.takeFail
  cases own : c.phase <;> simp [own] at phase <;> simp only [ctx, own]

theorem runInside_iff (g : Geometry) : g.runInside d row col len = true ↔
    d.val < g.domainCount ∧ row.toNat < g.rows ∧ col.toNat + len.val < g.columns := by
  simp only [Geometry.runInside, Bool.and_eq_true, decide_eq_true_iff, and_assoc]

theorem takeFailOpen_reason {i : SiteNo} (reason : c.reason ≠ none) : s.takeFailOpen h i c d row col len = s :=
  if_pos (Option.isSome_iff_ne_none.mpr reason)

theorem takeFailOpen_outside {i : SiteNo} (reason : c.reason = none) (outside : ¬ c.geometry.runInside d row col len = true) :
    s.takeFailOpen h i c d row col len = (s.addFlag i .badAddress).addCause h .badAddress := by
  rw [State.takeFailOpen, if_neg (by simp [reason]), if_neg outside]

theorem takeFailOpen_inside {i : SiteNo} (reason : c.reason = none) (inside : c.geometry.runInside d row col len = true) :
    s.takeFailOpen h i c d row col len =
      (State.foldRun i d (c.geometry.lineOf .row row.toNat) (runColumns c.geometry col.toNat (len.val + 1)) s).state := by
  rw [State.takeFailOpen, if_neg (by simp [reason]), if_pos inside]

end

end Sys2Proof.Machine

open Sys2Proof Sys2Proof.Machine

/-- Settles O51. -/
theorem failFramesAreCheckedAndFolded : Obligations.FailFramesAreCheckedAndFolded := by
  unfold Obligations.FailFramesAreCheckedAndFolded
  refine ⟨fun s => ⟨finish_linksFollow s s _ fun _ => rfl, finish_followed s, finish_sources fun _ _ _ => rfl, finish_now_le s, finish_frame s⟩,
    fun i d r s => rfl, fun i d r c cs s t => ⟨fun more => ?_, fun halts => ?_⟩, fun s h slot d row col len rest hs due fifo => ⟨fun state => ?_, fun state => ?_, fun c ctx phase => ?_⟩⟩
  · rw [State.foldRun, more] <;> rfl
  · rw [State.foldRun, halts] <;> rfl
  · obtain ⟨u, run, works, last, links, -, -, -⟩ := intake_grant (all := [.links]) due (exec_fail_of_due due fifo)
      ((takeItem_fail fifo).trans (takeFail_stray (s := s.framePopped h rest) state)) hs.exportAtRest
      ((framePopped_frame s h rest).then (modLink_frame _ h _) (c := [.links]) (by simp)) (by decide) (by decide) (framePopped_addCause_link rest .stray)
    exact ⟨u, run, works, last, links⟩
  · obtain ⟨u, run, works, last, links, -, -, -⟩ := intake_grant (all := [.links]) due (exec_fail_of_due due fifo)
      ((takeItem_fail fifo).trans (takeFail_late (s := s.framePopped h rest) state)) hs.exportAtRest
      ((framePopped_frame s h rest).then (modLink_frame _ h _) (c := [.links]) (by simp)) (by decide) (by decide) (framePopped_addCause_link rest .late)
    exact ⟨u, run, works, last, links⟩
  · have taken := (takeItem_fail fifo).trans (takeFail_open (s := s.framePopped h rest) ctx phase)
    refine ⟨fun reason => ?_, fun reason outside => ?_, fun reason inside => ?_⟩
    · obtain ⟨u, run, works, last, links, -, -, -⟩ := intake_grant (all := [.links]) (f := fun k l => if k = h then l.popped rest else l) due
        (exec_fail_of_due due fifo) (taken.trans (takeFailOpen_reason reason)) hs.exportAtRest (framePopped_frame s h rest) (by decide) (by decide)
        (framePopped_link rest)
      exact ⟨u, run, works, last, links⟩
    · obtain ⟨u, run, works, last, links, sites, -, -⟩ := intake_grant (all := [.links, .sites]) due (exec_fail_of_due due fifo)
        (taken.trans (takeFailOpen_outside reason (mt (runInside_iff c.geometry).mp outside))) hs.exportAtRest
        (((framePopped_frame s h rest).then (addFlag_frame _ _ _) (c := [.links, .sites]) (by simp)).then (modLink_frame _ h _) (c := [.links, .sites]) (by simp))
        (by decide) (by decide) (framePopped_addCause_link rest .badAddress)
      have flagged := addFlag_contextEdited (s.framePopped h rest) (siteOf h slot) .badAddress
      have before : (s.framePopped h rest).ctx (siteOf h slot) = some c := ctx
      refine ⟨u, run, works, last, (sites _).trans (flagged.site.trans ?_), fun j other => (sites j).trans (flagged.others j other), links⟩
      rw [before] <;> rfl
    · have folded := taken.trans (takeFailOpen_inside reason ((runInside_iff c.geometry).mpr inside))
      refine ⟨?_, fun r other => ?_⟩
      · rw [exec_fail_of_due due fifo, catchUp_intake due, folded] <;> rfl
      · exact ((sameElsewhere_of_lines (s := s) (t := s.framePopped h rest) rfl).trans (foldRun_sameElsewhere _ _ _ _ _)).mem other

end

section
/-! The fold of one position: the count, the reads, the covered cell, the demand and the records (R73 to R76, R80). -/

namespace Sys2Proof.Machine

section
variable {s t m : State} {i : SiteNo} {d : DomainNo} {k q kr kc : Key} {x : DomainRec} {l : LineRec} {f g : Context → Context} {r c : LineAddr}

/-! ### Counts (R48, R73) -/

theorem satInc_eq (n : Count16) : satInc n = if n.toNat = 65535 then n else n + 1 := by
  have full : n = 0xFFFF ↔ n.toNat = 65535 := ⟨fun same => by rw [same]; rfl, fun same => BitVec.eq_of_toNat_eq same⟩
  rw [satInc]
  exact ite_congr (propext full) (fun _ => rfl) fun _ => rfl

theorem countFail_unrepairable (x : DomainRec) : x.countFail.state = .unrepairable ↔ x.state = .unrepairable := by
  rw [DomainRec.countFail]
  split
  · rename_i opened
    simp [opened.2]
  · rfl

theorem State.ContextEdited.congr (h : s.ContextEdited t i f) (same : ∀ b, s.ctx i = some b → f b = g b) : s.ContextEdited t i g := by
  refine ⟨h.site.trans ?_, h.others⟩
  rw [show (s.ctx i).map f = (s.ctx i).map g from Option.map_congr fun b hb => same b hb]

/-- The edit of a record that is known. -/
theorem modDomain_known (domain : s.domain? i d = some x) (f : DomainRec → DomainRec) :
    s.ContextEdited (s.modDomain i d f) i fun b => b.editDomain d fun _ => f x := by
  refine (modDomain_contextEdited s i d f).congr fun b ctx => ?_
  rw [State.domain?, ctx] at domain
  have same : b.domains.modify d.val f = b.domains.modify d.val fun _ => f x :=
    (modify_domain domain f).trans (modify_domain domain fun _ => f x).symm
  rw [Context.editDomain, Context.editDomain, same]

theorem ctx_of_domain (domain : s.domain? i d = some x) : s.ctx i ≠ none := fun vacant => by
  rw [State.domain?, vacant] at domain
  cases domain

/-- The fail is counted at its domain (R73). -/
def State.tolled (s : State) (i : SiteNo) (d : DomainNo) : State := s.modDomain i d DomainRec.countFail

theorem tolled_frame (s : State) (i : SiteNo) (d : DomainNo) : FrameBut [.sites] s (s.tolled i d) := modDomain_frame s i d _

theorem tolled_context (domain : s.domain? i d = some x) : s.ContextEdited (s.tolled i d) i fun b => b.editDomain d fun _ => x.countFail :=
  modDomain_known domain _

theorem tolled_domain (domain : s.domain? i d = some x) : (s.tolled i d).domain? i d = some x.countFail :=
  ((modDomain_contextEdited s i d _).domain).trans (by rw [domain] <;> rfl)

/-- What the count leaves for a loss of the site's lines to read. -/
theorem tolled_edited (domain : s.domain? i d = some x) : s.Edited (s.tolled i d) i fun b => b.editDomain d fun _ => x.countFail :=
  edited_of (tolled_context domain) (sameElsewhere_of_lines rfl) (tolled_frame s i d) (by decide) fun _ => ⟨rfl, rfl, rfl⟩

/-! ### The reads (R57, R74) -/

/-- The row line of a cell and its column line (R72). -/
abbrev rowKey (i : SiteNo) (d : DomainNo) (r : LineAddr) : Key := { site := i, domain := d, axis := .row, addr := r }

abbrev columnKey (i : SiteNo) (d : DomainNo) (c : LineAddr) : Key := { site := i, domain := d, axis := .column, addr := c }

theorem columnKey_ne (i : SiteNo) (d : DomainNo) (r c : LineAddr) : columnKey i d c ≠ rowKey i d r := by simp

/-- A line that is absent or passes its check. -/
def State.lineSound (s : State) (k : Key) : Prop := ∀ l, s.findLine k = some l → l.syndrome = 0

theorem readIfPresent_sound (act : Activity) (sound : s.lineSound k) : s.readIfPresent i act k = .more s := by
  rw [State.readIfPresent]
  split
  · rfl
  · rename_i l found
    exact readLine_of_sound i act (sound l found)

theorem readIfPresent_damaged (act : Activity) (found : s.findLine k = some l) (damaged : l.syndrome ≠ 0) :
    s.readIfPresent i act k = .halt (s.integrityFailure i l act) := by
  rw [State.readIfPresent, found]
  exact readLine_of_damaged i act damaged

section
variable (domain : s.domain? i d = some x)
include domain

theorem foldCell_unrepairable (lost : x.state = .unrepairable) : s.foldCell i d r c = .more (s.tolled i d) := by
  refine if_pos ?_
  rw [show (s.modDomain i d DomainRec.countFail).domain? i d = _ from tolled_domain domain, Option.map_some,
    (countFail_unrepairable x).mpr lost]

theorem foldCell_reads (kept : x.state ≠ .unrepairable) : s.foldCell i d r c =
    ((s.tolled i d).readIfPresent i .fold (rowKey i d r)).andThen fun s =>
      (s.readIfPresent i .fold (columnKey i d c)).andThen fun s =>
        if isAssigned (s.findLine (rowKey i d r)) then .more (s.countLine (rowKey i d r))
        else if isAssigned (s.findLine (columnKey i d c)) then .more (s.countLine (columnKey i d c))
        else s.foldUncovered (rowKey i d r) (columnKey i d c) := by
  refine if_neg fun lost => kept ?_
  rw [show (s.modDomain i d DomainRec.countFail).domain? i d = _ from tolled_domain domain, Option.map_some] at lost
  exact (countFail_unrepairable x).mp (Option.some.inj lost)

theorem foldCell_rowDamaged (kept : x.state ≠ .unrepairable) (found : s.findLine (rowKey i d r) = some l) (damaged : l.syndrome ≠ 0) :
    s.foldCell i d r c = .halt ((s.tolled i d).integrityFailure i l .fold) := by
  rw [foldCell_reads domain kept, readIfPresent_damaged (s := s.tolled i d) .fold found damaged] <;> rfl

theorem foldCell_columnDamaged (kept : x.state ≠ .unrepairable) (sound : s.lineSound (rowKey i d r)) (found : s.findLine (columnKey i d c) = some l)
    (damaged : l.syndrome ≠ 0) : s.foldCell i d r c = .halt ((s.tolled i d).integrityFailure i l .fold) := by
  rw [foldCell_reads domain kept, readIfPresent_sound (s := s.tolled i d) .fold sound, Run.andThen,
    readIfPresent_damaged (s := s.tolled i d) .fold found damaged] <;> rfl

theorem foldCell_read (kept : x.state ≠ .unrepairable) (row : s.lineSound (rowKey i d r)) (column : s.lineSound (columnKey i d c)) :
    s.foldCell i d r c =
      if isAssigned (s.findLine (rowKey i d r)) then .more ((s.tolled i d).countLine (rowKey i d r))
      else if isAssigned (s.findLine (columnKey i d c)) then .more ((s.tolled i d).countLine (columnKey i d c))
      else (s.tolled i d).foldUncovered (rowKey i d r) (columnKey i d c) := by
  rw [foldCell_reads domain kept, readIfPresent_sound (s := s.tolled i d) .fold row, Run.andThen,
    readIfPresent_sound (s := s.tolled i d) .fold column] <;> rfl

end

/-- A line that is absent or CANDIDATE. -/
def State.lineOpen (s : State) (k : Key) : Prop := ∀ l, s.findLine k = some l → l.state = .candidate

theorem isAssigned_open (opened : s.lineOpen k) : ¬ isAssigned (s.findLine k) = true := by
  cases found : s.findLine k with
  | none => simp [isAssigned]
  | some l => simp [isAssigned, LineRec.isCandidate, opened l found]

theorem isAssigned_covers (found : s.findLine k = some l) (covers : l.state ≠ .candidate) : isAssigned (s.findLine k) = true := by
  simp [found, isAssigned, LineRec.isCandidate, covers]

/-! ### The covered cell (R75) -/

theorem countLine_found (found : s.findLine k = some l) (sound : l.syndrome = 0) :
    (s.countLine k).findLine k = some { l with failCount := satInc l.failCount } := by
  rw [State.countLine, findLine_writeLine, if_pos rfl, found, Option.map_some, ← sound]

theorem countLine_other (other : q ≠ k) : (s.countLine k).findLine q = s.findLine q := by
  rw [State.countLine, findLine_writeLine, if_neg other]

/-- The fail counted on both lines of a cell. -/
theorem countLine_both {lr lc : LineRec} (apart : kc ≠ kr) (row : s.findLine kr = some lr) (column : s.findLine kc = some lc)
    (rowSound : lr.syndrome = 0) (columnSound : lc.syndrome = 0) :
    ((s.countLine kr).countLine kc).findLine kr = some { lr with failCount := satInc lr.failCount } ∧
      ((s.countLine kr).countLine kc).findLine kc = some { lc with failCount := satInc lc.failCount } :=
  ⟨(countLine_other apart.symm).trans (countLine_found row rowSound), countLine_found ((countLine_other apart).trans column) columnSound⟩

/-! ### The demand (R53, R76) -/

/-- The records that a line takes. -/
def State.lacks (s : State) (k : Key) : Nat := if s.findLine k = none then 1 else 0

theorem lacks_eq (s : State) (k : Key) : (if (s.findLine k).isSome then 0 else 1) = s.lacks k := by
  rw [State.lacks]
  cases s.findLine k <;> simp

theorem lacks_present (found : s.findLine k = some l) : s.lacks k = 0 := by simp [State.lacks, found]

/-- Both lines of a new cell, created where absent, with the fail counted on them (R76). -/
def State.drafted (s : State) (kr kc : Key) : State := (((s.createAbsent kr).createAbsent kc).countLine kr).countLine kc

section
variable {b : Context}

theorem foldUncovered_spill (some_absent : 0 < s.lacks kr + s.lacks kc) (full : s.freeCount < s.lacks kr + s.lacks kc) :
    s.foldUncovered kr kc = .halt (s.loseLines kr.site .spill .spill) := by
  unfold State.foldUncovered
  simp only [lacks_eq, if_neg (Nat.ne_of_gt some_absent), State.demand, if_pos full]

theorem foldUncovered_quota (ctx : s.ctx kr.site = some b) (some_absent : 0 < s.lacks kr + s.lacks kc) (room : s.lacks kr + s.lacks kc ≤ s.freeCount)
    (full : b.quota < s.inUse kr.site + (s.lacks kr + s.lacks kc)) : s.foldUncovered kr kc = .halt (s.loseLines kr.site .quota .quota) := by
  have quota : ((s.ctx kr.site).map (·.quota)).getD 0 = b.quota := by rw [ctx] <;> rfl
  unfold State.foldUncovered
  simp only [lacks_eq, if_neg (Nat.ne_of_gt some_absent), State.demand, if_neg (Nat.not_lt.mpr room), quota, if_pos full]

theorem foldUncovered_met (ctx : s.ctx kr.site = some b) (met : s.lacks kr + s.lacks kc = 0 ∨
      s.lacks kr + s.lacks kc ≤ s.freeCount ∧ s.inUse kr.site + (s.lacks kr + s.lacks kc) ≤ b.quota) : s.foldUncovered kr kc =
    if ((s.drafted kr kc).crossOf kr).contains kc.addr then .more (s.drafted kr kc) else (s.drafted kr kc).foldJudge kr kc := by
  have quota : ((s.ctx kr.site).map (·.quota)).getD 0 = b.quota := by rw [ctx] <;> rfl
  have demand : (if s.lacks kr + s.lacks kc = 0 then Demand.met else s.demand kr.site (s.lacks kr + s.lacks kc)) = .met := by
    split
    · rfl
    · rename_i some_absent
      obtain ⟨room, within⟩ := met.resolve_left some_absent
      rw [State.demand, if_neg (Nat.not_lt.mpr room), quota, if_neg (Nat.not_lt.mpr within)]
  unfold State.foldUncovered
  simp only [lacks_eq, demand]
  rfl

end

/-! ### The lines of a new cell (R48, R76) -/

theorem createAbsent_present (found : s.findLine k = some l) : s.createAbsent k = s := by
  rw [State.createAbsent, found] <;> rfl

theorem drafted_present {lr lc : LineRec} (row : s.findLine kr = some lr) (column : s.findLine kc = some lc) :
    s.drafted kr kc = (s.countLine kr).countLine kc := by
  rw [State.drafted, createAbsent_present row, createAbsent_present column]

/-! ### Losses of a site during a fold (R58, R80) -/

/-- The blocks that a fold may have changed before it loses the site's lines. -/
def foldBlocks : List Block := [.sites, .lines, .low, .clock]

section
variable {edit : Context → Context} {before : List Block}
variable (ed : s.Edited m i edit) (frame : FrameBut before s m) (inside : ∀ b ∈ before, b ∈ foldBlocks)
include ed frame inside

theorem loseLines_beside (why : Reason) (note : NoticeReason) :
    s.SweepPosLeft (m.loseLines i why note) i ∧ (∀ h, (m.loseLines i why note).link h = s.drainAsked i h (s.link h)) ∧
      FrameBut [.sites, .sweepQueue, .stopNotices, .lines, .low, .settleList, .sweepPos, .coTable, .links, .collectionQueue, .clock] s
        (m.loseLines i why note) := by
  have apart (b : Block) (hb : b ∉ foldBlocks) : b ∉ before := fun mem => hb (inside b mem)
  have sweepPos : m.engine.sweepPos = s.engine.sweepPos := frame .sweepPos (apart _ (by decide))
  have links : m.links = s.links := frame .links (apart _ (by decide))
  refine ⟨?_, fun h => ?_, frame.then (loseLines_frame m i why note) fun b hb => ?_⟩
  · rw [State.SweepPosLeft, loseLines_sweepPos, ed.siteState, sweepPos]
  · have link : m.link h = s.link h := congrArg (·[h]) links
    rw [loseLines_link, link, State.drainAsked, State.drainAsked, ed.siteState]
  · rcases List.mem_append.mp hb with hb | hb
    · have := inside b hb
      revert this
      simp only [foldBlocks, List.mem_cons, List.not_mem_nil, or_false]
      grind
    · exact hb

theorem integrityFailure_beside (l : LineRec) (act : Activity) :
    s.SweepPosLeft (m.integrityFailure i l act) i ∧ (∀ h, (m.integrityFailure i l act).link h = s.drainAsked i h (s.link h)) ∧
      FrameBut [.sites, .sweepQueue, .stopNotices, .lines, .low, .capture, .settleList, .sweepPos, .coTable, .links, .collectionQueue, .clock,
        .pendingSet] s (m.integrityFailure i l act) := by
  obtain ⟨sweepPos, links, lost⟩ := loseLines_beside ed frame inside .integrity .integrity
  have captured := captureError_frame (m.loseLines i .integrity .integrity) i l.index act
  refine ⟨?_, fun h => ?_, lost.then captured (by simp)⟩
  · exact (show _ = _ from captured .sweepPos (by decide)).trans sweepPos
  · exact (congrArg (·[h]) (show _ = _ from captured .links (by decide))).trans (links h)

end

theorem loseLines_lowFollows (s : State) (i : SiteNo) (why : Reason) (note : NoticeReason) : s.LowFollows (s.loseLines i why note) := by
  have store := (loseLines_emptied (s := s) (i := i) why note).1
  rw [State.LowFollows, store]
  exact (freeSite_freed s i).low

end

end Sys2Proof.Machine

open Sys2Proof Sys2Proof.Machine

/-- Settles O52. -/
theorem foldCountsCells : Obligations.FoldCountsCells := by
  unfold Obligations.FoldCountsCells
  intro s i d r c x domain kr kc up counted toll sound open_ covers absent need lostBut spills damaged
  have bump : satInc = up := funext satInc_eq
  have count : x.countFail = counted := by rw [DomainRec.countFail, bump]
  have context : s.ContextEdited (s.tolled i d) i toll := by
    have edited := tolled_context domain
    rwa [count] at edited
  have edited : s.Edited (s.tolled i d) i toll := by
    have edited := tolled_edited domain
    rwa [count] at edited
  have frame := tolled_frame s i d
  have fails (l : LineRec) (halts : s.foldCell i d r c = .halt ((s.tolled i d).integrityFailure i l .fold)) :
      ∃ t, s.foldCell i d r c = .halt t ∧ s.IntegrityLost t i l.index .fold toll ∧ lostBut t :=
    ⟨_, halts, integrityFailure_lost edited rfl rfl l .fold, integrityFailure_lowFollows (s.tolled i d) i l .fold, integrityFailure_beside edited frame (by decide) l .fold⟩
  have spilled {why : Reason} {note : NoticeReason} (halts : s.foldCell i d r c = .halt ((s.tolled i d).loseLines i why note)) : spills why note := by
    obtain ⟨sweepPos, links, lost⟩ := loseLines_beside edited frame (by decide) why note
    exact ⟨_, halts, loseLines_lost why note edited, ⟨loseLines_lowFollows (s.tolled i d) i why note, sweepPos, links, lost.mono (by simp)⟩,
      lost .capture (by decide), lost.pendingSet (by decide)⟩
  refine ⟨fun lost => ⟨_, foldCell_unrepairable domain lost, context, frame⟩, fun kept row column => ?_,
    fun kept => ⟨fun l found bad => fails l (foldCell_rowDamaged domain kept found bad),
      fun row l found bad => fails l (foldCell_columnDamaged domain kept row found bad)⟩⟩
  have read := foldCell_read domain kept row column
  have counts {k : Key} {l : LineRec} (cell : s.foldCell i d r c = .more ((s.tolled i d).countLine k)) (found : s.findLine k = some l)
      (clean : l.syndrome = 0) : ∃ t, s.foldCell i d r c = .more t ∧ s.ContextEdited t i toll ∧
        t.findLine k = some { l with failCount := up l.failCount } ∧ (∀ q, q ≠ k → t.findLine q = s.findLine q) ∧ FrameBut [.sites, .lines] s t := by
    refine ⟨_, cell, context.kept rfl, ?_, fun q other => countLine_other (s := s.tolled i d) other, frame.then (countLine_frame _ k) (by simp)⟩
    rw [← bump]
    exact countLine_found (s := s.tolled i d) found clean
  have uncovered (row : s.lineOpen kr) (column : s.lineOpen kc) : s.foldCell i d r c = (s.tolled i d).foldUncovered kr kc := by
    rw [read, if_neg (isAssigned_open row), if_neg (isAssigned_open column)]
  refine ⟨fun l found covered => ?_, fun opened l found covered => ?_, fun lr lc foundRow foundColumn openRow openColumn again => ?_,
    fun openRow openColumn some_absent full => spilled ?_, fun b ctx openRow openColumn some_absent room full => spilled ?_⟩
  · exact counts (by rw [read, if_pos (isAssigned_covers found covered)]) found (row l found)
  · exact counts (by rw [read, if_neg (isAssigned_open opened), if_pos (isAssigned_covers found covered)]) found (column l found)
  · have openKr : s.lineOpen kr := fun l found => by rwa [Option.some.inj (found.symm.trans foundRow)]
    have openKc : s.lineOpen kc := fun l found => by rwa [Option.some.inj (found.symm.trans foundColumn)]
    obtain ⟨b, ctx⟩ := Option.ne_none_iff_exists'.mp (ctx_of_domain domain)
    have present : s.lacks kr + s.lacks kc = 0 := by rw [lacks_present foundRow, lacks_present foundColumn]
    have drafted := drafted_present (s := s.tolled i d) (kr := kr) (kc := kc) foundRow foundColumn
    obtain ⟨atRow, atColumn⟩ := countLine_both (s := s.tolled i d) (columnKey_ne i d r c) foundRow foundColumn (row lr foundRow) (column lc foundColumn)
    have known : ((((s.tolled i d).countLine kr).countLine kc).crossOf kr).contains c = true := by
      rw [State.crossOf, atRow]
      exact List.contains_iff_mem.mpr again
    refine ⟨((s.tolled i d).countLine kr).countLine kc, ?_, context.kept rfl, bump ▸ atRow, bump ▸ atColumn, fun q otherRow otherColumn => ?_,
      (frame.then (countLine_frame _ kr) (c := [.sites, .lines]) (by simp)).then (countLine_frame _ kc) (by simp)⟩
    · rw [uncovered openKr openKc, foldUncovered_met (s := s.tolled i d) (kr := kr) (kc := kc) (context.ctx.trans (congrArg _ ctx)) (.inl present), drafted,
        if_pos known]
    · rw [countLine_other otherColumn, countLine_other otherRow] <;> rfl
  · rw [uncovered openRow openColumn]
    exact foldUncovered_spill (s := s.tolled i d) (kr := kr) (kc := kc) some_absent full
  · rw [uncovered openRow openColumn]
    exact foldUncovered_quota (s := s.tolled i d) (kr := kr) (kc := kc) (context.ctx.trans (congrArg _ ctx)) some_absent room full

end

section
/-! The lines of a new uncovered cell, and the assignment of one of them (R48, R49, R76 to R79, R86 to R88). -/

namespace Sys2Proof.Machine

section
variable {s t n : State} {i : SiteNo} {d : DomainNo} {k k' q : Key} {x : DomainRec} {l l' p : LineRec} {r c : LineAddr} {taken : Nat}

/-! ### Addresses in a cross list (R49) -/

theorem crossInsert_filter (y : LineAddr) (l : List LineAddr) : (crossInsert y l).filter (fun z => !(z == y)) = l.filter fun z => !(z == y) := by
  induction l with
  | nil => simp [crossInsert]
  | cons z l ih =>
    rw [crossInsert]
    split
    · rw [List.filter_cons_of_neg (by simp)]
    · split
      · rfl
      · rw [List.filter_cons, List.filter_cons, ih]

theorem filter_fresh {y : LineAddr} {l : List LineAddr} (fresh : y ∉ l) : (l.filter fun z => !(z == y)) = l :=
  List.filter_eq_self.mpr fun z hz => by simpa using fun same : z = y => fresh (same ▸ hz)

theorem crossInsert_length {y : LineAddr} {l : List LineAddr} (fresh : y ∉ l) : (crossInsert y l).length = l.length + 1 := by
  induction l with
  | nil => rfl
  | cons z l ih =>
    obtain ⟨other, rest⟩ := not_or.mp (mt List.mem_cons.mpr fresh)
    rw [crossInsert, if_neg other]
    split
    · rfl
    · rw [List.length_cons, ih rest, List.length_cons]

/-- An address put into a list goes before a given other entry or after it. -/
theorem crossInsert_split {y z : LineAddr} (apart : z ≠ y) (pre post : List LineAddr) :
    ∃ pre' post', crossInsert y (pre ++ z :: post) = pre' ++ z :: post' ∧ ∀ a ∈ pre', a = y ∨ a ∈ pre := by
  induction pre with
  | nil =>
    rw [List.nil_append, crossInsert]
    split
    · exact ⟨[y], post, rfl, fun a ha => .inl (List.mem_singleton.mp ha)⟩
    · exact ⟨[], crossInsert y post, by rw [if_neg apart.symm, List.nil_append], fun a ha => absurd ha List.not_mem_nil⟩
  | cons a pre ih =>
    rw [List.cons_append, crossInsert]
    split
    · exact ⟨y :: a :: pre, post, rfl, fun b hb => List.mem_cons.mp hb⟩
    · split
      · exact ⟨a :: pre, post, rfl, fun b hb => .inr hb⟩
      · obtain ⟨pre', post', split, inside⟩ := ih
        refine ⟨a :: pre', post', by rw [split, List.cons_append], fun b hb => ?_⟩
        rcases List.mem_cons.mp hb with same | mem
        · exact .inr (same ▸ List.mem_cons_self)
        · exact (inside b mem).imp id (List.mem_cons_of_mem _)

/-! ### A line with the fail counted on it (R48, R76) -/

/-- A line of the cell after the count: of the line before, if there was one, the fail count, the cross list and the state alone may differ. -/
def State.Counted (s : State) (k : Key) (l : LineRec) : Prop :=
  (∀ m, s.findLine k = some m → l = { m with failCount := l.failCount, cross := l.cross, state := l.state }) ∧
    l.failCount = satInc (((s.findLine k).map (·.failCount)).getD 0) ∧ l.syndrome = 0

theorem State.Counted.rewritten (h : s.Counted k l) (state : LineState) (cross : List LineAddr) :
    s.Counted k { l with state, cross, syndrome := 0 } := by
  obtain ⟨same, count, sound⟩ := h
  refine ⟨fun m found => ?_, count, rfl⟩
  have before := same m found
  cases l
  cases m
  simp_all

/-- A line created where it was absent. -/
theorem createAbsent_line (opened : s.lineOpen k) (sound : s.lineSound k) : ∃ l, (s.createAbsent k).findLine k = some l ∧ l.state = .candidate ∧
    l.syndrome = 0 ∧ l.failCount = ((s.findLine k).map (·.failCount)).getD 0 ∧ l.cross = s.crossOf k ∧ ∀ m, s.findLine k = some m → l = m := by
  rw [State.crossOf]
  cases found : s.findLine k with
  | some l =>
    rw [createAbsent_present found]
    exact ⟨l, found, opened l found, sound l found, rfl, rfl, fun m same => Option.some.inj same⟩
  | none =>
    have created : (s.createAbsent k).findLine k = some (s.taken k .candidate) := by
      rw [State.createAbsent, found]
      exact (findLine_takeLine s k k _ found).trans (if_pos rfl)
    exact ⟨_, created, rfl, rfl, rfl, rfl, nofun⟩

theorem createAbsent_lowTrack {m : Nat} (h : s.LowTrack t m) (free : t.freeCount = s.freeCount - m) :
    s.LowTrack (t.createAbsent k) (m + t.lacks k) ∧ (t.createAbsent k).freeCount = s.freeCount - (m + t.lacks k) := by
  have count : (t.createAbsent k).freeCount = s.freeCount - (m + t.lacks k) := by rw [createAbsent_freeCount, lacks_eq, free, Nat.sub_sub]
  refine ⟨?_, count⟩
  cases found : t.findLine k with
  | some l =>
    rw [createAbsent_present found, lacks_present found]
    exact h
  | none =>
    rw [State.createAbsent, found, show t.lacks k = 1 by simp [State.lacks, found]]
    exact takeLine_lowTrack h free k .candidate

theorem countLine_counted (found : t.findLine k = some l) (count : l.failCount = ((s.findLine k).map (·.failCount)).getD 0) (sound : l.syndrome = 0)
    (same : ∀ m, s.findLine k = some m → l = m) : ∃ a, (t.countLine k).findLine k = some a ∧ s.Counted k a ∧ a.state = l.state ∧ a.cross = l.cross := by
  refine ⟨_, countLine_found found sound, ⟨fun m hm => ?_, ?_, sound⟩, rfl, rfl⟩
  · rw [same m hm]
  · rw [← count]

/-! ### Both lines of the cell (R76, R77) -/

/-- The state n has the fail counted at its domain and on both lines of the cell, which are CANDIDATE in n; `taken` records were taken for
them, and no other line has changed. -/
structure State.Noted (s n : State) (x : DomainRec) (k k' : Key) (l l' : LineRec) (taken : Nat) : Prop where
  line : n.findLine k = some l
  mate : n.findLine k' = some l'
  counted : s.Counted k l
  mateCounted : s.Counted k' l'
  opened : l.state = .candidate
  mateOpened : l'.state = .candidate
  others : ∀ q, q ≠ k → q ≠ k' → n.findLine q = s.findLine q
  context : s.ContextEdited n k.site fun b => b.editDomain k.domain fun _ => x.countFail
  elsewhere : s.SameElsewhere n k.site
  low : s.LowTrack n taken
  frame : FrameBut foldBlocks s n

/-- The cell from its other line. -/
theorem State.Noted.swap (h : s.Noted n x k k' l l' taken) (site : k'.site = k.site) (domain : k'.domain = k.domain) :
    s.Noted n x k' k l' l taken where
  line := h.mate
  mate := h.line
  counted := h.mateCounted
  mateCounted := h.counted
  opened := h.mateOpened
  mateOpened := h.opened
  others q other mate := h.others q mate other
  context := by rw [site, domain]; exact h.context
  elsewhere := by rw [site]; exact h.elsewhere
  low := h.low
  frame := h.frame

/-- The lines of a new cell drafted. -/
theorem drafted_noted (domain : s.domain? i d = some x) (rowOpen : s.lineOpen (rowKey i d r)) (rowSound : s.lineSound (rowKey i d r))
    (columnOpen : s.lineOpen (columnKey i d c)) (columnSound : s.lineSound (columnKey i d c)) :
    ∃ l l', s.Noted ((s.tolled i d).drafted (rowKey i d r) (columnKey i d c)) x (rowKey i d r) (columnKey i d c) l l'
      (s.lacks (rowKey i d r) + s.lacks (columnKey i d c)) ∧ l.cross = s.crossOf (rowKey i d r) ∧ l'.cross = s.crossOf (columnKey i d c) := by
  have apart := columnKey_ne i d r c
  obtain ⟨a, found, opened, sound, count, cross, same⟩ := createAbsent_line (s := s.tolled i d) rowOpen rowSound
  have columnBefore : ((s.tolled i d).createAbsent (rowKey i d r)).findLine (columnKey i d c) = s.findLine (columnKey i d c) :=
    createAbsent_findLine_ne (s.tolled i d) apart
  obtain ⟨a', found', opened', sound', count', cross', same'⟩ := createAbsent_line (s := (s.tolled i d).createAbsent (rowKey i d r))
    (k := columnKey i d c) (fun l hl => columnOpen l (columnBefore ▸ hl)) (fun l hl => columnSound l (columnBefore ▸ hl))
  rw [columnBefore] at count' same'
  have rowAfter : (((s.tolled i d).createAbsent (rowKey i d r)).createAbsent (columnKey i d c)).findLine (rowKey i d r) = some a :=
    (createAbsent_findLine_ne _ apart.symm).trans found
  obtain ⟨l, line, counted, state, list⟩ := countLine_counted (s := s) rowAfter count sound same
  obtain ⟨l', mate, mateCounted, state', list'⟩ := countLine_counted (s := s)
    (t := (((s.tolled i d).createAbsent (rowKey i d r)).createAbsent (columnKey i d c)).countLine (rowKey i d r))
    ((countLine_other apart).trans found') count' sound' same'
  have first := createAbsent_lowTrack (k := rowKey i d r) ((lowTrack_refl s).kept (u := s.tolled i d) rfl rfl rfl) (Nat.sub_zero _).symm
  have both := createAbsent_lowTrack (k := columnKey i d c) first.1 first.2
  have lacks : ((s.tolled i d).createAbsent (rowKey i d r)).lacks (columnKey i d c) = s.lacks (columnKey i d c) := by rw [State.lacks, columnBefore] <;> rfl
  have drafts : FrameBut [.lines, .low, .clock] (s.tolled i d) ((s.tolled i d).drafted (rowKey i d r) (columnKey i d c)) :=
    (((createAbsent_frame _ _).then (createAbsent_frame _ _) (fun _ hb => (List.mem_append.mp hb).elim id id)).then (countLine_frame _ _)
      (c := [.lines, .low, .clock]) (by simp)).then (countLine_frame _ _) (by simp)
  have elsewhere : (s.tolled i d).SameElsewhere ((s.tolled i d).drafted (rowKey i d r) (columnKey i d c)) i :=
    ((createAbsent_sameElsewhere _ (rowKey i d r)).trans (createAbsent_sameElsewhere _ (columnKey i d c))).trans
      ((writeLine_sameElsewhere (k := rowKey i d r) _).trans (writeLine_sameElsewhere (k := columnKey i d c) _))
  refine ⟨l, l', ⟨(countLine_other apart.symm).trans line, mate, counted, mateCounted, state.trans opened, state'.trans opened', fun q row column => ?_,
    (tolled_context domain).kept (drafts .sites (by decide)), (sameElsewhere_of_lines rfl).trans elsewhere, ?_,
    (tolled_frame s i d).then drafts (by simp [foldBlocks])⟩, list.trans cross, list'.trans ?_⟩
  · rw [State.drafted, countLine_other column, countLine_other row, createAbsent_findLine_ne _ column, createAbsent_findLine_ne _ row] <;> rfl
  · have taken := both.1
    rw [lacks, Nat.zero_add] at taken
    exact taken.kept (by simp [State.drafted, State.countLine, State.writeLine]) rfl rfl
  · rw [cross', State.crossOf, columnBefore] <;> rfl

/-- The cell recorded on both lines (R77). -/
theorem State.Noted.crossed (h : s.Noted n x k k' l l' taken) (apart : k' ≠ k) (site : k'.site = k.site) :
    ∃ a a', s.Noted (n.crossed k k') x k k' a a' taken ∧ a.cross = crossInsert k'.addr l.cross ∧ a'.cross = crossInsert k.addr l'.cross := by
  have written (q : Key) : (n.crossed k k').findLine q =
      if q = k' then some { l' with cross := crossInsert k.addr l'.cross, syndrome := 0 }
      else if q = k then some { l with cross := crossInsert k'.addr l.cross, syndrome := 0 } else n.findLine q := by
    rw [State.crossed, findLine_writeLine, findLine_writeLine, findLine_writeLine, if_neg apart, h.line, h.mate, Option.map_some, Option.map_some]
  have frame : FrameBut [.lines] n (n.crossed k k') := (writeLine_frame n k _).then (writeLine_frame _ k' _) (by simp)
  refine ⟨{ l with cross := crossInsert k'.addr l.cross, syndrome := 0 }, { l' with cross := crossInsert k.addr l'.cross, syndrome := 0 },
    ⟨?_, ?_, h.counted.rewritten l.state _, h.mateCounted.rewritten l'.state _, h.opened, h.mateOpened, fun q other mate => ?_,
      h.context.kept (frame .sites (by decide)), h.elsewhere.trans ?_, h.low.kept ?_ rfl rfl, h.frame.then frame ?_⟩, rfl, rfl⟩
  · rw [written, if_neg apart.symm, if_pos rfl]
  · rw [written, if_pos rfl]
  · rw [written, if_neg mate, if_neg other, h.others q other mate]
  · exact (writeLine_sameElsewhere (k := k) _).trans (site ▸ writeLine_sameElsewhere (k := k') _)
  · simp [State.crossed, State.writeLine]
  · simp only [List.mem_append, foldBlocks, List.mem_cons, List.not_mem_nil, or_false]
    grind

/-! ### The assignment of one line of the cell (R77, R79) -/

/-- The edit of a context by a counted fail and an assignment. -/
abbrev Context.foldSpent (k : Key) (x : DomainRec) (b : Context) : Context := b.editDomain k.domain fun _ => DomainRec.oneAssigned k.axis x.countFail

/-- The line k of the cell has been assigned by the fold; the other line of the cell, k', aside (R86 to R88). -/
structure State.FoldAssigned (s t : State) (x : DomainRec) (k k' : Key) (taken : Nat) : Prop where
  line : ∃ a, t.findLine k = some a ∧ s.Counted k a ∧ a.state = .assigned .must ∧ a.cross = []
  partners : ∀ y ∈ s.crossOf k, k.partner y ≠ k' → ∀ p, s.partnerAt k y = some p → t.partnerAt k y = p.without k.addr
  others : ∀ q, q ≠ k → q ≠ k' → (∀ y ∈ s.crossOf k, q ≠ k.partner y) → t.findLine q = s.findLine q
  settleList : t.engine.settleList = settleAppend k.site k.domain s.engine.settleList
  low : s.LowTrack t taken
  told : s.ToldOfMust t k (Context.foldSpent k x)
  frame : FrameBut [.sites, .stopNotices, .lines, .low, .settleList, .coTable, .tableFull, .clock] s t

/-- The assignment of the line k of the cell has met the damaged record p: the site has lost its lines (R58, R87). -/
structure State.FoldLoses (s t : State) (x : DomainRec) (k : Key) (p : LineRec) (taken : Nat) : Prop where
  lost : s.IntegrityLost t k.site p.index .fold (Context.foldSpent k x)
  low : s.LowTrack t taken
  sweepPos : s.SweepPosLeft t k.site
  links : ∀ g, t.link g = s.drainAsked k.site g (s.link g)
  frame : FrameBut [.sites, .sweepQueue, .stopNotices, .lines, .low, .capture, .settleList, .sweepPos, .coTable, .links, .collectionQueue, .clock,
    .pendingSet] s t

section
variable (h : s.Noted n x k k' l l' taken) (pair : k' = k.partner k'.addr)
include h pair

/-- A partner of line k is read as before, or is the other line of the cell. -/
theorem State.Noted.partner (y : LineAddr) : n.partnerAt k y = if y = k'.addr then some l' else s.partnerAt k y := by
  split
  · rename_i same
    rw [same]
    refine Eq.trans ?_ h.mate
    rw [pair] <;> rfl
  · rename_i other
    refine h.others _ (Key.partner_ne k y) fun same => other ?_
    rw [pair] at same
    exact Key.partner_inj.mp same

theorem State.Noted.partnersSound {list list' : List LineAddr} (sound : s.partnersSound k list) (inside : ∀ y ∈ list', y = k'.addr ∨ y ∈ list) :
    n.partnersSound k list' := by
  intro y hy p found
  rw [h.partner pair] at found
  split at found
  · rw [← Option.some.inj found]
    exact h.mateCounted.2.2
  · rename_i other
    exact sound y ((inside y hy).resolve_left other) p found

theorem State.Noted.assigns (inside : ∀ y ∈ l.cross, y = k'.addr ∨ y ∈ s.crossOf k) (all : ∀ y ∈ s.crossOf k, y ∈ l.cross)
    (sound : s.partnersSound k (s.crossOf k)) : ∃ t, n.assign .fold .must k l.cross = .more t ∧ s.FoldAssigned t x k k' taken ∧
      t.findLine k' = if k'.addr ∈ l.cross then l'.without k.addr else some l' := by
  obtain ⟨m, assigns, assigned⟩ := assign_sound (act := .fold) (o := .must) h.line (h.partnersSound pair sound inside)
  have claims : m.assignClaims .fold k .must = m.mustClaimed k := rfl
  rw [claims] at assigns
  obtain ⟨lines, mark, low⟩ := mustClaimed_store m k
  have found (q : Key) : (m.mustClaimed k).findLine q = m.findLine q := findLine_congr lines q
  have partner (y : LineAddr) : (m.mustClaimed k).partnerAt k y = m.partnerAt k y := found _
  have frame : FrameBut [.sites, .lines, .low, .clock] s m := h.frame.then assigned.frame (by simp [foldBlocks])
  have context : s.ContextEdited m k.site (Context.foldSpent k x) := by
    refine (h.context.then assigned.context).congr fun b _ => ?_
    simp only [Context.editDomain, List.modify_modify_eq]
    rfl
  refine ⟨_, assigns, ⟨⟨_, (found k).trans assigned.line, h.counted.rewritten _ _, rfl, rfl⟩, fun y hy other p before => ?_, fun q other mate apart => ?_,
    ?_, (assigned.low h.low).kept (by rw [lines]) mark low, ?_, frame.then (mustClaimed_frame m k) (by simp)⟩, ?_⟩
  · have apart : y ≠ k'.addr := fun same => other (by rw [same, ← pair])
    rw [partner]
    refine assigned.partners y (all y hy) p ?_
    have kept := h.partner pair y
    rw [if_neg apart] at kept
    exact kept.trans before
  · rw [found, assigned.others q other fun y hy same => ?_, h.others q other mate]
    rcases inside y hy with own | before
    · exact mate (same.trans ((congrArg k.partner own).trans pair.symm))
    · exact apart y before same
  · rw [mustClaimed_settleList, show m.engine.settleList = _ from frame .settleList (by decide)]
  · exact mustClaimed_told context (editDomain_flagFree _ _) (frame.co (by decide) (by decide) (by decide)) (frame .stopNotices (by decide)) rfl rfl rfl
  · rw [found]
    split
    · rename_i listed
      have lost := assigned.partners k'.addr listed l' (by rw [← State.partnerAt, h.partner pair, if_pos rfl])
      exact (congrArg m.findLine pair).trans lost
    · rename_i unlisted
      have apart : k' ≠ k := pair ▸ Key.partner_ne k k'.addr
      refine (assigned.others k' apart fun y hy same => unlisted ?_).trans h.mate
      rwa [Key.partner_inj.mp (pair.symm.trans same)]

/-- The assignment meets a damaged partner (R58, R87). -/
theorem State.Noted.loses {pre pre' post' : List LineAddr} {y : LineAddr} (cross : l.cross = pre' ++ y :: post') (inside : ∀ z ∈ pre', z = k'.addr ∨ z ∈ pre)
    (sound : s.partnersSound k pre) (partner : s.partnerAt k y = some p) (apart : y ≠ k'.addr) (damaged : p.syndrome ≠ 0) :
    ∃ t, n.assign .fold .must k l.cross = .halt t ∧ s.FoldLoses t x k p taken := by
  have found := h.partner pair y
  rw [if_neg apart, partner] at found
  obtain ⟨m, halts, edited, less, low⟩ := assign_damaged (act := .fold) (o := .must) (post := post') (h.partnersSound pair sound inside) found damaged
  have frame : FrameBut foldBlocks s m := h.frame.then less (by simp [foldBlocks])
  have context : s.ContextEdited m k.site (Context.foldSpent k x) := by
    refine (h.context.then ⟨edited.site, edited.others⟩).congr fun b _ => ?_
    simp only [Context.editDomain, List.modify_modify_eq]
    rfl
  have ed := edited_of context (h.elsewhere.trans edited.lines) frame (by decide) fun _ => ⟨rfl, rfl, rfl⟩
  obtain ⟨sweepPos, links, lost⟩ := integrityFailure_beside ed frame (fun _ hb => hb) p .fold
  exact ⟨_, cross ▸ halts, integrityFailure_lost ed (frame .capture (by decide)) (frame.pendingSet (by decide)) p .fold, (low h.low).lost p, sweepPos, links, lost⟩

/-- The list of the line to be assigned is that of the line before, with the cell in it or not. -/
theorem State.Noted.assignsList (list : l.cross = s.crossOf k ∨ l.cross = crossInsert k'.addr (s.crossOf k)) (sound : s.partnersSound k (s.crossOf k)) :
    ∃ t, n.assign .fold .must k l.cross = .more t ∧ s.FoldAssigned t x k k' taken ∧
      t.findLine k' = if k'.addr ∈ l.cross then l'.without k.addr else some l' := by
  rcases list with same | recorded
  · exact h.assigns pair (fun y hy => .inr (same ▸ hy)) (fun y hy => same ▸ hy) sound
  · refine h.assigns pair (fun y hy => ?_) (fun y hy => ?_) sound
    · rw [recorded, mem_crossInsert] at hy
      exact hy
    · rw [recorded, mem_crossInsert]
      exact .inr hy

theorem State.Noted.losesList {a : LineRec} (found : s.findLine k = some a)
    (list : l.cross = s.crossOf k ∨ l.cross = crossInsert k'.addr (s.crossOf k)) (mate : s.lineSound k') (bad : s.firstBadPartner a p) :
    ∃ t, n.assign .fold .must k l.cross = .halt t ∧ s.FoldLoses t x k p taken := by
  obtain ⟨pre, y, post, cross, sound, partner, damaged⟩ := bad
  rw [(findLine_some found).2] at sound partner
  have before : s.crossOf k = pre ++ y :: post := by
    rw [State.crossOf, found, ← cross]
    rfl
  have apart : y ≠ k'.addr := fun same => damaged (mate p (by rw [pair, ← same]; exact partner))
  rcases list with same | recorded
  · exact h.loses pair (same.trans before) (fun z hz => .inr hz) sound partner apart damaged
  · obtain ⟨pre', post', split, inside⟩ := crossInsert_split apart pre post
    exact h.loses pair (recorded.trans ((congrArg _ before).trans split)) inside sound partner apart damaged

end

/-- The domain of the cell is lost to repair (R90). -/
theorem State.Noted.losesDomain (h : s.Noted n x k k' l l' taken) :
    s.DomainLost (n.loseDomain k.site k.domain) k.site k.domain (fun _ => x.countFail) ∧ s.LowTrack (n.loseDomain k.site k.domain) taken ∧
      (∀ g, (n.loseDomain k.site k.domain).link g = s.earlyDrain k.site g (s.link g)) ∧
      FrameBut [.sites, .lines, .low, .settleList, .stopNotices, .links, .clock] s (n.loseDomain k.site k.domain) := by
  have ed := edited_of h.context h.elsewhere h.frame (by decide) fun _ => ⟨rfl, rfl, rfl⟩
  exact ⟨loseDomain_lost h.context ed.lists (h.frame .settleList (by decide)), loseDomain_lowTrack h.low,
    fun g => loseDomain_link h.context (h.frame .links (by decide)) g, h.frame.then (loseDomain_frame n _ _) (by simp [foldBlocks])⟩

end

end Sys2Proof.Machine

end

section
/-! The judgment of a new uncovered cell (R76 to R79, R90). -/

namespace Sys2Proof.Machine

section
variable {s t n : State} {i : SiteNo} {d : DomainNo} {k k' q : Key} {x : DomainRec} {l l' p : LineRec} {r c y : LineAddr} {taken : Nat}

/-! ### What the cell leaves of the line that is not assigned (R49, R79, R87) -/

/-- A line of the cell that holds the list `cross` and is freed when that is empty. -/
def State.CellLeaves (s t : State) (k : Key) (cross : List LineAddr) : Prop := if cross = [] then t.findLine k = none
  else ∃ l, t.findLine k = some l ∧ s.Counted k l ∧ l.state = .candidate ∧ l.cross = cross

theorem leaves_without (found : t.findLine k = l.without y) (counted : s.Counted k l) (opened : l.state = .candidate) :
    s.CellLeaves t k (l.cross.filter fun z => !(z == y)) := by
  rw [State.CellLeaves]
  split
  · rename_i empty
    rw [found, LineRec.without, if_pos empty]
  · rename_i rest
    rw [found, LineRec.without, if_neg rest]
    exact ⟨_, rfl, counted.rewritten l.state _, opened, rfl⟩

theorem freeIfEmpty_of_found (found : t.findLine k = some l) (opened : l.state = .candidate) :
    t.freeIfEmpty k = if l.cross = [] then t.freeLine k else t := by
  rw [State.freeIfEmpty, found]
  simp [LineRec.isCandidate, opened]

theorem leaves_freeIfEmpty (found : t.findLine k = some l) (counted : s.Counted k l) (opened : l.state = .candidate) :
    s.CellLeaves (t.freeIfEmpty k) k l.cross := by
  rw [State.CellLeaves, freeIfEmpty_of_found found opened]
  split
  · rw [findLine_freeLine, if_pos rfl]
  · exact ⟨l, found, counted, opened, rfl⟩

/-- The other line of the cell freed. -/
theorem State.FoldAssigned.freed (h : s.FoldAssigned t x k k' taken) (apart : k' ≠ k) : s.FoldAssigned (t.freeLine k') x k k' taken where
  line := by
    rw [findLine_freeLine, if_neg apart.symm]
    exact h.line
  partners y hy other p before := by
    rw [State.partnerAt, findLine_freeLine, if_neg other]
    exact h.partners y hy other p before
  others q own mate rest := by
    rw [findLine_freeLine, if_neg mate]
    exact h.others q own mate rest
  settleList := h.settleList
  low := h.low.freed _
  told := ⟨h.told.entries, h.told.notices, h.told.sites.kept rfl⟩
  frame := h.frame.then (freeLine_frame t k') (by simp)

theorem State.FoldAssigned.freeIfEmpty (h : s.FoldAssigned t x k k' taken) (apart : k' ≠ k) : s.FoldAssigned (t.freeIfEmpty k') x k k' taken := by
  have cases : t.freeIfEmpty k' = t ∨ t.freeIfEmpty k' = t.freeLine k' := by
    unfold State.freeIfEmpty
    split
    · split
      · exact .inr rfl
      · exact .inl rfl
    · exact .inl rfl
  rcases cases with same | freed
  · rwa [same]
  · rw [freed]
    exact h.freed apart

/-! ### The CANDIDATE lines of a lost domain (R90) -/

/-- Every record of line k is CANDIDATE. -/
def State.OpenRecords (s : State) (k : Key) : Prop := ∀ r ∈ s.store.lines, r.key = k → r.state = .candidate

/-- The lines of the cell are CANDIDATE in t, and what the loss of the domain would leave in t is what it would leave in s. -/
structure State.DraftOf (s t : State) (kr kc : Key) : Prop where
  without : t.withoutCandidates kr.site kr.domain = s.withoutCandidates kr.site kr.domain
  row : t.OpenRecords kr
  column : t.OpenRecords kc

theorem openRecords_of_lineOpen (rises : keysRise s.store.lines) (opened : s.lineOpen k) : s.OpenRecords k := fun r hr own => by
  subst own
  exact opened r (findLine_of_mem rises hr)

theorem writeLine_openRecords (opened : t.OpenRecords q) (k : Key) {f : LineRec → LineRec} (keeps : ∀ r, (f r).state = r.state) :
    (t.writeLine k f).OpenRecords q := fun r hr own => by
  obtain ⟨r₀, mem, rfl⟩ := List.mem_map.mp hr
  dsimp only at own ⊢
  split at own
  · rw [if_pos ‹_›, keeps]
    exact opened r₀ mem own
  · rw [if_neg ‹_›]
    exact opened r₀ mem own

theorem writeLine_without (opened : t.OpenRecords k) {f : LineRec → LineRec} (keeps : ∀ r, (f r).state = r.state) :
    (t.writeLine k f).withoutCandidates k.site k.domain = t.withoutCandidates k.site k.domain := by
  show (t.store.lines.map _).filter _ = t.store.lines.filter _
  rw [List.filter_map]
  have passes : ((fun r : LineRec => !(r.key.site == k.site && r.key.domain == k.domain && r.state == .candidate)) ∘
      fun r => if r.key = k then { f r with index := r.index, key := r.key, syndrome := 0 } else r) =
        fun r => !(r.key.site == k.site && r.key.domain == k.domain && r.state == .candidate) := by
    funext r
    rw [Function.comp_apply]
    split
    · simp only [keeps]
    · rfl
  rw [passes]
  refine (List.map_congr_left fun r hr => if_neg fun own => ?_).trans (List.map_id _)
  obtain ⟨mem, other⟩ := List.mem_filter.mp hr
  simp [own, opened r mem own] at other

theorem createAbsent_openRecords (opened : t.OpenRecords q) (k : Key) : (t.createAbsent k).OpenRecords q := fun r hr own => by
  rw [State.createAbsent] at hr
  split at hr
  · exact opened r hr own
  · rcases mem_insertLine.mp hr with rfl | mem
    · rfl
    · exact opened r mem own

theorem createAbsent_without (t : State) (k : Key) : (t.createAbsent k).withoutCandidates k.site k.domain = t.withoutCandidates k.site k.domain := by
  rw [State.createAbsent]
  split
  · rfl
  · exact insertLine_filter_of_not (by simp) _

section
variable {kr kc : Key} (site : kc.site = kr.site) (domain : kc.domain = kr.domain)
include site domain

theorem drafted_draftOf (row : t.OpenRecords kr) (column : t.OpenRecords kc) : t.DraftOf (t.drafted kr kc) kr kc := by
  have rowCreated := createAbsent_openRecords (createAbsent_openRecords row kr) kc
  have columnCreated := createAbsent_openRecords (createAbsent_openRecords column kr) kc
  have keeps : ∀ r : LineRec, ({ r with failCount := satInc r.failCount } : LineRec).state = r.state := fun _ => rfl
  have rowCounted := writeLine_openRecords rowCreated kr keeps
  have columnCounted := writeLine_openRecords columnCreated kr keeps
  refine ⟨?_, writeLine_openRecords rowCounted kc keeps, writeLine_openRecords columnCounted kc keeps⟩
  have last := writeLine_without columnCounted keeps
  have second := createAbsent_without (t.createAbsent kr) kc
  rw [site, domain] at last second
  exact last.trans ((writeLine_without rowCreated keeps).trans (second.trans (createAbsent_without t kr)))

theorem State.DraftOf.crossed (h : s.DraftOf t kr kc) : s.DraftOf (t.crossed kr kc) kr kc := by
  have keeps (y : LineAddr) : ∀ r : LineRec, ({ r with cross := crossInsert y r.cross } : LineRec).state = r.state := fun _ => rfl
  have row := writeLine_openRecords h.row kr (keeps kc.addr)
  have column := writeLine_openRecords h.column kr (keeps kc.addr)
  refine ⟨?_, writeLine_openRecords row kc (keeps kr.addr), writeLine_openRecords column kc (keeps kr.addr)⟩
  have last := writeLine_without column (keeps kr.addr)
  rw [site, domain] at last
  exact last.trans ((writeLine_without h.row (keeps kc.addr)).trans h.without)

end

theorem loseDomain_freeIfEmpty (n : State) (k : Key) : (n.loseDomain k.site k.domain).freeIfEmpty k = n.loseDomain k.site k.domain := by
  unfold State.freeIfEmpty
  split
  · rename_i l found
    refine if_neg fun both => ?_
    obtain ⟨mem, own⟩ := findLine_some found
    rw [loseDomain_lines] at mem
    have other := (List.mem_filter.mp mem).2
    have opened : l.state = .candidate := by simpa [LineRec.isCandidate] using both.1
    simp [own, opened] at other
  · rfl

theorem loseDomain_open {l : LineRec} (mem : l ∈ (n.loseDomain i d).store.lines) (site : l.key.site = i) (domain : l.key.domain = d) :
    l.state ≠ .candidate := fun opened => by
  rw [loseDomain_lines] at mem
  have other := (List.mem_filter.mp mem).2
  simp [site, domain, opened] at other

/-- The low indication after a loss, from the free count alone. -/
theorem loseDomain_low (n : State) (i : SiteNo) (d : DomainNo) :
    ((n.loseDomain i d).freeCount < n.store.lowWater → (n.loseDomain i d).store.low = true) ∧
      (n.store.lowWater ≤ (n.loseDomain i d).freeCount → min (n.store.lowWater + 64) 12288 ≤ (n.loseDomain i d).freeCount →
        (n.loseDomain i d).store.low = false) := by
  have judged : (n.loseDomain i d).store.low = lowJudged (n.loseDomain i d).freeCount n.store.lowWater n.store.low := loseDomain_lowFollows n i d
  rw [judged, lowJudged]
  exact ⟨fun under => if_pos under, fun above clear => (if_neg (Nat.not_lt.mpr above)).trans (if_pos clear)⟩

/-! ### The judgment (R77 to R79) -/

theorem State.Noted.available (h : s.Noted n x k k' l l' taken) (domain : s.domain? k.site k.domain = some x) (a : Axis) :
    n.available k.site k.domain a = s.available k.site k.domain a := by
  have counted : n.domain? k.site k.domain = some x.countFail := (h.context.domain).trans (by rw [domain] <;> rfl)
  rw [available_of_domain domain, available_of_domain counted] <;> rfl

theorem State.Noted.crossOf (h : s.Noted n x k k' l l' taken) : n.crossOf k = l.cross ∧ n.crossOf k' = l'.cross := by
  rw [State.crossOf, State.crossOf, h.line, h.mate]
  exact ⟨rfl, rfl⟩

end

end Sys2Proof.Machine

end

section
/-! The judgment of a new uncovered cell, branch by branch (R77 to R79). -/

namespace Sys2Proof.Machine

section
variable {s t m : State} {i : SiteNo} {d : DomainNo} {k : Key} {x : DomainRec} {l l' : LineRec} {r c : LineAddr} {taken : Nat}

theorem foldAssign_spare (spare : 0 < s.available k.site k.domain k.axis) (cross : List LineAddr) :
    s.foldAssign k cross = s.assign .fold .must k cross := if_pos spare

theorem foldAssign_none (none : s.available k.site k.domain k.axis = 0) (cross : List LineAddr) :
    s.foldAssign k cross = .more (s.loseDomain k.site k.domain) := if_neg (by omega)

theorem foldJudge_cell (s : State) (i : SiteNo) (d : DomainNo) (r c : LineAddr) : s.foldJudge (rowKey i d r) (columnKey i d c) =
    if s.available i d .column < (s.crossOf (rowKey i d r)).length then
      (s.foldAssign (rowKey i d r) (s.crossOf (rowKey i d r))).andThen fun s => .more (s.freeIfEmpty (columnKey i d c))
    else if (s.crossed (rowKey i d r) (columnKey i d c)).available i d .column <
        ((s.crossed (rowKey i d r) (columnKey i d c)).crossOf (rowKey i d r)).length then
      (s.crossed (rowKey i d r) (columnKey i d c)).foldAssign (rowKey i d r) ((s.crossed (rowKey i d r) (columnKey i d c)).crossOf (rowKey i d r))
    else if (s.crossed (rowKey i d r) (columnKey i d c)).available i d .row <
        ((s.crossed (rowKey i d r) (columnKey i d c)).crossOf (columnKey i d c)).length then
      (s.crossed (rowKey i d r) (columnKey i d c)).foldAssign (columnKey i d c) ((s.crossed (rowKey i d r) (columnKey i d c)).crossOf (columnKey i d c))
    else .more (s.crossed (rowKey i d r) (columnKey i d c)) := foldJudge_eq s _ _

section
variable (h : s.Noted m x (rowKey i d r) (columnKey i d c) l l' taken) (domain : s.domain? i d = some x) (fresh : c ∉ l.cross)
include h domain

theorem foldJudge_beyond (beyond : s.available i d .column < l.cross.length) : m.foldJudge (rowKey i d r) (columnKey i d c) =
    (m.foldAssign (rowKey i d r) l.cross).andThen fun s => .more (s.freeIfEmpty (columnKey i d c)) := by
  rw [foldJudge_cell, h.crossOf.1]
  exact if_pos (by rwa [h.available domain])

include fresh

theorem foldJudge_rowFull (within : ¬ s.available i d .column < l.cross.length) (full : ¬ l.cross.length + 1 ≤ s.available i d .column) {a a' : LineRec}
    (crossed : s.Noted (m.crossed (rowKey i d r) (columnKey i d c)) x (rowKey i d r) (columnKey i d c) a a' taken)
    (list : a.cross = crossInsert c l.cross) : m.foldJudge (rowKey i d r) (columnKey i d c) =
      (m.crossed (rowKey i d r) (columnKey i d c)).foldAssign (rowKey i d r) a.cross := by
  have before : m.available i d .column = s.available i d .column := h.available domain .column
  have after : (m.crossed (rowKey i d r) (columnKey i d c)).available i d .column = s.available i d .column := crossed.available domain .column
  rw [foldJudge_cell, h.crossOf.1, before, if_neg within, crossed.crossOf.1, after, if_pos]
  rw [list, crossInsert_length fresh]
  omega

theorem foldJudge_rowFits (fits : l.cross.length + 1 ≤ s.available i d .column) {a a' : LineRec}
    (crossed : s.Noted (m.crossed (rowKey i d r) (columnKey i d c)) x (rowKey i d r) (columnKey i d c) a a' taken)
    (list : a.cross = crossInsert c l.cross) : m.foldJudge (rowKey i d r) (columnKey i d c) =
      if s.available i d .row < a'.cross.length then (m.crossed (rowKey i d r) (columnKey i d c)).foldAssign (columnKey i d c) a'.cross
      else .more (m.crossed (rowKey i d r) (columnKey i d c)) := by
  have before : m.available i d .column = s.available i d .column := h.available domain .column
  have after (a : Axis) : (m.crossed (rowKey i d r) (columnKey i d c)).available i d a = s.available i d a := crossed.available domain a
  have length : ¬ s.available i d .column < a.cross.length := by
    rw [list, crossInsert_length fresh]
    omega
  rw [foldJudge_cell, h.crossOf.1, before, if_neg (by omega), crossed.crossOf.1, after, if_neg length, crossed.crossOf.2, after]

end

end

end Sys2Proof.Machine

open Sys2Proof Sys2Proof.Machine

/-- Settles O53. -/
theorem foldJudgesRowSideFirst : Obligations.FoldJudgesRowSideFirst := by
  unfold Obligations.FoldJudgesRowSideFirst
  refine ⟨fun y l => ⟨fun z => mem_crossInsert y l z, crossInsert_ascends y l⟩, ?_⟩
  intro s i d r c b x ctx record kept kr kc absent need crossOf count up rowClean columnClean new met counted line rowFits columnFits leaves assigned loses
  have domain : s.domain? i d = some x := by rw [State.domain?, ctx]; exact record
  have bump : satInc = up := funext satInc_eq
  have toll : x.countFail = counted := by rw [DomainRec.countFail, bump]
  have rowOpen : s.lineOpen kr := fun l found => (rowClean l found).1
  have rowSound : s.lineSound kr := fun l found => (rowClean l found).2
  have columnOpen : s.lineOpen kc := fun l found => (columnClean l found).1
  have columnSound : s.lineSound kc := fun l found => (columnClean l found).2
  have lined {k : Key} {l : LineRec} (h : s.Counted k l) : line k l := ⟨h.1, bump ▸ h.2.1, h.2.2⟩
  have left {t : State} {k : Key} {cross : List LineAddr} (h : s.CellLeaves t k cross) : leaves t k cross := by
    by_cases empty : cross = []
    · exact (if_pos empty).mpr ((if_pos empty).mp h)
    · obtain ⟨l, found, counts, opened, list⟩ := (if_neg empty).mp h
      exact (if_neg empty).mpr ⟨l, found, lined counts, opened, list⟩
  have spent {k : Key} (own : k.domain = d) : Context.foldSpent k x = fun b => b.editDomain d fun _ => DomainRec.oneAssigned k.axis counted := by
    rw [← toll, ← own]
  have told {t : State} {k k' : Key} (site : k.site = i) (own : k.domain = d) (h : s.FoldAssigned t x k k' need) : assigned t k k' := by
    obtain ⟨l, found, counts, state, list⟩ := h.line
    have list' := h.settleList
    rw [site, own] at list'
    exact ⟨⟨l, found, lined counts, state, list⟩, h.partners, h.others, list', h.low.low, spent own ▸ h.told, h.frame⟩
  have lost {t : State} {k : Key} {p : LineRec} (site : k.site = i) (own : k.domain = d) (h : s.FoldLoses t x k p need) :
      s.IntegrityLost t i p.index .fold (fun b => b.editDomain d fun _ => DomainRec.oneAssigned k.axis counted) ∧
        s.LowAfter t need ∧ s.SweepPosLeft t i ∧ (∀ h, t.link h = s.drainAsked i h (s.link h)) ∧
        FrameBut [.sites, .sweepQueue, .stopNotices, .lines, .low, .capture, .settleList, .sweepPos, .coTable, .links, .collectionQueue, .clock,
          .pendingSet] s t := by
    rw [← spent own, ← site]
    exact ⟨h.lost, h.low.low, h.sweepPos, h.links, h.frame⟩
  obtain ⟨l, l', noted, rowList, columnList⟩ := drafted_noted domain rowOpen rowSound columnOpen columnSound
  obtain ⟨a, a', crossed, rowCrossed, columnCrossed⟩ := noted.crossed (columnKey_ne i d r c) rfl
  have fresh : c ∉ l.cross := rowList ▸ new
  have cell : s.foldCell i d r c = ((s.tolled i d).drafted kr kc).foldJudge kr kc := by
    have listed : (((s.tolled i d).drafted kr kc).crossOf kr).contains c = false := by
      rw [noted.crossOf.1]
      simpa using fresh
    have tolled : (s.tolled i d).ctx i = some (b.editDomain d fun _ => x.countFail) := (tolled_context domain).ctx.trans (by rw [ctx] <;> rfl)
    rw [foldCell_read domain kept rowSound columnSound, if_neg (isAssigned_open rowOpen), if_neg (isAssigned_open columnOpen),
      foldUncovered_met (s := s.tolled i d) (kr := kr) (kc := kc) tolled (met.imp id id)]
    exact if_neg (by rw [listed]; exact Bool.false_ne_true)
  have rowNew : a.cross = crossInsert c (s.crossOf kr) := rowCrossed.trans (congrArg _ rowList)
  have columnNew : a'.cross = crossInsert r (s.crossOf kc) := columnCrossed.trans (congrArg _ columnList)
  have fits (h : rowFits) := foldJudge_rowFits noted domain fresh (by rw [rowList]; exact h) crossed rowCrossed
  have rowSpare (h : 0 < s.available i d .row) : 0 < (((s.tolled i d).drafted kr kc).crossed kr kc).available i d .row := by
    rwa [show _ = s.available i d .row from crossed.available domain .row]
  have rowFull (within : ¬ s.available i d .column < l.cross.length) (full : ¬ rowFits) :=
    foldJudge_rowFull noted domain fresh within (by rw [rowList]; exact full) crossed rowCrossed
  refine ⟨fun row budget => ?_, fun row exceeds => ?_, fun full spare => ?_, fun full none => ?_⟩
  · have within : ¬ s.available i d .row < a'.cross.length := by
      rw [columnNew]
      exact Nat.not_lt.mpr budget
    exact ⟨_, a, a', cell.trans ((fits row).trans (if_neg within)), crossed.line, lined crossed.counted, crossed.opened, rowNew, crossed.mate,
      lined crossed.mateCounted, crossed.mateOpened, columnNew, crossed.others, toll ▸ crossed.context, crossed.low.low, crossed.frame⟩
  · have beyond : s.available i d .row < a'.cross.length := by
      rw [columnNew]
      exact Nat.not_le.mp exceeds
    have spare : 0 < (((s.tolled i d).drafted kr kc).crossed kr kc).available i d .column := by
      rw [show _ = s.available i d .column from crossed.available domain .column]
      exact Nat.lt_of_lt_of_le (Nat.succ_pos _) row
    have judged := cell.trans ((fits row).trans ((if_pos beyond).trans (foldAssign_spare (k := kc) spare _)))
    refine ⟨fun sound => ?_, fun z p found bad => ?_⟩
    · obtain ⟨t, assigns, done, mate⟩ := (crossed.swap rfl rfl).assignsList rfl (.inr columnNew) sound
      rw [if_pos (by rw [columnNew]; exact (mem_crossInsert r _ r).mpr (.inl rfl))] at mate
      have after : s.CellLeaves t kr ((crossInsert c (s.crossOf kr)).filter fun z => !(z == c)) :=
        rowNew ▸ leaves_without mate crossed.counted crossed.opened
      rw [crossInsert_filter, filter_fresh (l := s.crossOf kr) new] at after
      exact ⟨t, judged.trans assigns, told rfl rfl done, left after⟩
    · obtain ⟨t, halts, loss⟩ := (crossed.swap rfl rfl).losesList rfl found (.inr columnNew) rowSound bad
      exact ⟨t, judged.trans halts, lost rfl rfl loss⟩
  · by_cases beyond : s.available i d .column < l.cross.length
    · have spareNow : 0 < ((s.tolled i d).drafted kr kc).available i d .row := by rwa [show _ = s.available i d .row from noted.available domain .row]
      have judged := cell.trans ((foldJudge_beyond noted domain beyond).trans (congrArg (Run.andThen · _) (foldAssign_spare (k := kr) spareNow _)))
      refine ⟨fun sound => ?_, fun z p found bad => ?_⟩
      · obtain ⟨t, assigns, done, mate⟩ := noted.assignsList rfl (.inl rowList) sound
        rw [if_neg fresh] at mate
        have after := leaves_freeIfEmpty mate noted.mateCounted noted.mateOpened
        rw [columnList] at after
        refine ⟨t.freeIfEmpty kc, by rw [judged, assigns] <;> rfl, told rfl rfl (done.freeIfEmpty (columnKey_ne i d r c)), left ?_⟩
        have some_over : s.available i d .column < (crossOf kr).length := by rwa [rowList] at beyond
        rwa [if_pos some_over]
      · obtain ⟨t, halts, loss⟩ := noted.losesList rfl found (.inl rowList) columnSound bad
        exact ⟨t, by rw [judged, halts] <;> rfl, lost rfl rfl loss⟩
    · have judged := cell.trans ((rowFull beyond full).trans (foldAssign_spare (k := kr) (rowSpare spare) _))
      refine ⟨fun sound => ?_, fun z p found bad => ?_⟩
      · obtain ⟨t, assigns, done, mate⟩ := crossed.assignsList rfl (.inr rowNew) sound
        rw [if_pos (by rw [rowNew]; exact (mem_crossInsert c _ c).mpr (.inl rfl))] at mate
        have after : s.CellLeaves t kc ((crossInsert r (s.crossOf kc)).filter fun z => !(z == r)) :=
          columnNew ▸ leaves_without mate crossed.mateCounted crossed.mateOpened
        rw [crossInsert_filter] at after
        refine ⟨t, judged.trans assigns, told rfl rfl done, left ?_⟩
        have none_over : ¬ s.available i d .column < (crossOf kr).length := by rwa [rowList] at beyond
        rwa [if_neg none_over]
      · obtain ⟨t, halts, loss⟩ := crossed.losesList rfl found (.inr rowNew) columnSound bad
        exact ⟨t, judged.trans halts, lost rfl rfl loss⟩
  · have losesAt {n : State} {a a' : LineRec} (h : s.Noted n x kr kc a a' need) (draft : keysRise s.store.lines → s.DraftOf n kr kc)
        (judged : s.foldCell i d r c = .more (n.loseDomain i d)) : ∃ t, s.foldCell i d r c = .more t ∧ s.DomainLost t i d (fun _ => counted) ∧
          (∀ l ∈ t.store.lines, l.key.site = i → l.key.domain = d → l.state ≠ .candidate) ∧
          (keysRise s.store.lines → t.store.lines = s.withoutCandidates i d) ∧
          s.LowAfter t need ∧ (t.freeCount < s.store.lowWater → t.store.low = true) ∧
          (s.store.lowWater ≤ t.freeCount → min (s.store.lowWater + 64) 12288 ≤ t.freeCount → t.store.low = false) ∧
          (∀ h, t.link h = s.earlyDrain i h (s.link h)) ∧
          FrameBut [.sites, .lines, .low, .settleList, .stopNotices, .links, .clock] s t := by
      obtain ⟨loss, low, links, frame⟩ := h.losesDomain
      obtain ⟨under, above⟩ := loseDomain_low n i d
      have mark : n.store.lowWater = s.store.lowWater := h.low.mark
      rw [mark] at under above
      exact ⟨_, judged, toll ▸ loss, fun l mem => loseDomain_open mem, fun rises => loseDomain_lines.trans (draft rises).without, low.low, under,
        above, links, frame⟩
    have drafted (rises : keysRise s.store.lines) : s.DraftOf ((s.tolled i d).drafted kr kc) kr kc := by
      obtain ⟨without, row, column⟩ := drafted_draftOf (t := s.tolled i d) (kr := kr) (kc := kc) rfl rfl (openRecords_of_lineOpen rises rowOpen)
        (openRecords_of_lineOpen rises columnOpen)
      exact ⟨without, row, column⟩
    by_cases beyond : s.available i d .column < l.cross.length
    · have noneNow : ((s.tolled i d).drafted kr kc).available i d .row = 0 := (noted.available domain .row).trans none
      refine losesAt noted drafted (cell.trans ((foldJudge_beyond noted domain beyond).trans ?_))
      rw [foldAssign_none (k := kr) noneNow, Run.andThen]
      exact congrArg Run.more (loseDomain_freeIfEmpty _ kc)
    · have noneNow : (((s.tolled i d).drafted kr kc).crossed kr kc).available i d .row = 0 := (crossed.available domain .row).trans none
      exact losesAt crossed (fun rises => (drafted rises).crossed rfl rfl) (cell.trans ((rowFull beyond full).trans (foldAssign_none (k := kr) noneNow _)))

end

section
/-! What a sweep step looks for: the first line that stops a pass, and the best line of GREEDY (R104, R105). -/

namespace Sys2Proof.Machine

section
variable {s : State} {i : SiteNo} {d : DomainNo} {r b o : LineRec} {l : List LineRec} {q g : SweepPos} {cursor : Option Key}

/-! ### Records in key order (R46) -/

theorem eq_of_rank (rises : keysRise l) (mem : r ∈ l) (mem' : b ∈ l) (same : r.key.rank = b.key.rank) : r = b := by
  have first : l.find? (fun y => y.key.rank == b.key.rank) = some r := find?_least rises mem (beq_iff_eq.mpr same) fun y _ eq =>
    Nat.le_of_eq (same.trans (eq_of_beq eq).symm)
  have second : l.find? (fun y => y.key.rank == b.key.rank) = some b := find?_least rises mem' (beq_self_eq_true _) fun y _ eq =>
    Nat.le_of_eq (eq_of_beq eq).symm
  exact Option.some.inj (first.symm.trans second)

/-! ### The CANDIDATE lines of a domain -/

theorem candidates_eq (s : State) (i : SiteNo) (d : DomainNo) :
    s.candidates i d = s.store.lines.filter fun r => r.key.site == i && r.key.domain == d && r.state == .candidate := by
  rw [State.candidates, State.domainLines, List.filter_filter]
  refine List.filter_congr fun r _ => ?_
  rw [Bool.and_comm, LineRec.isCandidate]

theorem mem_candidates : r ∈ s.candidates i d ↔ r ∈ s.store.lines ∧ r.key.site = i ∧ r.key.domain = d ∧ r.state = .candidate := by
  simp only [candidates_eq, List.mem_filter, Bool.and_eq_true, beq_iff_eq, and_assoc]

theorem candidates_rise (rises : keysRise s.store.lines) : keysRise (s.candidates i d) := by
  rw [candidates_eq]
  exact List.Pairwise.filter _ rises

/-- The CANDIDATE lines above a cursor. -/
def State.ahead (s : State) (i : SiteNo) (d : DomainNo) (cursor : Option Key) : List LineRec :=
  (s.candidates i d).filter fun r => cursor.all fun k => decide (k.rank < r.key.rank)

theorem ahead_none : s.ahead i d none = s.candidates i d := List.filter_eq_self.mpr fun _ _ => rfl

/-! ### Passes of the inline settle (R104) -/

/-- A line of domain d of site i stops a pass: its check fails or it is over budget. -/
def State.stopsPass (s : State) (i : SiteNo) (d : DomainNo) (r : LineRec) : Prop :=
  r.syndrome ≠ 0 ∨ s.available i d r.key.axis.other < r.cross.length

/-- The line at which a pass from a cursor stops. -/
def State.firstStop (s : State) (i : SiteNo) (d : DomainNo) (cursor : Option Key) (r : LineRec) : Prop :=
  r ∈ s.ahead i d cursor ∧ s.stopsPass i d r ∧ ∀ y ∈ s.ahead i d cursor, s.stopsPass i d y → r.key.rank ≤ y.key.rank

theorem stopsPass_iff (mem : r ∈ s.candidates i d) : (r.syndrome != 0 || s.overBudget r) = true ↔ s.stopsPass i d r := by
  obtain ⟨-, site, domain, -⟩ := mem_candidates.mp mem
  rw [Bool.or_eq_true, bne_iff_ne, overBudget_iff, site, domain, State.stopsPass]

theorem sweepPass_eq (s : State) (q : SweepPos) : s.sweepPass q =
    match (s.ahead q.site q.domain q.cursor).find? fun r => r.syndrome != 0 || s.overBudget r with
    | some r => .stopAt r
    | none => .passed (match (s.ahead q.site q.domain q.cursor).getLast? with | some r => some r.key | none => q.cursor) := by
  have lines : ((s.candidates q.site q.domain).filter fun r => aboveCursor q.cursor r.key) = s.ahead q.site q.domain q.cursor :=
    List.filter_congr fun r _ => aboveCursor_eq q.cursor r.key
  rw [State.sweepPass, lines] <;> rfl

theorem sweepPass_stops (rises : keysRise s.store.lines) (first : s.firstStop q.site q.domain q.cursor r) : s.sweepPass q = .stopAt r := by
  obtain ⟨mem, stops, least⟩ := first
  have inside {y : LineRec} (hy : y ∈ s.ahead q.site q.domain q.cursor) := stopsPass_iff (List.mem_filter.mp hy).1
  have found : ((s.ahead q.site q.domain q.cursor).find? fun r => r.syndrome != 0 || s.overBudget r) = some r :=
    find?_least (List.Pairwise.filter _ (candidates_rise rises)) mem ((inside mem).mpr stops) fun y hy passes => least y hy ((inside hy).mp passes)
  rw [sweepPass_eq, found]

theorem sweepPass_passes (none : ∀ y ∈ s.ahead q.site q.domain q.cursor, ¬ s.stopsPass q.site q.domain y) : ∃ c, s.sweepPass q = .passed c := by
  have found : ((s.ahead q.site q.domain q.cursor).find? fun r => r.syndrome != 0 || s.overBudget r) = Option.none :=
    List.find?_eq_none.mpr fun y hy passes => none y hy ((stopsPass_iff (List.mem_filter.mp hy).1).mp passes)
  rw [sweepPass_eq, found]
  exact ⟨_, rfl⟩

theorem sweepSettle_stops (rises : keysRise s.store.lines) (stop : s.firstStop q.site q.domain q.cursor r ∨ q.renew = true ∧
      (∀ y ∈ s.ahead q.site q.domain q.cursor, ¬ s.stopsPass q.site q.domain y) ∧ s.firstStop q.site q.domain none r) :
    ∃ q' : SweepPos, q'.site = q.site ∧ q'.domain = q.domain ∧ s.sweepSettle q = s.sweepStop q' r := by
  rcases stop with first | ⟨renew, none, first⟩
  · exact ⟨q, rfl, rfl, by rw [State.sweepSettle, sweepPass_stops rises first]⟩
  · obtain ⟨c, passed⟩ := sweepPass_passes none
    have again := sweepPass_stops (q := { q with cursor := Option.none, renew := false }) rises first
    refine ⟨{ q with cursor := Option.none, renew := false }, rfl, rfl, ?_⟩
    simp only [State.sweepSettle, passed, if_pos renew, again]

theorem sweepSettle_passes (none : ∀ y ∈ s.ahead q.site q.domain q.cursor, ¬ s.stopsPass q.site q.domain y)
    (again : q.renew = true → ∀ y ∈ s.candidates q.site q.domain, ¬ s.stopsPass q.site q.domain y) :
    ∃ g : SweepPos, g.site = q.site ∧ g.domain = q.domain ∧ g.phase = .greedy ∧ s.sweepSettle q = (s.setSweepPos (some g)).sweepGreedy g := by
  obtain ⟨c, passed⟩ := sweepPass_passes none
  by_cases renew : q.renew = true
  · obtain ⟨c', second⟩ := sweepPass_passes (s := s) (q := { q with cursor := Option.none, renew := false }) fun y hy => again renew y (ahead_none ▸ hy)
    refine ⟨{ q with phase := .greedy, cursor := c', renew := false }, rfl, rfl, rfl, ?_⟩
    simp only [State.sweepSettle, passed, if_pos renew, second]
  · refine ⟨{ q with phase := .greedy, cursor := c }, rfl, rfl, rfl, ?_⟩
    simp only [State.sweepSettle, passed, if_neg renew]

/-! ### The best line (R105) -/

/-- A line with the most cross entries, the first of those. -/
def isBest (l : List LineRec) (b : LineRec) : Prop :=
  b ∈ l ∧ ∀ r ∈ l, r.cross.length ≤ b.cross.length ∧ (r.cross.length = b.cross.length → b.key.rank ≤ r.key.rank)

theorem bestLine_some (rises : keysRise l) (some_line : l ≠ []) : ∃ b, bestLine l = some b ∧ isBest l b := by
  induction l with
  | nil => exact absurd rfl some_line
  | cons r l ih =>
    obtain ⟨below, rest⟩ := List.pairwise_cons.mp rises
    by_cases last : l = []
    · refine ⟨r, by rw [last] <;> rfl, List.mem_cons_self, fun y hy => ?_⟩
      rw [last, List.mem_singleton] at hy
      exact hy ▸ ⟨Nat.le_refl _, fun _ => Nat.le_refl _⟩
    · obtain ⟨b, best, mem, most⟩ := ih rest last
      by_cases more : r.cross.length < b.cross.length
      · refine ⟨b, by rw [bestLine, best]; exact if_pos more, List.mem_cons_of_mem _ mem, fun y hy => ?_⟩
        rcases List.mem_cons.mp hy with same | later
        · exact same ▸ ⟨Nat.le_of_lt more, fun equal => absurd more (by omega)⟩
        · exact most y later
      · refine ⟨r, by rw [bestLine, best]; exact if_neg more, List.mem_cons_self, fun y hy => ?_⟩
        rcases List.mem_cons.mp hy with same | later
        · exact same ▸ ⟨Nat.le_refl _, fun _ => Nat.le_refl _⟩
        · exact ⟨Nat.le_trans (most y later).1 (Nat.not_lt.mp more), fun _ => Nat.le_of_lt (below y later)⟩

theorem bestLine_of_isBest (rises : keysRise l) (best : isBest l b) : bestLine l = some b := by
  obtain ⟨mem, most⟩ := best
  obtain ⟨a, found, mem', most'⟩ := bestLine_some rises (List.ne_nil_of_mem mem)
  have count : a.cross.length = b.cross.length := Nat.le_antisymm (most a mem').1 (most' b mem).1
  rw [found, eq_of_rank rises mem' mem (Nat.le_antisymm ((most' b mem).2 count.symm) ((most a mem').2 count))]

/-! ### GREEDY (R105) -/

theorem sweepGreedy_damaged (rises : keysRise s.store.lines) (mem : r ∈ s.candidates g.site g.domain) (damaged : r.syndrome ≠ 0)
    (least : ∀ y ∈ s.candidates g.site g.domain, y.syndrome ≠ 0 → r.key.rank ≤ y.key.rank) :
    s.sweepGreedy g = s.integrityFailure g.site r .sweep := by
  have found : ((s.candidates g.site g.domain).find? fun r => r.syndrome != 0) = some r :=
    find?_least (candidates_rise rises) mem (by simpa using damaged) fun y hy bad => least y hy (by simpa using bad)
  simp only [State.sweepGreedy, found]

theorem sweepGreedy_none (none : s.candidates g.site g.domain = []) : s.sweepGreedy g = s.concludeDomain g.site g.domain := by
  simp only [State.sweepGreedy, none, List.find?_nil, bestLine]

section
variable (rises : keysRise s.store.lines) (sound : ∀ y ∈ s.candidates g.site g.domain, y.syndrome = 0) (best : isBest (s.candidates g.site g.domain) b)
include rises sound best

theorem sweepGreedy_best (spare : 0 < s.available g.site g.domain b.key.axis) : s.sweepGreedy g = s.sweepAssign .sweep b g := by
  have spared : 1 ≤ s.available g.site g.domain b.key.axis := spare
  simp only [State.sweepGreedy, find_sound sound, bestLine_of_isBest (candidates_rise rises) best, if_pos spared]

theorem sweepGreedy_other (full : s.available g.site g.domain b.key.axis = 0)
    (other : isBest ((s.candidates g.site g.domain).filter fun r => r.key.axis == b.key.axis.other) o)
    (spare : 0 < s.available g.site g.domain o.key.axis) : s.sweepGreedy g = s.sweepAssign .sweep o g := by
  have spent : ¬ 1 ≤ s.available g.site g.domain b.key.axis := by omega
  have spared : 1 ≤ s.available g.site g.domain o.key.axis := spare
  simp only [State.sweepGreedy, find_sound sound, bestLine_of_isBest (candidates_rise rises) best, if_neg spent,
    bestLine_of_isBest (List.Pairwise.filter _ (candidates_rise rises)) other, if_pos spared]

theorem sweepGreedy_lost (full : ∀ a, s.available g.site g.domain a = 0) :
    s.sweepGreedy g = (s.loseDomain g.site g.domain).concludeDomain g.site g.domain := by
  have spent (a : Axis) : ¬ 1 ≤ s.available g.site g.domain a := by
    rw [full]
    exact Nat.not_succ_le_zero 0
  simp only [State.sweepGreedy, find_sound sound, bestLine_of_isBest (candidates_rise rises) best, if_neg (spent _)]
  split <;> rfl

end

end

end Sys2Proof.Machine

end

section
/-! What a sweep step leaves: a domain concluded or lost, the site's lines lost, or a line assigned (R58, R86 to R90, R102 to R110). -/

namespace Sys2Proof.Machine

section
variable {s a m t : State} {i : SiteNo} {d : DomainNo} {e c : Context} {x y : DomainRec} {p q : SweepPos} {r l : LineRec} {o : Origin} {list : List SettleEntry}
  {changed : List Block}

/-- The blocks that a sweep step may have changed before it comes to its end. -/
def sweepBlocks : List Block := [.sites, .lines, .low, .settleList, .sweepPos]

/-- A background grant that leaves the Export Engine to the end of the event, and nothing else. -/
theorem background_onExport {all : List Block} {w : WorkItem} (hw : w ≠ .intake) (hf : FrameBut changed s t)
    (apart : Block.pendingSet ∉ changed ∧ Block.rotation ∉ changed) (settled : t.linksSettled) (hall : ∀ b, b ∈ changed ++ [.export_, .clock] → b ∈ all) :
    s.Works (t.backed w) w all :=
  background_works hw hf apart ((finish_frame_export (s := t.grouped.working w) (linksSettled_congr settled rfl rfl)).mono (by simp)) hall

theorem backed_collectionQueue (w : WorkItem) : (t.backed w).ex.collectionQueue = t.ex.collectionQueue := finish_collectionQueue (t.grouped.working w)

theorem backed_followed (w : WorkItem) : t.ex.Followed (t.backed w) := finish_followed (t.grouped.working w)

theorem backed_ex (w : WorkItem) (rest : t.ex.atRest) : (t.backed w).ex = t.ex := finish_ex_of_rest (t := t.grouped.working w) rest

/-! ### A domain concluded (R106, R107) -/

/-- The record of a domain is concluded. -/
def State.domainConcluded (s : State) (i : SiteNo) (d : DomainNo) : State := s.modDomain i d fun r => { r with state := r.concluded }

theorem domainConcluded_count (ctx : a.ctx i = some e) :
    (((a.domainConcluded i d).ctx i).map (·.geometry.domainCount)).getD 0 = e.geometry.domainCount := by
  have edited : (a.domainConcluded i d).ctx i = _ := (modDomain_contextEdited a i d _).ctx
  rw [edited, ctx] <;> rfl

theorem concludeDomain_last (ctx : a.ctx i = some e) (last : e.geometry.domainCount ≤ d.val + 1) :
    a.concludeDomain i d = (a.domainConcluded i d).toHeld i := by
  have count := domainConcluded_count (d := d) ctx
  show (if h : d.val + 1 < 16 then _ else _) = _
  split
  · refine if_neg fun more => ?_
    have inside : d.val + 1 < (((a.domainConcluded i d).ctx i).map (·.geometry.domainCount)).getD 0 := more
    rw [count] at inside
    omega
  · rfl

theorem concludeDomain_next (ctx : a.ctx i = some e) (more : d.val + 1 < e.geometry.domainCount) (count : e.geometry.domainCount ≤ 16) :
    ∃ q : SweepPos, a.concludeDomain i d = (a.domainConcluded i d).setSweepPos (some q) ∧
      q.site = i ∧ q.domain.val = d.val + 1 ∧ q.phase = .enter ∧ q.cursor = none ∧ q.renew = false := by
  have inside : d.val + 1 < 16 := Nat.lt_of_lt_of_le more count
  refine ⟨{ site := i, domain := ⟨d.val + 1, inside⟩, phase := .enter, cursor := none, renew := false }, ?_, rfl, rfl, rfl, rfl, rfl⟩
  refine (dif_pos inside).trans (if_pos ?_)
  rw [← domainConcluded_count (d := d) ctx] at more
  exact more

/-- Site i as a concluded domain leaves it, its context having been e and the concluded record being y. -/
def State.siteConcluded (s u : State) (i : SiteNo) (d : DomainNo) (e : Context) (y : DomainRec) : Prop :=
  u.site i = { s.site i with ctx := some { e with
    domains := e.domains.set d.val y, phase := if e.geometry.domainCount ≤ d.val + 1 then .held else .sweeping } } ∧
  (∀ j, j ≠ i → u.site j = s.site j) ∧
  if e.geometry.domainCount ≤ d.val + 1
  then u.engine.sweepPos = none ∧ u.lists.sweepQueue = s.lists.sweepQueue.filter (fun j => !(j == i)) ∧ u.ex.collectionQueue = s.ex.collectionQueue ++ [i] ∧
    ({ s.ex with collectionQueue := s.ex.collectionQueue ++ [i] } : Exporter).Followed u
  else (∃ q, u.engine.sweepPos = some q ∧ q.site = i ∧ q.domain.val = d.val + 1 ∧ q.phase = .enter ∧ q.cursor = none ∧ q.renew = false) ∧
    u.lists.sweepQueue = s.lists.sweepQueue ∧ u.ex = s.ex

theorem domainConcluded_site (site : a.site i = { s.site i with ctx := some e }) (others : ∀ j, j ≠ i → a.site j = s.site j)
    (record : e.domains[d.val]? = some y) (j : SiteNo) : (a.domainConcluded i d).site j =
      if j = i then { s.site i with ctx := some { e with domains := e.domains.set d.val { y with state := y.concluded } } } else s.site j := by
  have edited := modDomain_contextEdited a i d fun r => { r with state := r.concluded }
  have ctx : a.ctx i = some e := congrArg Site.ctx site
  split
  · rename_i same
    have set : e.domains.modify d.val (fun r => { r with state := r.concluded }) = e.domains.set d.val { y with state := y.concluded } :=
      modify_domain record _
    rw [same]
    refine edited.site.trans ?_
    rw [ctx, site, Option.map_some, Context.editDomain, set]
  · rename_i other
    exact (edited.others j other).trans (others j other)

section
variable (hs : s.Settled) (due : s.due = .sweep) (sweeping : s.siteState i = .sweeping)
include hs sweeping

/-- A sweep step that moves the site to HELD from the state a. -/
theorem sweep_holds (site : a.site i = { s.site i with ctx := some e }) (others : ∀ j, j ≠ i → a.site j = s.site j) (frame : FrameBut changed s a)
    (inside : ∀ b ∈ changed, b ∈ sweepBlocks) : s.Works ((a.toHeld i).backed .sweep) .sweep
        (changed ++ [.sites, .sweepPos, .sweepQueue, .collectionQueue, .export_, .clock]) ∧
      ((a.toHeld i).backed .sweep).site i = { s.site i with ctx := some { e with phase := .held } } ∧
      (∀ j, j ≠ i → ((a.toHeld i).backed .sweep).site j = s.site j) ∧
      ((a.toHeld i).backed .sweep).engine.sweepPos = a.engine.sweepPos.filter (fun p => !(p.site == i)) ∧
      ((a.toHeld i).backed .sweep).lists.sweepQueue = s.lists.sweepQueue.filter (fun j => !(j == i)) ∧
      ((a.toHeld i).backed .sweep).ex.collectionQueue = s.ex.collectionQueue ++ [i] ∧
      ({ s.ex with collectionQueue := s.ex.collectionQueue ++ [i] } : Exporter).Followed ((a.toHeld i).backed .sweep) := by
  have apart (b : Block) (hb : b ∉ sweepBlocks) : b ∉ changed := fun mem => hb (inside b mem)
  have ex : a.ex = s.ex := frame.ex (apart _ (by decide)) (apart _ (by decide)) (apart _ (by decide))
  have queue : a.lists.sweepQueue = s.lists.sweepQueue := frame .sweepQueue (apart _ (by decide))
  have collected : (a.toHeld i).ex = { s.ex with collectionQueue := s.ex.collectionQueue ++ [i] } := by rw [← ex] <;> rfl
  have moved : FrameBut (changed ++ [.sites, .sweepPos, .sweepQueue, .collectionQueue]) s (a.toHeld i) := frame.then (toHeld_frame a i) (by simp; grind)
  have held (j : SiteNo) : (a.toHeld i).site j = if j = i then { s.site i with ctx := some { e with phase := .held } } else s.site j := by
    rw [toHeld_site]
    split
    · rw [State.ctx, site] <;> rfl
    · rename_i other
      exact others j other
  have settled : (a.toHeld i).linksSettled := by
    refine linksSettled_of_closed hs.linksSettled (fun j other => (held j).trans (if_neg other)) (by rw [sweeping]; decide) ?_
      (show (a.toHeld i).links = s.links from frame .links (apart _ (by decide)))
    rw [siteState_of_ctx (congrArg Site.ctx ((held i).trans (if_pos rfl)))]
    exact (by decide : SiteState.held ≠ .testing)
  have quiet : Block.pendingSet ∉ changed ∧ Block.rotation ∉ changed := ⟨apart _ (by decide), apart _ (by decide)⟩
  refine ⟨background_onExport nofun moved (by simpa using quiet) settled (by simp), ?_, fun j other => ?_, backed_sweepPos .sweep, ?_, ?_, ?_⟩
  · rw [backed_site, held, if_pos rfl]
  · rw [backed_site, held, if_neg other]
  · rw [backed_lists, ← queue] <;> rfl
  · rw [backed_collectionQueue, collected]
  · rw [← collected]
    exact backed_followed .sweep

include due

/-- A sweep step that concludes a domain from the state a. -/
theorem sweep_concludes (effect : s.sweepStep = a.concludeDomain i d) (site : a.site i = { s.site i with ctx := some e })
    (others : ∀ j, j ≠ i → a.site j = s.site j) (record : e.domains[d.val]? = some y) (phase : e.phase = .sweeping)
    (count : e.geometry.domainCount ≤ 16) (pos : a.engine.sweepPos = some p) (own : p.site = i) (frame : FrameBut changed s a)
    (inside : ∀ b ∈ changed, b ∈ sweepBlocks) :
    ∃ u, exec .sweepStep s = .next u ∧ s.Works u .sweep (changed ++ [.sites, .sweepPos, .sweepQueue, .collectionQueue, .export_, .clock]) ∧
      s.siteConcluded u i d e { y with state := y.concluded } ∧ u.store = a.store ∧ u.engine.settleList = a.engine.settleList := by
  have ctx : a.ctx i = some e := congrArg Site.ctx site
  have apart (b : Block) (hb : b ∉ sweepBlocks) : b ∉ changed := fun mem => hb (inside b mem)
  have ex : a.ex = s.ex := frame.ex (apart _ (by decide)) (apart _ (by decide)) (apart _ (by decide))
  have links : a.links = s.links := frame .links (apart _ (by decide))
  have queue : a.lists.sweepQueue = s.lists.sweepQueue := frame .sweepQueue (apart _ (by decide))
  have concluded : FrameBut [.sites] a (a.domainConcluded i d) := modDomain_frame a i d _
  have sites := domainConcluded_site (d := d) site others record
  refine ⟨_, exec_sweepStep due, ?_⟩
  rw [effect, State.siteConcluded]
  by_cases last : e.geometry.domainCount ≤ d.val + 1
  · rw [concludeDomain_last ctx last, if_pos last, if_pos last]
    have own_site := (sites i).trans (if_pos rfl)
    obtain ⟨works, held, rest, left, queued, collected, followed⟩ := sweep_holds hs sweeping own_site (fun j other => (sites j).trans (if_neg other))
      (frame.then concluded (fun _ hb => hb)) (fun b hb => (List.mem_append.mp hb).elim (inside b) fun last => List.mem_singleton.mp last ▸ List.mem_cons_self)
    refine ⟨⟨works.item, works.group, works.head, works.sources, works.frame.mono (by simp)⟩, ⟨held, rest, left.trans ?_, queued, collected, followed⟩, ?_, ?_⟩
    · rw [show (a.domainConcluded i d).engine.sweepPos = some p from pos]
      simp [own]
    · rw [backed_store] <;> rfl
    · rw [backed_settleList] <;> rfl
  · obtain ⟨q, next, position⟩ := concludeDomain_next (d := d) ctx (Nat.not_le.mp last) count
    rw [next, if_neg last, if_neg last]
    have moved : FrameBut (changed ++ [.sites, .sweepPos]) s ((a.domainConcluded i d).setSweepPos (some q)) :=
      (frame.then concluded (c := changed ++ [.sites]) (fun _ hb => hb)).then (setSweepPos_frame _ _) (by simp)
    have kept (j : SiteNo) : ((a.domainConcluded i d).setSweepPos (some q)).site j = _ := sites j
    have settled : ((a.domainConcluded i d).setSweepPos (some q)).linksSettled := by
      refine linksSettled_of_closed hs.linksSettled (fun j other => (kept j).trans (if_neg other)) (by rw [sweeping]; decide) ?_ links
      rw [siteState_of_ctx (congrArg Site.ctx ((kept i).trans (if_pos rfl))), phase]
      exact (by decide : SiteState.sweeping ≠ .testing)
    have rest : ((a.domainConcluded i d).setSweepPos (some q)).ex.atRest := by
      rw [show ((a.domainConcluded i d).setSweepPos (some q)).ex = s.ex from ex]
      exact hs.exportAtRest
    have quiet : Block.pendingSet ∉ changed ∧ Block.rotation ∉ changed := ⟨apart _ (by decide), apart _ (by decide)⟩
    have works := background_quietly (w := .sweep) nofun moved (by simpa using quiet) settled rest
    refine ⟨⟨works.item, works.group, works.head, works.sources, works.frame.mono (by simp; grind)⟩,
      ⟨?_, fun j other => ?_, ⟨q, backed_sweepPos .sweep, position⟩, ?_, ?_⟩, ?_, ?_⟩
    · rw [backed_site, kept, if_pos rfl, phase]
    · rw [backed_site, kept, if_neg other]
    · rw [backed_lists, ← queue] <;> rfl
    · rw [backed_ex .sweep rest, ← ex] <;> rfl
    · rw [backed_store] <;> rfl
    · rw [backed_settleList] <;> rfl

/-! ### The site's lines lost (R58, R101) -/

/-- A sweep step ends in an integrity failure after work on site i. -/
theorem sweep_loses {edit : Context → Context} (effect : s.sweepStep = m.integrityFailure i r .sweep) (ed : s.Edited m i edit)
    (frame : FrameBut changed s m) (inside : ∀ b ∈ changed, b ∈ sweepBlocks) (pos : m.engine.sweepPos = some p) (own : p.site = i) :
    ∃ u, exec .sweepStep s = .next u ∧ (s.GrantLoses u i r.index .sweep edit .sweep [.rotation] ∧ u.engine.lastGroup = .background ∧
      u.engine.lastHead = s.engine.lastHead ∧ u.engine.sweepPos = none) ∧ u.store = (m.integrityFailure i r .sweep).store := by
  obtain ⟨loses, group, head, left⟩ := background_loses (w := .sweep) (r := r) (act := .sweep) ed hs.exportAtRest frame inside
  refine ⟨_, exec_sweepStep due, ?_⟩
  rw [effect]
  refine ⟨⟨loses, group, head, ?_⟩, backed_store .sweep⟩
  rw [State.SweepPosLeft, ed.siteState, if_pos sweeping, pos] at left
  rw [left]
  simp [own]

end

/-! ### The state from which a step goes on (R101 to R104) -/

/-- A sweep step has set the position p and the Settle List `list`, and nothing else. -/
def State.atSweep (s : State) (list : List SettleEntry) (p : SweepPos) : State :=
  { s with engine := { s.engine with settleList := list, sweepPos := some p } }

theorem atSweep_frame (s : State) (list : List SettleEntry) (p : SweepPos) : FrameBut [.settleList, .sweepPos] s (s.atSweep list p) :=
  (settleList_frame s list).then (setSweepPos_frame _ (some p)) (by simp)

theorem atSweep_edited (kept : (list.filter fun e => !(e.site == i)) = s.engine.settleList.filter fun e => !(e.site == i)) :
    s.Edited (s.atSweep list p) i id :=
  ⟨(edited_refl s i).site, fun _ _ => rfl, rfl, kept, rfl, rfl, rfl, fun _ => ⟨rfl, rfl, rfl⟩⟩

/-! ### A line assigned (R86 to R88, R102) -/

/-- A sweep step whose effect is the assignment of line l, the position being q. -/
theorem sweepAssign_done (found : s.findLine l.key = some l) (sound : s.partnersSound l.key l.cross) : ∃ m,
    (s.atSweep list p).sweepAssign o l q = m.assignClaims .sweep l.key o ∧ (s.atSweep list q).AssignedOnly m l.key o l := by
  obtain ⟨m, assigns, assigned⟩ := assign_sound (act := .sweep) (o := o) (s := s.atSweep list q) found sound
  refine ⟨m, ?_, assigned⟩
  have run : ((s.atSweep list q).assign .sweep o l.key l.cross).state = m.assignClaims .sweep l.key o := congrArg Run.state assigns
  exact run

theorem sweepAssign_fails {z : LineRec} (bad : s.firstBadPartner l z) : ∃ m,
    (s.atSweep list p).sweepAssign o l q = m.integrityFailure l.key.site z .sweep ∧
      (s.atSweep list q).Edited m l.key.site (fun c => c.editDomain l.key.domain (DomainRec.oneAssigned l.key.axis)) ∧
      FrameBut [.sites, .lines, .low] (s.atSweep list q) m ∧ s.LowTrack m 0 := by
  obtain ⟨pre, y, post, cross, before, partner, damaged⟩ := bad
  obtain ⟨m, halts, edited, frame, low⟩ := assign_damaged (act := .sweep) (o := o) (post := post) (s := s.atSweep list q) before partner damaged
  refine ⟨m, ?_, edited, frame, low ((lowTrack_refl s).kept rfl rfl rfl)⟩
  have run : ((s.atSweep list q).assign .sweep o l.key l.cross).state = m.integrityFailure l.key.site z .sweep := by
    rw [cross]
    exact congrArg Run.state halts
  exact run

section
variable (hs : s.Settled) (due : s.due = .sweep) (domain : l.key.domain = d)
include hs due domain

theorem sweep_assigns_fails (site : l.key.site = i) (own : q.site = i) (kept : (list.filter fun e => !(e.site == i)) = s.engine.settleList.filter fun e => !(e.site == i)) (sweeping : s.siteState i = .sweeping)
    {z : LineRec} (effect : s.sweepStep = (s.atSweep list p).sweepAssign o l q) (bad : s.firstBadPartner l z) :
    ∃ u, exec .sweepStep s = .next u ∧ (s.GrantLoses u i z.index .sweep (fun c => c.editDomain d (DomainRec.oneAssigned l.key.axis)) .sweep [.rotation] ∧
      u.engine.lastGroup = .background ∧ u.engine.lastHead = s.engine.lastHead ∧ u.engine.sweepPos = none) ∧ s.LowAfter u 0 := by
  obtain ⟨m, fails, edited, frame, low⟩ := sweepAssign_fails (list := list) (p := p) (q := q) (o := o) bad
  rw [site] at fails edited
  rw [domain] at edited
  have ed : s.Edited m i fun c => c.editDomain d (DomainRec.oneAssigned l.key.axis) :=
    ⟨edited.site, edited.others, edited.lines, edited.settle.trans kept, edited.table, edited.lists, edited.collectionQueue, edited.keeps⟩
  have whole : FrameBut sweepBlocks s m := (atSweep_frame s list q).then frame (by simp [sweepBlocks])
  obtain ⟨u, run, loses, store⟩ := sweep_loses hs due sweeping (effect.trans fails) ed whole (fun _ hb => hb) (frame .sweepPos (by decide)) own
  exact ⟨u, run, loses, ((low.lost z).kept (u := u) (by rw [store]) (by rw [store]) (by rw [store])).low⟩

/-- An assignment of GREEDY (R105). -/
theorem sweep_assigns_greedily (site : l.key.site = i) (effect : s.sweepStep = (s.atSweep list p).sweepAssign .sweep l q) (found : s.findLine l.key = some l)
    (sound : s.partnersSound l.key l.cross) : ∃ u, exec .sweepStep s = .next u ∧ s.Works u .sweep sweepBlocks ∧ s.Assigned u l.key .sweep l ∧
      s.LowAfter u 0 ∧ u.engine.settleList = list ∧ s.ContextEdited u i (fun c => c.editDomain d (DomainRec.oneAssigned l.key.axis)) ∧
      u.engine.sweepPos = some q := by
  obtain ⟨m, assigns, assigned⟩ := sweepAssign_done (list := list) (p := p) (q := q) (o := .sweep) found sound
  have claims : m.assignClaims .sweep l.key .sweep = m := rfl
  have context : s.ContextEdited m i fun c => c.editDomain d (DomainRec.oneAssigned l.key.axis) := by
    rw [← site, ← domain]
    exact ⟨assigned.context.site, assigned.context.others⟩
  have frame : FrameBut sweepBlocks s m := (atSweep_frame s list q).then assigned.frame (by simp [sweepBlocks])
  have ex : m.ex = s.ex := frame.ex (by decide) (by decide) (by decide)
  refine ⟨_, exec_sweepStep due, ?_⟩
  rw [effect, assigns, claims]
  refine ⟨background_quietly nofun frame (by decide) (context.linksSettled (fun _ => rfl) hs.linksSettled (frame .links (by decide)))
    (by rw [ex]; exact hs.exportAtRest), ?_, ?_, ?_, context.kept (backed_sites .sweep), ?_⟩
  · exact assigned_congr assigned.toAssigned ⟨rfl, rfl⟩ ⟨by rw [backed_store], backed_domain .sweep⟩
  · exact (assigned.low ((lowTrack_refl s).kept rfl rfl rfl)).backed.low
  · rw [backed_settleList]
    exact assigned.frame .settleList (by decide)
  · rw [backed_sweepPos]
    exact assigned.frame .sweepPos (by decide)

/-- A MUST assignment of a pass (R104). -/
theorem sweep_assigns_must (effect : s.sweepStep = (s.atSweep list p).sweepAssign .must l q) (found : s.findLine l.key = some l)
    (sound : s.partnersSound l.key l.cross) : ∃ u, exec .sweepStep s = .next u ∧
      s.Works u .sweep (sweepBlocks ++ [.coTable, .tableFull, .stopNotices, .links]) ∧ s.Assigned u l.key .must l ∧
      s.LowAfter u 0 ∧ u.engine.settleList = list ∧ s.ToldOfMust u l.key (fun c => c.editDomain d (DomainRec.oneAssigned l.key.axis)) ∧
      (s.LinksFollow u fun _ l => l) ∧ u.engine.sweepPos = some q := by
  obtain ⟨m, assigns, assigned⟩ := sweepAssign_done (list := list) (p := p) (q := q) (o := .must) found sound
  have claims : m.assignClaims .sweep l.key .must = m.coJoin l.key.site l.key.domain l.key.axis l.key.addr := rfl
  rw [claims] at assigns
  have told := coJoin_frame m l.key.site l.key.domain l.key.axis l.key.addr
  have frame : FrameBut (sweepBlocks ++ [.coTable, .tableFull, .stopNotices]) s (m.coJoin l.key.site l.key.domain l.key.axis l.key.addr) :=
    ((atSweep_frame s list q).then assigned.frame (c := sweepBlocks) (by simp [sweepBlocks])).then told (by simp [sweepBlocks])
  have ex : (m.coJoin l.key.site l.key.domain l.key.axis l.key.addr).ex = s.ex := frame.ex (by decide) (by decide) (by decide)
  have beside : s.Beside m l.key.site fun c => c.editDomain d (DomainRec.oneAssigned l.key.axis) := by
    rw [← domain]
    exact ⟨⟨assigned.context.site, assigned.context.others⟩, assigned.frame.co (by decide) (by decide) (by decide), assigned.frame .stopNotices (by decide)⟩
  refine ⟨_, exec_sweepStep due, ?_⟩
  rw [effect, assigns]
  refine ⟨background_onLinks nofun frame (by decide) (by rw [ex]; exact hs.exportAtRest) (by simp), ?_, ?_, ?_, ?_, ?_, ?_⟩
  · refine assigned_congr assigned.toAssigned ⟨rfl, rfl⟩ ⟨by rw [backed_store]; exact told .lines (by decide), ?_⟩
    rw [backed_domain]
    exact domain?_of_domains (coJoin_domains _ _ _) _
  · have low := assigned.low ((lowTrack_refl s).kept (u := s.atSweep list q) rfl rfl rfl)
    have kept : s.LowTrack (m.coJoin l.key.site l.key.domain l.key.axis l.key.addr) 0 :=
      low.kept (congrArg List.length (show _ = _ from told .lines (by decide))) (told .lowWater (by decide)) (told .low (by decide))
    exact kept.backed.low
  · rw [backed_settleList]
    exact (show _ = _ from told .settleList (by decide)).trans (assigned.frame .settleList (by decide))
  · exact told_of_beside beside (editDomain_flagFree _ _) (backed_co .sweep) (backed_lists .sweep) (backed_sites .sweep)
  · exact worked_linksFollow (t := (m.coJoin l.key.site l.key.domain l.key.axis l.key.addr).grouped) .sweep _ fun k =>
      congrArg (·[k]) (frame .links (by decide))
  · rw [backed_sweepPos]
    exact (show _ = _ from told .sweepPos (by decide)).trans (assigned.frame .sweepPos (by decide))

end

end

end Sys2Proof.Machine

end

section
/-! The sweep step, phase by phase of its position (R101 to R107, R110). -/

namespace Sys2Proof.Machine

section
variable {s a m t : State} {i : SiteNo} {d : DomainNo} {e c : Context} {x y : DomainRec} {p q g : SweepPos} {r l : LineRec} {list : List SettleEntry}
  {rest : List SiteNo}

/-! ### A domain lost by a sweep (R90, R106) -/

/-- The loss of a domain stops no site early but a TESTING one (R33). -/
theorem loseDomain_frame_late (late : s.siteState i ≠ .testing) : FrameBut [.sites, .lines, .low, .settleList] s (s.loseDomain i d) := by
  have same : s.ContextEdited s i fun c => c.editDomain d id := by
    refine ⟨?_, fun _ _ => rfl⟩
    rw [show (fun c : Context => c.editDomain d id) = id from funext fun c => by simp [Context.editDomain], Option.map_id] <;> rfl
  have early := stopsEarly_congr (doomMarked_context same) fun _ => ⟨rfl, rfl⟩
  rw [loseDomain_eq, doom_eq, if_neg fun stops => late (early.mp stops).1]
  exact (domainStripped_frame s i d).then (modCtx_frame _ i _) (by simp)

theorem concluded_unrepairable (lost : y.state = .unrepairable) : ({ y with state := y.concluded } : DomainRec) = y := by
  rw [DomainRec.concluded, if_pos lost, ← lost]

/-- A sweep step that loses its domain. -/
theorem sweep_losesDomain (hs : s.Settled) (due : s.due = .sweep) (ctx : s.ctx i = some c) (phase : c.phase = .sweeping)
    (count : c.geometry.domainCount ≤ 16) (record : c.domains[d.val]? = some x) (own : p.site = i)
    (kept : (list.filter fun e => !(e.site == i && e.domain == d)) = s.engine.settleList.filter fun e => !(e.site == i && e.domain == d))
    (effect : s.sweepStep = ((s.atSweep list p).loseDomain i d).concludeDomain i d) :
    ∃ u, exec .sweepStep s = .next u ∧ s.siteConcluded u i d { c with domains := c.domains.set d.val { x with state := .unrepairable }, doomed := true }
        { x with state := .unrepairable } ∧ u.store.lines = s.withoutCandidates i d ∧ s.LowFollows u ∧
      u.engine.settleList = s.engine.settleList.filter (fun e => !(e.site == i && e.domain == d)) ∧
      s.Works u .sweep [.sites, .lines, .low, .settleList, .sweepPos, .sweepQueue, .collectionQueue, .export_, .clock] := by
  have sweeping : s.siteState i = .sweeping := by rw [siteState_of_ctx ctx, phase] <;> rfl
  have late : (s.atSweep list p).siteState i ≠ .testing := by
    rw [show (s.atSweep list p).siteState i = .sweeping from sweeping]
    decide
  have frame : FrameBut sweepBlocks s ((s.atSweep list p).loseDomain i d) := (atSweep_frame s list p).then (loseDomain_frame_late late) (by simp [sweepBlocks])
  have same : (s.atSweep list p).ContextEdited (s.atSweep list p) i fun c => c.editDomain d id := by
    refine ⟨?_, fun _ _ => rfl⟩
    rw [show (fun c : Context => c.editDomain d id) = id from funext fun c => by simp [Context.editDomain], Option.map_id] <;> rfl
  have lost := loseDomain_lost same rfl rfl
  have early : ¬ (s.atSweep list p).stopsEarly i := fun stops => late stops.1
  have set : c.domains.modify d.val (fun r => { r with state := .unrepairable }) = c.domains.set d.val { x with state := .unrepairable } :=
    modify_domain record _
  have site : ((s.atSweep list p).loseDomain i d).site i =
      { s.site i with ctx := some { c with domains := c.domains.set d.val { x with state := .unrepairable }, doomed := true } } := by
    have before : (s.atSweep list p).ctx i = some c := ctx
    rw [lost.site]
    simp only [if_neg early, before, Option.map_some, id, set]
    rfl
  have inside : (c.domains.set d.val { x with state := .unrepairable })[d.val]? = some { x with state := .unrepairable } := by
    obtain ⟨bound, -⟩ := List.getElem?_eq_some_iff.mp record
    simp [bound]
  have pos : ((s.atSweep list p).loseDomain i d).engine.sweepPos = some p := loseDomain_frame_late late .sweepPos (by decide)
  obtain ⟨u, run, works, concluded, store, settle⟩ := sweep_concludes hs due sweeping effect site lost.others inside phase count pos own frame (fun _ hb => hb)
  rw [concluded_unrepairable rfl] at concluded
  refine ⟨u, run, concluded, ?_, ?_, ?_, ⟨works.item, works.group, works.head, works.sources, works.frame.mono (by simp [sweepBlocks])⟩⟩
  · rw [store, loseDomain_lines] <;> rfl
  · rw [State.LowFollows, store]
    exact loseDomain_lowFollows (s.atSweep list p) i d
  · rw [settle, lost.settle]
    exact kept

/-! ### The phases of a step (R101, R103) -/

/-- The Settle List from which a step goes on: at its entry the domain's entries leave (R103). -/
def State.passList (s : State) (p : SweepPos) : List SettleEntry :=
  if p.phase = .enter then s.engine.settleList.filter fun e => !(e.site == p.site && e.domain == p.domain) else s.engine.settleList

theorem passList_domain (s : State) (p : SweepPos) : ((s.passList p).filter fun e => !(e.site == p.site && e.domain == p.domain)) =
    s.engine.settleList.filter fun e => !(e.site == p.site && e.domain == p.domain) := by
  rw [State.passList]
  split
  · rw [List.filter_filter]
    simp only [Bool.and_self]
  · rfl

theorem passList_site (s : State) (p : SweepPos) :
    ((s.passList p).filter fun e => !(e.site == p.site)) = s.engine.settleList.filter fun e => !(e.site == p.site) := by
  rw [State.passList]
  split
  · rw [List.filter_filter]
    refine List.filter_congr fun e _ => ?_
    cases e.site == p.site <;> simp
  · rfl

/-- The position from which the passes of a step go. -/
def SweepPos.passFrom (p : SweepPos) : SweepPos := if p.phase = .enter then { p with phase := .settle, cursor := none, renew := false } else p

theorem passFrom_place (p : SweepPos) : p.passFrom.site = p.site ∧ p.passFrom.domain = p.domain := by
  rw [SweepPos.passFrom]
  split <;> exact ⟨rfl, rfl⟩

theorem sweepPosFor_eq (s : State) (i : SiteNo) : s.sweepPosFor i = (match s.engine.sweepPos.filter (fun p => p.site == i) with
    | some p => p
    | none => { site := i, domain := 0, phase := .enter, cursor := none, renew := false }) := by
  rw [State.sweepPosFor]
  cases s.engine.sweepPos with
  | none => rfl
  | some p =>
    by_cases own : p.site = i
    · simp only [if_pos own, Option.filter_some, if_pos (beq_iff_eq.mpr own)]
    · simp only [if_neg own, Option.filter_some, if_neg (mt beq_iff_eq.mp own)]

theorem sweepStep_reason (queue : s.lists.sweepQueue = i :: rest) (ctx : s.ctx i = some c) (reason : c.reason ≠ none) : s.sweepStep = s.toHeld i := by
  have some_reason : (s.reasonOf i).isSome = true := by
    rw [State.reasonOf, ctx]
    exact Option.isSome_iff_ne_none.mpr reason
  simp only [State.sweepStep, queue, if_pos some_reason]

section
variable (queue : s.lists.sweepQueue = p.site :: rest) (none : s.reasonOf p.site = none) (pos : s.sweepPosFor p.site = p)
include queue none pos

theorem sweepStep_eq : s.sweepStep = match p.phase with
    | .enter => (s.setSweepPos (some p)).sweepEnter p
    | .settle => (s.setSweepPos (some p)).sweepSettle p
    | .greedy => (s.setSweepPos (some p)).sweepGreedy p := by
  have no_reason : ¬ (s.reasonOf p.site).isSome = true := by simp [none]
  simp only [State.sweepStep, queue, if_neg no_reason, pos] <;> rfl

theorem sweepStep_unrepairable (phase : p.phase = .enter) (lost : (s.domain? p.site p.domain).map (·.state) = some .unrepairable) :
    s.sweepStep = (s.setSweepPos (some p)).concludeDomain p.site p.domain := by
  rw [sweepStep_eq queue none pos, phase]
  exact if_pos lost

theorem sweepStep_settles (settles : p.phase = .enter ∧ (s.domain? p.site p.domain).map (·.state) ≠ some .unrepairable ∨ p.phase = .settle) :
    s.sweepStep = (s.atSweep (s.passList p) p).sweepSettle p.passFrom := by
  rw [sweepStep_eq queue none pos]
  rcases settles with ⟨phase, kept⟩ | phase
  · rw [phase, State.passList, if_pos phase, SweepPos.passFrom, if_pos phase]
    exact if_neg kept
  · have other : ¬ p.phase = .enter := by simp [phase]
    rw [phase, State.passList, if_neg other, SweepPos.passFrom, if_neg other] <;> rfl

theorem sweepStep_greedy (phase : p.phase = .greedy) : s.sweepStep = (s.atSweep (s.passList p) p).sweepGreedy p := by
  rw [sweepStep_eq queue none pos, phase, State.passList, if_neg (by simp [phase])] <;> rfl

end

/-! ### A pass that stops (R104, R110) -/

theorem sweepStop_damaged (damaged : r.syndrome ≠ 0) : s.sweepStop q r = s.integrityFailure q.site r .sweep := if_pos damaged

theorem sweepStop_spare (sound : r.syndrome = 0) (spare : 0 < s.available q.site q.domain r.key.axis) :
    s.sweepStop q r = s.sweepAssign .must r { site := q.site, domain := q.domain, phase := .settle, cursor := some r.key, renew := true } := by
  rw [State.sweepStop, if_neg (Classical.not_not.mpr sound)]
  exact if_pos spare

theorem sweepStop_full (sound : r.syndrome = 0) (full : s.available q.site q.domain r.key.axis = 0) :
    s.sweepStop q r = (s.loseDomain q.site q.domain).concludeDomain q.site q.domain := by
  rw [State.sweepStop, if_neg (Classical.not_not.mpr sound)]
  exact if_neg (by omega)

end

end Sys2Proof.Machine

end

section
/-! One sweep step, from every phase of its position (R101 to R107, R110). -/

namespace Sys2Proof.Machine

section
variable {s : State} {p : SweepPos} {r b : LineRec} {rest : List SiteNo} {x : DomainRec}

theorem passFrom_reads (from_ : p.phase = .enter ∨ p.phase = .settle) : p.passFrom.cursor = (if p.phase = .settle then p.cursor else none) ∧
    (p.passFrom.renew = true ↔ p.phase = .settle ∧ p.renew = true) := by
  rw [SweepPos.passFrom]
  rcases from_ with phase | phase
  · simp [phase]
  · simp [phase]

/-- The step comes to its passes. -/
def SweepPos.settles (p : SweepPos) (x : DomainRec) : Prop := p.phase = .enter ∧ x.state ≠ .unrepairable ∨ p.phase = .settle

/-- No line stops a pass of the step. -/
def State.passesAll (s : State) (p : SweepPos) : Prop :=
  (∀ y ∈ s.ahead p.site p.domain (if p.phase = .settle then p.cursor else none), ¬ s.stopsPass p.site p.domain y) ∧
    (p.phase = .settle ∧ p.renew = true → ∀ y ∈ s.candidates p.site p.domain, ¬ s.stopsPass p.site p.domain y)

/-- The line at which the passes of the step stop. -/
def State.stepStop (s : State) (p : SweepPos) (r : LineRec) : Prop :=
  s.firstStop p.site p.domain (if p.phase = .settle then p.cursor else none) r ∨ (p.phase = .settle ∧ p.renew = true) ∧
    (∀ y ∈ s.ahead p.site p.domain (if p.phase = .settle then p.cursor else none), ¬ s.stopsPass p.site p.domain y) ∧ s.firstStop p.site p.domain none r

section
variable (queue : s.lists.sweepQueue = p.site :: rest) (none : s.reasonOf p.site = none) (pos : s.sweepPosFor p.site = p)
  (domain : s.domain? p.site p.domain = some x)
include queue none pos domain

theorem sweepStep_passes (settles : p.settles x) : s.sweepStep = (s.atSweep (s.passList p) p).sweepSettle p.passFrom := by
  refine sweepStep_settles queue none pos (settles.imp (And.imp_right fun kept lost => kept ?_) id)
  rw [domain] at lost
  exact Option.some.inj lost

theorem sweepStep_stops (rises : keysRise s.store.lines) (settles : p.settles x) (stop : s.stepStop p r) :
    ∃ q : SweepPos, q.site = p.site ∧ q.domain = p.domain ∧ s.sweepStep = (s.atSweep (s.passList p) p).sweepStop q r ∧ r ∈ s.candidates p.site p.domain := by
  obtain ⟨cursor, renew⟩ := passFrom_reads (settles.imp And.left id)
  obtain ⟨site, own⟩ := passFrom_place p
  have mem : r ∈ s.candidates p.site p.domain := by
    rcases stop with first | ⟨-, -, first⟩ <;> exact (List.mem_filter.mp first.1).1
  rw [State.stepStop, ← cursor, ← renew, ← site, ← own] at stop
  obtain ⟨q, place, place', effect⟩ := sweepSettle_stops (s := s.atSweep (s.passList p) p) (q := p.passFrom) rises stop
  exact ⟨q, place.trans site, place'.trans own, (sweepStep_passes queue none pos domain settles).trans effect, mem⟩

theorem sweepStep_reaches (reached : p.phase = .greedy ∨ p.settles x ∧ s.passesAll p) :
    ∃ g : SweepPos, g.site = p.site ∧ g.domain = p.domain ∧ g.phase = .greedy ∧ s.sweepStep = (s.atSweep (s.passList p) g).sweepGreedy g := by
  rcases reached with phase | ⟨settles, all⟩
  · exact ⟨p, rfl, rfl, phase, sweepStep_greedy queue none pos phase⟩
  · obtain ⟨cursor, renew⟩ := passFrom_reads (settles.imp And.left id)
    obtain ⟨site, own⟩ := passFrom_place p
    rw [State.passesAll, ← cursor, ← renew, ← site, ← own] at all
    obtain ⟨g, place, place', greedy, effect⟩ := sweepSettle_passes (s := s.atSweep (s.passList p) p) (q := p.passFrom) all.1 all.2
    exact ⟨g, place.trans site, place'.trans own, greedy, (sweepStep_passes queue none pos domain settles).trans effect⟩

end

end

end Sys2Proof.Machine

open Sys2Proof Sys2Proof.Machine

/-- Settles O49, by the phase of the position and by what the passes and GREEDY find. -/
theorem sweepStepFinishesTheSite : Obligations.SweepStepFinishesTheSite := by
  unfold Obligations.SweepStepFinishesTheSite
  have present {s : State} {i : SiteNo} {c : Context} (ctx : s.ctx i = some c) : s.site i = { s.site i with ctx := some c } := by
    rw [← show (s.site i).ctx = some c from ctx]
  refine ⟨fun s i rest c hs due queue ctx phase reason => ?_, ?_⟩
  · have sweeping : s.siteState i = .sweeping := by rw [siteState_of_ctx ctx, phase] <;> rfl
    obtain ⟨works, site, others, pos, left, collected, followed⟩ := sweep_holds hs sweeping (present ctx) (fun _ _ => rfl) (.refl s []) (by simp)
    refine ⟨_, (exec_sweepStep due).trans (by rw [sweepStep_reason queue ctx reason]), ⟨works.item, works.group, works.head, works.sources, works.frame.mono (by simp)⟩,
      site, others, queue ▸ left, ?_, fun alone => ?_, collected, followed⟩
    · rw [State.SweepPosLeft, if_pos sweeping, pos]
    · rw [pos, Option.filter_eq_none_iff]
      exact fun p at_p => by simpa using alone p at_p
  · intro s i rest c p x hs due queue ctx phase reason count place record rises
    have pos : s.sweepPosFor i = p := (sweepPosFor_eq s i).trans place.symm
    have own : p.site = i := pos ▸ sweepPosFor_site s i
    clear place
    subst own
    intro cands above exceeds stops first cursor renewed settles stopsAt passed last concluded domainLost integrityLost settled spent assigns greedily best
    have sweeping : s.siteState p.site = .sweeping := by rw [siteState_of_ctx ctx, phase] <;> rfl
    have none : s.reasonOf p.site = none := by rw [State.reasonOf, ctx]; exact reason
    have domain : s.domain? p.site p.domain = some x := by rw [State.domain?, ctx]; exact record
    have lines : s.candidates p.site p.domain = cands := candidates_eq s _ _
    have ahead (k : Option Key) : s.ahead p.site p.domain k = above k := by rw [State.ahead, lines]
    have reaches (reached : p.phase = .greedy ∨ settles ∧ passed) := sweepStep_reaches queue none pos domain (reached.imp id (And.imp_right fun all => by
      rw [State.passesAll, ahead, lines]
      exact all))
    have concludes {u : State} {D : List DomainRec} {doomed : Bool} {y : DomainRec} (set : D.set p.domain.val y = c.domains.set p.domain.val y)
        (h : s.siteConcluded u p.site p.domain { c with domains := D, doomed } y) : concluded y doomed u := by
      obtain ⟨site, others, place⟩ := h
      dsimp only at site place
      rw [set] at site
      refine ⟨site, others, ?_⟩
      by_cases at_end : last
      · rw [if_pos at_end] at place ⊢
        rw [← queue]
        exact place
      · rw [if_neg at_end] at place ⊢
        exact place
    have loses {q : SweepPos} {r : LineRec} (own : q.site = p.site)
        (effect : s.sweepStep = (s.atSweep (s.passList p) q).integrityFailure p.site r .sweep) :
        ∃ u, exec .sweepStep s = .next u ∧ integrityLost r.index id u ∧ s.LowFollows u := by
      obtain ⟨u, run, lost, store⟩ := sweep_loses hs due sweeping effect (atSweep_edited (passList_site s p)) (atSweep_frame s _ _) (by decide) rfl own
      refine ⟨u, run, lost, ?_⟩
      rw [State.LowFollows, store]
      exact integrityFailure_lowFollows (s.atSweep (s.passList p) q) p.site r .sweep
    have losesDomain {q : SweepPos} (own : q.site = p.site)
        (effect : s.sweepStep = ((s.atSweep (s.passList p) q).loseDomain p.site p.domain).concludeDomain p.site p.domain) :
        ∃ u, exec .sweepStep s = .next u ∧ domainLost u := by
      obtain ⟨u, run, lost, rest⟩ := sweep_losesDomain hs due ctx phase count record own (passList_domain s p) effect
      exact ⟨u, run, concludes (List.set_set ..) lost, rest⟩
    have mustAssigns {q : SweepPos} {r : LineRec} (mem : r ∈ s.candidates p.site p.domain) (effect : s.sweepStep =
          (s.atSweep (s.passList p) q).sweepAssign .must r { site := p.site, domain := p.domain, phase := .settle, cursor := some r.key, renew := true }) :
        assigns .must r [.coTable, .tableFull, .stopNotices, .links] fun u => s.ToldOfMust u r.key (spent r) ∧ (s.LinksFollow u fun _ l => l) ∧
          u.engine.sweepPos = some { site := p.site, domain := p.domain, phase := .settle, cursor := some r.key, renew := true } := by
      obtain ⟨line, site, own, -⟩ := mem_candidates.mp mem
      refine ⟨fun sound => sweep_assigns_must hs due own effect (findLine_of_mem rises line) sound, fun z bad => ?_⟩
      refine sweep_assigns_fails hs due own site ?_ (passList_site s p) sweeping effect bad
      rfl
    have greedyAssigns {q g : SweepPos} {r : LineRec} (mem : r ∈ s.candidates p.site p.domain)
        (place : q.site = p.site ∧ q.domain = p.domain ∧ q.phase = .greedy)
        (effect : s.sweepStep = (s.atSweep (s.passList p) g).sweepAssign .sweep r q) : greedily r := by
      obtain ⟨line, site, own, -⟩ := mem_candidates.mp mem
      refine ⟨fun sound => ?_, fun z bad => sweep_assigns_fails hs due own site place.1 (passList_site s p) sweeping effect bad⟩
      obtain ⟨u, run, works, done, low, list, context, at_q⟩ := sweep_assigns_greedily hs due own site effect (findLine_of_mem rises line) sound
      exact ⟨u, run, works, done, low, list, context, q, at_q, place⟩
    have stopAt {r : LineRec} (settling : settles) (stop : stopsAt r) : ∃ q : SweepPos, q.site = p.site ∧ q.domain = p.domain ∧
        s.sweepStep = (s.atSweep (s.passList p) p).sweepStop q r ∧ r ∈ s.candidates p.site p.domain := by
      refine sweepStep_stops queue none pos domain rises settling ?_
      simp only [State.stepStop, State.firstStop, ahead]
      exact stop
    refine ⟨fun enter lost => ?_, fun kept empty => ?_, fun r settling stop => ⟨fun damaged => ?_, fun sound spare => ?_, fun sound full => ?_⟩,
      fun reached => ?_⟩
    · have effect := sweepStep_unrepairable queue none pos enter (by rw [domain, ← lost] <;> rfl)
      obtain ⟨u, run, works, done, -⟩ := sweep_concludes hs due sweeping effect (present ctx) (fun _ _ => rfl) record phase count rfl rfl
        (setSweepPos_frame s _) (by decide)
      rw [concluded_unrepairable lost] at done
      exact ⟨u, run, ⟨works.item, works.group, works.head, works.sources, works.frame.mono (by simp)⟩, concludes rfl done⟩
    · have reached : p.phase = .greedy ∨ settles ∧ passed := by
        have all : passed := ⟨fun y hy => absurd (List.mem_filter.mp hy).1 (by rw [empty]; exact List.not_mem_nil),
          fun _ y hy => absurd hy (by rw [empty]; exact List.not_mem_nil)⟩
        cases at_phase : p.phase with
        | enter => exact .inr ⟨.inl ⟨at_phase, kept⟩, all⟩
        | settle => exact .inr ⟨.inr at_phase, all⟩
        | greedy => exact .inl rfl
      obtain ⟨g, site, own, -, effect⟩ := reaches reached
      have nothing : (s.atSweep (s.passList p) g).candidates g.site g.domain = [] := by
        rw [site, own]
        exact lines.trans empty
      rw [sweepGreedy_none nothing, site, own] at effect
      obtain ⟨u, run, works, done, -, list⟩ := sweep_concludes hs due sweeping effect (present ctx) (fun _ _ => rfl) record phase count rfl site
        (atSweep_frame s _ g) (by decide)
      have state : x.concluded = if x.failTotal = 0 ∧ x.assigned.row = 0 ∧ x.assigned.column = 0 then .clean else .repaired := if_neg kept
      rw [state] at done
      exact ⟨u, run, ⟨works.item, works.group, works.head, works.sources, works.frame.mono (by simp)⟩, concludes rfl done, list⟩
    · obtain ⟨q, site, -, effect, -⟩ := stopAt settling stop
      rw [sweepStop_damaged damaged, site] at effect
      exact loses rfl effect
    · obtain ⟨q, site, own, effect, mem⟩ := stopAt settling stop
      rw [sweepStop_spare sound (by rw [site, own]; exact spare), site, own] at effect
      exact mustAssigns mem effect
    · obtain ⟨q, site, own, effect, -⟩ := stopAt settling stop
      rw [sweepStop_full sound (by rw [site, own]; exact full), site, own] at effect
      exact losesDomain rfl effect
    · obtain ⟨g, site, own, greedy, effect⟩ := reaches reached
      have found : (s.atSweep (s.passList p) g).candidates g.site g.domain = cands := by
        rw [site, own]
        exact lines
      have rise : keysRise (s.atSweep (s.passList p) g).store.lines := rises
      have spares (a : Axis) : (s.atSweep (s.passList p) g).available g.site g.domain a = s.available p.site p.domain a := by
        rw [site, own] <;> rfl
      refine ⟨fun r mem damaged least => ?_, fun b most sound => ?_⟩
      · rw [sweepGreedy_damaged rise (by rw [found]; exact mem) damaged (by rw [found]; exact least), site] at effect
        exact loses site effect
      · have all : ∀ y ∈ (s.atSweep (s.passList p) g).candidates g.site g.domain, y.syndrome = 0 := by rw [found]; exact sound
        obtain ⟨mem, -, much⟩ := most
        have isMost : isBest ((s.atSweep (s.passList p) g).candidates g.site g.domain) b := by
          rw [found]
          exact ⟨mem, fun r hr => much r hr nofun⟩
        refine ⟨fun spare => ?_, fun o full other spare => ?_, fun noRow noColumn => ?_⟩
        · rw [sweepGreedy_best rise all isMost (by rw [spares]; exact spare)] at effect
          exact greedyAssigns (lines ▸ mem) ⟨site, own, greedy⟩ effect
        · obtain ⟨mem', axis, much'⟩ := other
          have isOther : isBest (((s.atSweep (s.passList p) g).candidates g.site g.domain).filter fun r => r.key.axis == b.key.axis.other) o := by
            rw [found]
            refine ⟨List.mem_filter.mpr ⟨mem', beq_iff_eq.mpr (axis _ rfl)⟩, fun r hr => ?_⟩
            obtain ⟨inside, same⟩ := List.mem_filter.mp hr
            exact much' r inside fun y own_axis => (eq_of_beq same).trans (Option.some.inj own_axis)
          rw [sweepGreedy_other rise all isMost (by rw [spares]; exact full) isOther (by rw [spares]; exact spare)] at effect
          exact greedyAssigns (lines ▸ mem') ⟨site, own, greedy⟩ effect
        · have none_left (a : Axis) : (s.atSweep (s.passList p) g).available g.site g.domain a = 0 := by
            rw [spares]
            cases a
            · exact noRow
            · exact noColumn
          rw [sweepGreedy_lost rise all isMost none_left, site, own] at effect
          exact losesDomain site effect

end
